-- ==== Sys2Proof/Word.lean ====
section
/-! DEFINITION. The words of the part: bytes on the links and in flash, and 16-bit audio samples (spec 00_scope 6.1). -/

namespace Sys2Proof

/-- One byte of a frame, of a page buffer or of flash. -/
abbrev Byte := BitVec 8

/-- One audio sample: a signed 16-bit integer (scope 6.1, "Sample"). -/
abbrev Sample := BitVec 16

end Sys2Proof
end

