-- ==== Sys2Proof/Config.lean ====
section
/-! DEFINITION. The fixed numbers of the part (scope section 4) and the values the spec leaves open, as constants with no body. -/

namespace Sys2Proof.Config

/-- Take records (scope 4; R1). -/
def takeRecords : Nat := 256
/-- Segment records, shared by all takes (R1). -/
def segmentRecords : Nat := 1024
/-- Mark records, one pool for all takes (R1, R16). -/
def markRecords : Nat := 4096
/-- Free mark records the directory keeps for the marks the part places (R16). -/
def markReserve : Nat := 16
/-- Damage entries per take (R2, R21). -/
def damageEntries : Nat := 16
/-- Marks a room's carry list holds (R27). -/
def carryMarks : Nat := 8
/-- A room mark is admitted while the carry list holds fewer marks than this (R45). -/
def carryRoomLimit : Nat := 7
/-- Records of the alert list (R189). -/
def alertRecords : Nat := 32
/-- Units that capture and refresh may not take (R139). -/
def captureReserve : Nat := 2
/-- Pages of an erase unit (scope 6.1). -/
def unitPages : Nat := 64
/-- Data bytes of a sector (scope 6.1). -/
def sectorBytes : Nat := 512
/-- Samples of a sector (scope 6.1). -/
def sectorSamples : Nat := 256
/-- Data bytes of a page (scope 6.1). -/
def pageDataBytes : Nat := 2048
/-- Spare bytes of a page (scope 6.1). -/
def spareBytes : Nat := 64
/-- Data and spare bytes of a page. -/
def pageBytes : Nat := 2112
/-- Units of the largest bank (scope 4), the stride between banks in the model's flash addresses. -/
def bankUnits : Nat := 8192
/-- Greatest length of a frame's body: the length field's 2,057 less the five bytes before the body (R197). -/
def frameBody : Nat := 2052
/-- Greatest length of a take in blocks (R2, R5). -/
def greatestLength : Nat := 16777215
/-- Greatest 16-bit counter value. -/
def max16 : Nat := 65535
/-- Greatest 32-bit counter value. -/
def max32 : Nat := 4294967295
/-- Values a wrapping 32-bit counter takes. -/
def wrap32 : Nat := 4294967296

/-- FREE VALUE (log entry 11). The 72 parity bits the Error Corrector computes for the 9-bit symbols of one code
word: the code's field, generator and parity placing lie outside the manual (R165). -/
opaque eccParity : List (BitVec 9) → BitVec 72

/-- FREE VALUE (log entry 10). Byte `offset` of the contents the spec leaves open at the `use`-th use: a page whose
program was interrupted or failed, a unit whose erase was interrupted or failed, a buffer whose read timed out
(R163, R164, R170). -/
opaque freeByte : Nat → Nat → Byte

end Sys2Proof.Config
end

