-- ==== Sys2Proof/Syntax.lean ====
section
/-! DEFINITION. The commands of the part: one constructor for each row of spec/opcode_table.json, and the types of their operands. -/

namespace Sys2Proof

/-- Room links 0 to 5. -/
abbrev RoomId := Fin 6
/-- Station links 0 to 7. -/
abbrev StationId := Fin 8
/-- Flash banks 0 to 3. -/
abbrev BankId := Fin 4

/-- The fifteen links (scope 3). -/
inductive LinkId where
  | room (r : RoomId)
  | station (k : StationId)
  | supervisor
  deriving DecidableEq, Repr

/-- The priority classes, in order of urgency (scope 6.4); their positions are their codes (R196). -/
inductive Cls where
  | rush | daily | regular
  deriving DecidableEq, Repr

/-- The channel counts a take or a room may have: 1, 2 or 4 (R2, R29). -/
inductive Channels where
  | one | two | four
  deriving DecidableEq, Repr

/-- The mark kinds, in the order of R16. -/
inductive MarkKind where
  | speaker | note | readback | break_ | gap | cut
  deriving DecidableEq, Repr

/-- The gap types (R16, R18). -/
inductive GapType where
  | filled | lost
  deriving DecidableEq, Repr

/-- The timing modes of a room (R29). -/
inductive Timing where
  | pushed | paced
  deriving DecidableEq, Repr

/-- The byte order of the samples on a link (scope 6.3). -/
inductive ByteOrder where
  | little | big
  deriving DecidableEq, Repr

/-- The lifecycle states of a take, in the order of R2. -/
inductive TakeState where
  | recording | closed | complete | released
  deriving DecidableEq, Repr

/-- A take stamp: court date and time, stored and reported and never interpreted (R2, R196). -/
structure Stamp where
  year : BitVec 16
  month : Byte
  day : Byte
  hour : Byte
  minute : Byte
  second : Byte
  deriving DecidableEq, Repr

/-- Directions of a mark search (R19). -/
inductive Direction where
  | before | after
  deriving DecidableEq, Repr

/-- Why the receiver drops a frame (R194). -/
inductive FrameFault where
  | badLength | badEndByte | notRequest
  deriving DecidableEq, Repr

/-- The result of a page program or a unit erase, from the bank's status (R156). -/
inductive OpResult where
  | pass | fail
  deriving DecidableEq, Repr

/-- What the Error Corrector finds in one code word as read (R167).
`clean`: no symbol in error. `corrected n`: `n` symbols corrected, the programmed contents restored.
`miscorrected n word`: more than four symbols in error, but near another code word, so reported CORRECTED(n) and
written back with contents that are not those programmed: the code word's data bytes and then its 9 parity bytes.
`uncorrectable`: left as read. -/
inductive CodeWordRead where
  | clean
  | corrected (n : Nat)
  | miscorrected (n : Nat) (word : List Byte)
  | uncorrectable
  deriving DecidableEq, Repr

/-- How a page came back from the medium at a page read: its 2048 data bytes and its 64 spare bytes as read, and what the
decode of those bytes finds in each code word (R156, R167, R168). A byte past the end of either list was read as stored. -/
structure PageRead where
  data : List Byte
  spare : List Byte
  w0 : CodeWordRead
  w1 : CodeWordRead
  w2 : CodeWordRead
  w3 : CodeWordRead
  deriving DecidableEq, Repr

/-- How a page came back at a spare read: its 64 spare bytes as read, a byte past the end of the list being read as stored,
and what the decode finds in code word 3 (R156, R168). -/
structure SpareRead where
  spare : List Byte
  w3 : CodeWordRead
  deriving DecidableEq, Repr

/-- The commands: requests received as good frames of type request on an admitted link class (each with its
frame's tag and body bytes, R194, R197), carrier events, dropped frames, timer and flash events. One constructor
per row of spec/opcode_table.json, in the table's order. -/
inductive Instr where
  | deviceReset
  | linkUp (l : LinkId)
  | linkDown (l : LinkId)
  | droppedFrame (l : LinkId) (why : FrameFault)
  | unknownRequestKind (l : LinkId) (kind : Byte) (tag : Byte)
  | takeStart (r : RoomId) (tag : Byte) (body : List Byte)
  | block (r : RoomId) (tag : Byte) (body : List Byte)
  | mark (r : RoomId) (tag : Byte) (body : List Byte)
  | takeStop (r : RoomId) (tag : Byte) (body : List Byte)
  | readbackStart (r : RoomId) (tag : Byte) (body : List Byte)
  | readbackRead (r : RoomId) (tag : Byte) (body : List Byte)
  | readbackStop (r : RoomId) (tag : Byte) (body : List Byte)
  | claim (k : StationId) (tag : Byte) (body : List Byte)
  | read (k : StationId) (tag : Byte) (body : List Byte)
  | pause (k : StationId) (tag : Byte) (body : List Byte)
  | resume (k : StationId) (tag : Byte) (body : List Byte)
  | seek (k : StationId) (tag : Byte) (body : List Byte)
  | setPlayback (k : StationId) (tag : Byte) (body : List Byte)
  | setStop (k : StationId) (tag : Byte) (body : List Byte)
  | done (k : StationId) (tag : Byte) (body : List Byte)
  | release (k : StationId) (tag : Byte) (body : List Byte)
  | status (k : StationId) (tag : Byte) (body : List Byte)
  | configureBank (tag : Byte) (body : List Byte)
  | rebuild (tag : Byte) (body : List Byte)
  | configureDevice (tag : Byte) (body : List Byte)
  | settingsHold (tag : Byte) (body : List Byte)
  | configureRoom (tag : Byte) (body : List Byte)
  | configureStation (tag : Byte) (body : List Byte)
  | setClass (tag : Byte) (body : List Byte)
  | setHold (tag : Byte) (body : List Byte)
  | releaseTake (tag : Byte) (body : List Byte)
  | direct (tag : Byte) (body : List Byte)
  | recall (tag : Byte) (body : List Byte)
  | markTyped (tag : Byte) (body : List Byte)
  | readAlerts (tag : Byte) (body : List Byte)
  | queryDevice (tag : Byte) (body : List Byte)
  | queryTakes (tag : Byte) (body : List Byte)
  | queryTake (tag : Byte) (body : List Byte)
  | querySegments (tag : Byte) (body : List Byte)
  | queryMarks (tag : Byte) (body : List Byte)
  | queryStation (tag : Byte) (body : List Byte)
  | queryReadback (tag : Byte) (body : List Byte)
  | queryRoom (tag : Byte) (body : List Byte)
  | queryQueue (tag : Byte) (body : List Byte)
  | queryStore (tag : Byte) (body : List Byte)
  | cadenceExpiry (r : RoomId)
  | operationTimeout (b : BankId)
  | programComplete (b : BankId) (result : OpResult)
  | pageReadComplete (b : BankId) (page : PageRead)
  | spareReadComplete (b : BankId) (page : SpareRead)
  | eraseComplete (b : BankId) (result : OpResult)
  | chipResetReady (b : BankId)
  | messageTransmitted (l : LinkId)
  deriving DecidableEq, Repr

end Sys2Proof
end

