-- ==== Sys2Proof/Decode.lean ====
section
/-! DEFINITION. From bytes to commands: frames (R194, R197), the field encoding of request bodies (R196), the fixed layout of
BLOCK (R198), and the table-word decoder, which reads no row because the table gives no row any bits. -/

namespace Sys2Proof

/-- The command that a table word spells. No row of spec/opcode_table.json has bits, so no word spells a command
(log entry 4). -/
def decodeTableWord (_nbits _w : Nat) : Option Instr := none

/-! ### Little-endian numbers and two's complement (R195, R196) -/

/-- The number a list of bytes stands for, the first byte the least significant. -/
def leNat : List Byte → Nat
  | [] => 0
  | b :: bs => b.toNat + 256 * leNat bs

/-- The `w` little-endian bytes of a number. -/
def toLE : Nat → Nat → List Byte
  | 0, _ => []
  | w + 1, n => BitVec.ofNat 8 n :: toLE w (n / 256)

/-- A four-byte number read as two's complement (R196). -/
def signed32 (n : Nat) : Int := if n < 2147483648 then n else (n : Int) - 4294967296

/-! ### Codes of enumerated values and sets (R196): the position in the defining list -/

def Cls.ofCode : Nat → Option Cls
  | 0 => some .rush
  | 1 => some .daily
  | 2 => some .regular
  | _ => none

def Cls.code : Cls → Nat
  | .rush => 0
  | .daily => 1
  | .regular => 2

def MarkKind.ofCode : Nat → Option MarkKind
  | 0 => some .speaker
  | 1 => some .note
  | 2 => some .readback
  | 3 => some .break_
  | 4 => some .gap
  | 5 => some .cut
  | _ => none

def MarkKind.code : MarkKind → Nat
  | .speaker => 0
  | .note => 1
  | .readback => 2
  | .break_ => 3
  | .gap => 4
  | .cut => 5

def Timing.ofCode : Nat → Timing
  | 0 => .pushed
  | _ => .paced

def Timing.code : Timing → Nat
  | .pushed => 0
  | .paced => 1

def ByteOrder.ofCode : Nat → ByteOrder
  | 0 => .little
  | _ => .big

def ByteOrder.code : ByteOrder → Nat
  | .little => 0
  | .big => 1

def TakeState.code : TakeState → Nat
  | .recording => 0
  | .closed => 1
  | .complete => 2
  | .released => 3

def GapType.code : GapType → Nat
  | .filled => 0
  | .lost => 1

/-- A channel count from the number that names it (R29). -/
def Channels.ofCount : Nat → Option Channels
  | 1 => some .one
  | 2 => some .two
  | 4 => some .four
  | _ => none

/-- The channel count as a number. -/
def Channels.count : Channels → Nat
  | .one => 1
  | .two => 2
  | .four => 4

/-- Blocks per page, 4 div channels (R67). -/
def Channels.bpp : Channels → Nat
  | .one => 4
  | .two => 2
  | .four => 1

/-! ### Fields (R196) -/

/-- A field: an id byte, a length byte and that many value bytes. -/
structure BodyField where
  id : Nat
  value : List Byte
  deriving DecidableEq, Repr

/-- Cuts a body into fields, `fuel` at most; none where a field's bytes overrun the body. -/
def cutFields : Nat → List Byte → Option (List BodyField)
  | _, [] => some []
  | 0, _ :: _ => none
  | _ + 1, [_] => none
  | fuel + 1, i :: n :: rest =>
    if rest.length < n.toNat then none
    else (cutFields fuel (rest.drop n.toNat)).map (BodyField.mk i.toNat (rest.take n.toNat) :: ·)

/-- The bytes of a field sequence. -/
def fieldBytes : List BodyField → List Byte
  | [] => []
  | f :: fs => BitVec.ofNat 8 f.id :: BitVec.ofNat 8 f.value.length :: (f.value ++ fieldBytes fs)

/-- How an argument's value is coded (R196). `flag` is an argument that is only present or absent, coded as an empty
value (log entry 14). -/
inductive Coding where
  | number (bytes : Nat)
  | signed
  | enum (values : Nat)
  | set (bytes members : Nat)
  | stamp
  | flag
  deriving DecidableEq, Repr

/-- The value bytes a coding takes. -/
def Coding.width : Coding → Nat
  | .number w => w
  | .signed => 4
  | .enum _ => 1
  | .set w _ => w
  | .stamp => 7
  | .flag => 0

/-- Whether value bytes of the right width are a value of the coding: an enumerated value within its list, a set with
no bit beyond its positions (R196). -/
def Coding.admits (c : Coding) (v : List Byte) : Bool :=
  v.length == c.width &&
    match c with
    | .enum n => decide (leNat v < n)
    | .set _ n => decide (leNat v < 2 ^ n)
    | _ => true

/-- One argument of a message: its coding and whether its rule requires it. Arguments are numbered from 1. -/
structure Arg where
  coding : Coding
  required : Bool
  deriving DecidableEq, Repr

/-- Whether the fields are each an argument of the list, coded as the list says, none of them twice (R196). -/
def fieldsFit (args : List Arg) : List BodyField → Bool
  | [] => true
  | f :: fs =>
    (match f.id with
      | 0 => false
      | i + 1 => match args[i]? with
        | none => false
        | some a => a.coding.admits f.value) &&
      !(fs.any fun g => g.id == f.id) && fieldsFit args fs

/-- The value bytes of the argument numbered `id`, where present. -/
def fieldValue (fs : List BodyField) (id : Nat) : Option (List Byte) :=
  (fs.find? fun f => f.id == id).map BodyField.value

/-- The argument numbered `id` as an unsigned number, where present. -/
def fieldNat (fs : List BodyField) (id : Nat) : Option Nat := (fieldValue fs id).map leNat

/-- Whether every required argument, counted from number `n`, is present. -/
def requiredPresent (fs : List BodyField) : Nat → List Arg → Bool
  | _, [] => true
  | n, a :: as => (!a.required || (fieldValue fs n).isSome) && requiredPresent fs (n + 1) as

/-- The fields of a body that keeps the encoding of R196 for the argument list; none is the BAD_ARG of R194 step 3. -/
def parseFields (args : List Arg) (body : List Byte) : Option (List BodyField) :=
  match cutFields body.length body with
  | none => none
  | some fs => if fieldsFit args fs && requiredPresent fs 1 args then some fs else none

/-- A required argument. -/
def Arg.req (c : Coding) : Arg := ⟨c, true⟩
/-- An optional argument. -/
def Arg.opt (c : Coding) : Arg := ⟨c, false⟩

/-- A stamp from its seven bytes (R196). -/
def Stamp.ofBytes : List Byte → Stamp
  | y0 :: y1 :: mo :: d :: h :: mi :: s :: _ => ⟨y1 ++ y0, mo, d, h, mi, s⟩
  | _ => ⟨0, 0, 0, 0, 0, 0⟩

/-- The seven bytes of a stamp (R196). -/
def Stamp.bytes (t : Stamp) : List Byte :=
  [t.year.setWidth 8, (t.year >>> 8).setWidth 8, t.month, t.day, t.hour, t.minute, t.second]

/-! ### The arguments of each request -/

/-- A request without arguments (TAKE_STOP, READBACK_READ, READBACK_STOP, READ, PAUSE, RESUME, STATUS, REBUILD,
QUERY_DEVICE). -/
def parseNone (body : List Byte) : Option Unit := (parseFields [] body).map fun _ => ()

/-- TAKE_START: a stamp and, optionally, a class (R32). -/
structure TakeStartArgs where
  stamp : Stamp
  cls : Option Cls
  deriving DecidableEq, Repr

def parseTakeStart (body : List Byte) : Option TakeStartArgs := do
  let fs ← parseFields [.req .stamp, .opt (.enum 3)] body
  let st ← fieldValue fs 1
  return ⟨Stamp.ofBytes st, (fieldNat fs 2).bind Cls.ofCode⟩

/-- MARK: a kind, a code and an optional back offset in centiseconds (R44). -/
structure MarkArgs where
  kind : MarkKind
  code : Nat
  back : Option Nat
  deriving DecidableEq, Repr

def parseMark (body : List Byte) : Option MarkArgs := do
  let fs ← parseFields [.req (.enum 6), .req (.number 1), .opt (.number 2)] body
  let k ← (fieldNat fs 1).bind MarkKind.ofCode
  let c ← fieldNat fs 2
  return ⟨k, c, fieldNat fs 3⟩

/-- Start forms of READBACK_START (R112). -/
inductive StartForm where
  | fromEnd
  | absolute
  | mark (kind : MarkKind) (count : Nat)
  deriving DecidableEq, Repr

/-- End forms of READBACK_START (R112). -/
inductive EndForm where
  | live
  | now
  | duration (cs : Nat)
  deriving DecidableEq, Repr

/-- READBACK_START (R112). -/
structure ReadbackStartArgs where
  start : StartForm
  offset : Int
  endForm : EndForm
  take : Option Nat
  mask : Option Nat
  deriving DecidableEq, Repr

/-- The start form of a code; a MARK start needs its kind and count. -/
def startFormOf (fs : List BodyField) : Nat → Option StartForm
  | 0 => some .fromEnd
  | 1 => some .absolute
  | _ => do
    let k ← (fieldNat fs 2).bind MarkKind.ofCode
    let n ← fieldNat fs 3
    return .mark k n

/-- The end form of a code; a DURATION end needs its duration. -/
def endFormOf (fs : List BodyField) : Nat → Option EndForm
  | 0 => some .live
  | 1 => some .now
  | _ => (fieldNat fs 6).map .duration

/-- The arguments of READBACK_START; a mark kind, count or duration that the forms named do not use is ignored, a kind beyond the list being
BAD_ARG (R112, R196; DESIGN CHOICE, log entry 56). -/
def parseReadbackStart (body : List Byte) : Option ReadbackStartArgs := do
  let fs ← parseFields [.req (.enum 3), .opt (.enum 6), .opt (.number 1), .req .signed, .req (.enum 3),
    .opt (.number 4), .opt (.number 2), .opt (.set 1 4)] body
  let form ← fieldNat fs 1
  let start ← startFormOf fs form
  let offset ← fieldNat fs 4
  let endCode ← fieldNat fs 5
  let endForm ← endFormOf fs endCode
  return ⟨start, signed32 offset, endForm, fieldNat fs 7, fieldNat fs 8⟩

/-- CLAIM: an optional class set; the Station Service refuses the empty one (R75, R89). -/
def parseClaim (body : List Byte) : Option (Option Nat) := do
  let fs ← parseFields [.opt (.set 1 3)] body
  return fieldNat fs 1

/-- Cue forms (section 3.3). -/
inductive CueForm where
  | absolute
  | relative
  | mark (kind : MarkKind) (count : Nat) (dir : Direction)
  | segmentStart
  | leadIn
  deriving DecidableEq, Repr

/-- SEEK: a cue (R59). The MARK arguments of another form are not examined beyond their width. -/
structure SeekArgs where
  form : CueForm
  offset : Int
  deriving DecidableEq, Repr

/-- The direction of a code. -/
def Direction.ofCode : Nat → Option Direction
  | 0 => some .before
  | 1 => some .after
  | _ => none

/-- The cue form of a code; a MARK cue needs its kind, count and direction. -/
def cueFormOf (fs : List BodyField) : Nat → Option CueForm
  | 0 => some .absolute
  | 1 => some .relative
  | 2 => do
    let k ← (fieldNat fs 3).bind MarkKind.ofCode
    let n ← fieldNat fs 4
    let d ← (fieldNat fs 5).bind Direction.ofCode
    return .mark k n d
  | 3 => some .segmentStart
  | _ => some .leadIn

def parseSeek (body : List Byte) : Option SeekArgs := do
  let fs ← parseFields [.req (.enum 5), .req .signed, .opt (.number 1), .opt (.number 1), .opt (.number 1)] body
  let code ← fieldNat fs 1
  let offset ← fieldNat fs 2
  let form ← cueFormOf fs code
  return ⟨form, signed32 offset⟩

/-- SET_PLAYBACK: any subset of mask, factor, byte order, cue lead and skip-back (R90). -/
structure SetPlaybackArgs where
  mask : Option Nat
  factor : Option Nat
  order : Option ByteOrder
  cueLead : Option Nat
  skipBack : Option Nat
  deriving DecidableEq, Repr

def parseSetPlayback (body : List Byte) : Option SetPlaybackArgs := do
  let fs ← parseFields [.opt (.set 1 4), .opt (.number 2), .opt (.enum 2), .opt (.number 2), .opt (.number 2)] body
  return ⟨fieldNat fs 1, fieldNat fs 2, (fieldNat fs 3).map ByteOrder.ofCode, fieldNat fs 4, fieldNat fs 5⟩

/-- SET_STOP: a position in centiseconds, or none (R97). -/
def parseSetStop (body : List Byte) : Option (Option Nat) := do
  let fs ← parseFields [.opt (.number 4)] body
  return fieldNat fs 1

/-- DONE and RECALL: a take id and a segment index (R92, R82). -/
def parseSegment (body : List Byte) : Option (Nat × Nat) := do
  let fs ← parseFields [.req (.number 2), .req (.number 2)] body
  let t ← fieldNat fs 1
  let i ← fieldNat fs 2
  return (t, i)

/-- RELEASE: a take id, a segment index and an optional typed-to position in centiseconds (R93). -/
structure ReleaseArgs where
  take : Nat
  index : Nat
  typedTo : Option Nat
  deriving DecidableEq, Repr

def parseRelease (body : List Byte) : Option ReleaseArgs := do
  let fs ← parseFields [.req (.number 2), .req (.number 2), .opt (.number 4)] body
  let t ← fieldNat fs 1
  let i ← fieldNat fs 2
  return ⟨t, i, fieldNat fs 3⟩

/-- CONFIGURE_BANK: a bank and either a base and a size, or none (R136). -/
structure ConfigureBankArgs where
  bank : Nat
  window : Option (Nat × Nat)
  deriving DecidableEq, Repr

def parseConfigureBank (body : List Byte) : Option ConfigureBankArgs := do
  let fs ← parseFields [.req (.number 1), .opt (.number 2), .opt (.number 2)] body
  let b ← fieldNat fs 1
  match fieldNat fs 2, fieldNat fs 3 with
  | some base, some size => return ⟨b, some (base, size)⟩
  | none, none => return ⟨b, none⟩
  | _, _ => none

/-- CONFIGURE_DEVICE: any subset of refresh threshold, low-water mark and alert mask (R183). -/
structure ConfigureDeviceArgs where
  threshold : Option Nat
  lowWater : Option Nat
  mask : Option Nat
  deriving DecidableEq, Repr

def parseConfigureDevice (body : List Byte) : Option ConfigureDeviceArgs := do
  let fs ← parseFields [.opt (.number 1), .opt (.number 2), .opt (.set 2 14)] body
  return ⟨fieldNat fs 1, fieldNat fs 2, fieldNat fs 3⟩

/-- SETTINGS_HOLD: SET or CLEAR (R184); true is SET. -/
def parseSettingsHold (body : List Byte) : Option Bool := do
  let fs ← parseFields [.req (.enum 2)] body
  let v ← fieldNat fs 1
  return v == 0

/-- CONFIGURE_ROOM: a room and any subset of the settings of R29, in the table's order. -/
structure ConfigureRoomArgs where
  room : Nat
  channels : Option Nat
  timing : Option Timing
  order : Option ByteOrder
  capture0 : Option Nat
  capture1 : Option Nat
  capture2 : Option Nat
  capture3 : Option Nat
  cls : Option Cls
  target : Option Nat
  minimum : Option Nat
  extension : Option Nat
  overlap : Option Nat
  readbackFactor : Option Nat
  clipAlert : Option Bool
  deriving DecidableEq, Repr

def parseConfigureRoom (body : List Byte) : Option ConfigureRoomArgs := do
  let fs ← parseFields [.req (.number 1), .opt (.number 1), .opt (.enum 2), .opt (.enum 2), .opt (.number 2),
    .opt (.number 2), .opt (.number 2), .opt (.number 2), .opt (.enum 3), .opt (.number 2), .opt (.number 2),
    .opt (.number 2), .opt (.number 2), .opt (.number 2), .opt (.enum 2)] body
  let r ← fieldNat fs 1
  return ⟨r, fieldNat fs 2, (fieldNat fs 3).map Timing.ofCode, (fieldNat fs 4).map ByteOrder.ofCode, fieldNat fs 5,
    fieldNat fs 6, fieldNat fs 7, fieldNat fs 8, (fieldNat fs 9).bind Cls.ofCode, fieldNat fs 10, fieldNat fs 11,
    fieldNat fs 12, fieldNat fs 13, fieldNat fs 14, (fieldNat fs 15).map (· == 0)⟩

/-- CONFIGURE_STATION: a station and an accepted-class set (R90). -/
def parseConfigureStation (body : List Byte) : Option (Nat × Nat) := do
  let fs ← parseFields [.req (.number 1), .req (.set 1 3)] body
  let k ← fieldNat fs 1
  let m ← fieldNat fs 2
  return (k, m)

/-- SET_CLASS: a take and a class (R23). -/
def parseSetClass (body : List Byte) : Option (Nat × Cls) := do
  let fs ← parseFields [.req (.number 2), .req (.enum 3)] body
  let t ← fieldNat fs 1
  let c ← (fieldNat fs 2).bind Cls.ofCode
  return (t, c)

/-- SET_HOLD: a take and a hold value; true is set (R24). -/
def parseSetHold (body : List Byte) : Option (Nat × Bool) := do
  let fs ← parseFields [.req (.number 2), .req (.enum 2)] body
  let t ← fieldNat fs 1
  let v ← fieldNat fs 2
  return (t, v == 0)

/-- RELEASE_TAKE: a take and an optional FORCE (R25). -/
def parseReleaseTake (body : List Byte) : Option (Nat × Bool) := do
  let fs ← parseFields [.req (.number 2), .opt .flag] body
  let t ← fieldNat fs 1
  return (t, (fieldValue fs 2).isSome)

/-- DIRECT: a take, a segment index and a station (R79). -/
structure DirectArgs where
  take : Nat
  index : Nat
  station : Nat
  deriving DecidableEq, Repr

def parseDirect (body : List Byte) : Option DirectArgs := do
  let fs ← parseFields [.req (.number 2), .req (.number 2), .req (.number 1)] body
  let t ← fieldNat fs 1
  let i ← fieldNat fs 2
  let k ← fieldNat fs 3
  return ⟨t, i, k⟩

/-- MARK_TYPED: a take and either one segment index or ALL (R181); no index is ALL. -/
def parseMarkTyped (body : List Byte) : Option (Nat × Option Nat) := do
  let fs ← parseFields [.req (.number 2), .opt (.number 2), .opt .flag] body
  let t ← fieldNat fs 1
  match fieldNat fs 2, fieldValue fs 3 with
  | some i, none => return (t, some i)
  | none, some _ => return (t, none)
  | _, _ => none

/-- READ_ALERTS: a count (R191). QUERY_STATION and QUERY_READBACK: a station or room number (R188). -/
def parseByte (body : List Byte) : Option Nat := do
  let fs ← parseFields [.req (.number 1)] body
  fieldNat fs 1

/-- QUERY_TAKES: a skip count and an optional set of take states (R186). -/
def parseQueryTakes (body : List Byte) : Option (Nat × Option Nat) := do
  let fs ← parseFields [.req (.number 1), .opt (.set 1 4)] body
  let n ← fieldNat fs 1
  return (n, fieldNat fs 2)

/-- QUERY_TAKE: a take (R186). -/
def parseQueryTake (body : List Byte) : Option Nat := do
  let fs ← parseFields [.req (.number 2)] body
  fieldNat fs 1

/-- QUERY_SEGMENTS: a take and a skip count (R187). -/
def parseQuerySegments (body : List Byte) : Option (Nat × Nat) := parseSegment body

/-- QUERY_MARKS: a take, a skip count and an optional mark kind (R187). -/
structure QueryMarksArgs where
  take : Nat
  skip : Nat
  kind : Option MarkKind
  deriving DecidableEq, Repr

def parseQueryMarks (body : List Byte) : Option QueryMarksArgs := do
  let fs ← parseFields [.req (.number 2), .req (.number 2), .opt (.enum 6)] body
  let t ← fieldNat fs 1
  let n ← fieldNat fs 2
  return ⟨t, n, (fieldNat fs 3).bind MarkKind.ofCode⟩

/-- QUERY_ROOM: a room and an optional clear (R53). -/
def parseQueryRoom (body : List Byte) : Option (Nat × Bool) := do
  let fs ← parseFields [.req (.number 1), .opt .flag] body
  let r ← fieldNat fs 1
  return (r, (fieldValue fs 2).isSome)

/-- QUERY_QUEUE: a skip count and an optional class set; the scheduler refuses the empty one (R86). -/
def parseQueryQueue (body : List Byte) : Option (Nat × Option Nat) := do
  let fs ← parseFields [.req (.number 2), .opt (.set 1 3)] body
  let n ← fieldNat fs 1
  return (n, fieldNat fs 2)

/-- QUERY_STORE: optionally a unit number, optionally a take with a skip count (R155). -/
structure QueryStoreArgs where
  unit : Option Nat
  take : Option (Nat × Nat)
  deriving DecidableEq, Repr

def parseQueryStore (body : List Byte) : Option QueryStoreArgs := do
  let fs ← parseFields [.opt (.number 2), .opt (.number 2), .opt (.number 4)] body
  match fieldNat fs 2, fieldNat fs 3 with
  | some t, some n => return ⟨fieldNat fs 1, some (t, n)⟩
  | some _, none => none
  | none, _ => return ⟨fieldNat fs 1, none⟩

/-! ### The fixed layout of BLOCK (R198) -/

/-- The 16-bit samples of a byte list in a byte order; a last odd byte is passed over. -/
def samplesOf (order : ByteOrder) : List Byte → List Sample
  | a :: b :: rest =>
    (match order with
      | .little => b ++ a
      | .big => a ++ b) :: samplesOf order rest
  | _ => []

/-- The bytes of samples in a byte order. -/
def sampleBytes (order : ByteOrder) : List Sample → List Byte
  | [] => []
  | s :: rest =>
    let low : Byte := s.setWidth 8
    let high : Byte := (s >>> 8).setWidth 8
    match order with
    | .little => low :: high :: sampleBytes order rest
    | .big => high :: low :: sampleBytes order rest

/-- A BLOCK body of a room with `c` channels: its call number and its samples' bytes; none where the body's length is
not 4 bytes and 256 samples a channel (R34, R198). -/
def parseBlock (c : Channels) (body : List Byte) : Option (Nat × List Byte) :=
  if body.length = 4 + Config.sectorBytes * c.count then some (leNat (body.take 4), body.drop 4) else none

/-! ### Frames (R194, R197) -/

/-- The kind codes of a room link's requests. -/
def roomRequest (r : RoomId) (tag : Byte) (body : List Byte) : Nat → Option Instr
  | 0x10 => some (.takeStart r tag body)
  | 0x11 => some (.block r tag body)
  | 0x12 => some (.mark r tag body)
  | 0x13 => some (.takeStop r tag body)
  | 0x14 => some (.readbackStart r tag body)
  | 0x15 => some (.readbackRead r tag body)
  | 0x16 => some (.readbackStop r tag body)
  | _ => none

/-- The kind codes of a station link's requests. -/
def stationRequest (k : StationId) (tag : Byte) (body : List Byte) : Nat → Option Instr
  | 0x20 => some (.claim k tag body)
  | 0x21 => some (.read k tag body)
  | 0x22 => some (.pause k tag body)
  | 0x23 => some (.resume k tag body)
  | 0x24 => some (.seek k tag body)
  | 0x25 => some (.setPlayback k tag body)
  | 0x26 => some (.setStop k tag body)
  | 0x27 => some (.done k tag body)
  | 0x28 => some (.release k tag body)
  | 0x29 => some (.status k tag body)
  | _ => none

/-- The kind codes of the supervisor link's requests. -/
def supervisorRequest (tag : Byte) (body : List Byte) : Nat → Option Instr
  | 0x40 => some (.configureBank tag body)
  | 0x41 => some (.rebuild tag body)
  | 0x42 => some (.configureDevice tag body)
  | 0x43 => some (.settingsHold tag body)
  | 0x44 => some (.configureRoom tag body)
  | 0x45 => some (.configureStation tag body)
  | 0x48 => some (.setClass tag body)
  | 0x49 => some (.setHold tag body)
  | 0x4A => some (.releaseTake tag body)
  | 0x4B => some (.direct tag body)
  | 0x4C => some (.recall tag body)
  | 0x4D => some (.markTyped tag body)
  | 0x50 => some (.readAlerts tag body)
  | 0x51 => some (.queryDevice tag body)
  | 0x52 => some (.queryTakes tag body)
  | 0x53 => some (.queryTake tag body)
  | 0x54 => some (.querySegments tag body)
  | 0x55 => some (.queryMarks tag body)
  | 0x56 => some (.queryStation tag body)
  | 0x57 => some (.queryReadback tag body)
  | 0x58 => some (.queryRoom tag body)
  | 0x59 => some (.queryQueue tag body)
  | 0x5A => some (.queryStore tag body)
  | _ => none

/-- The request a kind names on a link, none for a kind that is no request kind of the link's class (R194 step 1). -/
def requestOfKind (l : LinkId) (kind tag : Byte) (body : List Byte) : Option Instr :=
  match l with
  | .room r => roomRequest r tag body kind.toNat
  | .station k => stationRequest k tag body kind.toNat
  | .supervisor => supervisorRequest tag body kind.toNat

/-- The start byte of a frame. -/
def startByte : Byte := 0xA5
/-- The end byte of a frame. -/
def endByte : Byte := 0xC3

/-- The command of a received frame from its content: the bytes from offset 3 to the last body byte (R194, R197). -/
def commandOfContent (l : LinkId) : List Byte → Instr
  | type :: kind :: tag :: _status :: _indications :: body =>
    if type = 0 then (requestOfKind l kind tag body).getD (.unknownRequestKind l kind tag)
    else .droppedFrame l .notRequest
  | _ => .droppedFrame l .badLength

/-- The receiver in FRAME, past the start byte: the length, that many bytes, the end byte; with the bytes that follow.
None where the frame is not yet whole. -/
def receiveFrame (l : LinkId) : List Byte → Option (Instr × List Byte)
  | lo :: hi :: rest =>
    let len := leNat [lo, hi]
    if len < 5 ∨ 2057 < len then some (.droppedFrame l .badLength, rest)
    else
      match rest.drop len with
      | [] => none
      | e :: after =>
        if e = endByte then some (commandOfContent l (rest.take len), after)
        else some (.droppedFrame l .badEndByte, after)
  | _ => none

/-- The receiver in HUNT: passes over every byte until a start byte, then takes a frame (R194). -/
def decodeFrame (l : LinkId) : List Byte → Option (Instr × List Byte)
  | [] => none
  | b :: bs => if b = startByte then receiveFrame l bs else decodeFrame l bs

/-- The link, kind code, tag and body of a request (R197). None for a command that is no request. -/
def requestParts : Instr → Option (LinkId × Nat × Byte × List Byte)
  | .takeStart r t b => some (.room r, 0x10, t, b)
  | .block r t b => some (.room r, 0x11, t, b)
  | .mark r t b => some (.room r, 0x12, t, b)
  | .takeStop r t b => some (.room r, 0x13, t, b)
  | .readbackStart r t b => some (.room r, 0x14, t, b)
  | .readbackRead r t b => some (.room r, 0x15, t, b)
  | .readbackStop r t b => some (.room r, 0x16, t, b)
  | .claim k t b => some (.station k, 0x20, t, b)
  | .read k t b => some (.station k, 0x21, t, b)
  | .pause k t b => some (.station k, 0x22, t, b)
  | .resume k t b => some (.station k, 0x23, t, b)
  | .seek k t b => some (.station k, 0x24, t, b)
  | .setPlayback k t b => some (.station k, 0x25, t, b)
  | .setStop k t b => some (.station k, 0x26, t, b)
  | .done k t b => some (.station k, 0x27, t, b)
  | .release k t b => some (.station k, 0x28, t, b)
  | .status k t b => some (.station k, 0x29, t, b)
  | .configureBank t b => some (.supervisor, 0x40, t, b)
  | .rebuild t b => some (.supervisor, 0x41, t, b)
  | .configureDevice t b => some (.supervisor, 0x42, t, b)
  | .settingsHold t b => some (.supervisor, 0x43, t, b)
  | .configureRoom t b => some (.supervisor, 0x44, t, b)
  | .configureStation t b => some (.supervisor, 0x45, t, b)
  | .setClass t b => some (.supervisor, 0x48, t, b)
  | .setHold t b => some (.supervisor, 0x49, t, b)
  | .releaseTake t b => some (.supervisor, 0x4A, t, b)
  | .direct t b => some (.supervisor, 0x4B, t, b)
  | .recall t b => some (.supervisor, 0x4C, t, b)
  | .markTyped t b => some (.supervisor, 0x4D, t, b)
  | .readAlerts t b => some (.supervisor, 0x50, t, b)
  | .queryDevice t b => some (.supervisor, 0x51, t, b)
  | .queryTakes t b => some (.supervisor, 0x52, t, b)
  | .queryTake t b => some (.supervisor, 0x53, t, b)
  | .querySegments t b => some (.supervisor, 0x54, t, b)
  | .queryMarks t b => some (.supervisor, 0x55, t, b)
  | .queryStation t b => some (.supervisor, 0x56, t, b)
  | .queryReadback t b => some (.supervisor, 0x57, t, b)
  | .queryRoom t b => some (.supervisor, 0x58, t, b)
  | .queryQueue t b => some (.supervisor, 0x59, t, b)
  | .queryStore t b => some (.supervisor, 0x5A, t, b)
  | .unknownRequestKind l k t => some (l, k.toNat, t, [])
  | .deviceReset => none
  | .linkUp _ => none
  | .linkDown _ => none
  | .droppedFrame _ _ => none
  | .cadenceExpiry _ => none
  | .operationTimeout _ => none
  | .programComplete _ _ => none
  | .pageReadComplete _ _ => none
  | .spareReadComplete _ _ => none
  | .eraseComplete _ _ => none
  | .chipResetReady _ => none
  | .messageTransmitted _ => none

/-- The bytes of a frame of type `type` (R197): start byte, length, content, end byte. -/
def frameBytes (type kind tag status indications : Byte) (body : List Byte) : List Byte :=
  startByte :: (toLE 2 (body.length + 5) ++ (type :: kind :: tag :: status :: indications :: body) ++ [endByte])

/-- The bytes of a request's frame, with its link. -/
def encodeRequest (i : Instr) : Option (LinkId × List Byte) :=
  (requestParts i).map fun p => (p.1, frameBytes 0 (BitVec.ofNat 8 p.2.1) p.2.2.1 0 0 p.2.2.2)

end Sys2Proof
end

