-- ==== Sys2Proof/Machine/State.lean ====
section
/-! DEFINITION. The state of the part as plain data, block by block (scope section 2), the reasons a step can stop, and the state after reset. -/

namespace Sys2Proof.Machine

/-- Page buffers 0 to 47 (R122). -/
abbrev BufId := Fin 48

/-! ### Link Interface (R193, R195, R197) -/

/-- Status codes (scope 6.6; R197). -/
inductive Status where
  | ok | busy | empty | notReady | refused | badArg | unknownId | full
  | atEdge | end_ | stopped | preempted | recalled | late | gone | waitStore
  deriving DecidableEq, Repr

/-- The indications byte (R197). -/
structure Indications where
  clamped : Bool := false
  clampedLow : Bool := false
  clampedHigh : Bool := false
  damaged : Bool := false
  live : Bool := false
  deriving DecidableEq, Repr

/-- The types of message the part sends (R197). -/
inductive MsgType where
  | response | unsolicited
  deriving DecidableEq, Repr

/-- A message formed for a link and not yet sent (R193, R197). -/
structure Message where
  type : MsgType
  kind : Nat
  tag : Byte
  status : Status
  ind : Indications
  body : List Byte
  deriving DecidableEq, Repr

/-- The receive state of a link (R193, R194). -/
inductive RxState where
  | hunt | frame
  deriving DecidableEq, Repr

/-- An outstanding request: its kind and tag (R193). -/
structure Request where
  kind : Nat
  tag : Byte
  deriving DecidableEq, Repr

/-- The four items of state of a link (R193). -/
structure LinkRec where
  up : Bool
  rx : RxState
  outstanding : Option Request
  txq : List Message
  deriving DecidableEq, Repr

/-! ### Take Directory (R1, R2, R6, R16) -/

/-- A mark record (R16). -/
structure Mark where
  kind : MarkKind
  block : Nat
  code : Nat
  gap : Option GapType
  deriving DecidableEq, Repr

/-- The work states of a segment that has one (R6, R7). -/
inductive WorkState where
  | queued | assigned | typed
  deriving DecidableEq, Repr

/-- The slots of a station context (R6). -/
inductive Slot where
  | current | shadow
  deriving DecidableEq, Repr

/-- A segment record (R6). Its take and class are its take record's (log entry 15). -/
structure Segment where
  index : Nat
  first : Nat
  last : Option Nat
  work : Option WorkState
  band : Nat
  sequence : Nat
  resume : Option Nat
  holder : Option (StationId × Slot)
  returns : Nat
  deriving DecidableEq, Repr

/-- A take record (R2), with its segments in order of first block and its marks in order of block. -/
structure Take where
  id : Nat
  room : RoomId
  state : TakeState
  cls : Cls
  channels : Channels
  overlap : Nat
  stamp : Stamp
  length : Nat
  lostBlocks : Nat
  hold : Bool
  cutDeferred : Bool
  damage : List Nat
  damageOverflow : Nat
  segments : List Segment
  marks : List Mark
  deriving DecidableEq, Repr

/-- A segment named by its take id and index (R6). -/
structure SegRef where
  take : Nat
  index : Nat
  deriving DecidableEq, Repr

/-! ### Capture Engine (R27, R29) -/

inductive RoomState where
  | linkDown | idle | recording
  deriving DecidableEq, Repr

/-- The causes of DROPPING (R46). -/
inductive DropCause where
  | noBuffer | noUnit
  deriving DecidableEq, Repr

/-- The active settings of a room (R29); segment settings in seconds, the overlap in centiseconds. -/
structure RoomSettings where
  channels : Channels
  timing : Timing
  order : ByteOrder
  capture : Vector Nat 4
  cls : Cls
  target : Nat
  minimum : Nat
  extension : Nat
  overlap : Nat
  readbackFactor : Nat
  clipAlert : Bool
  deriving DecidableEq, Repr

/-- The staged settings of a room, each present or absent (R27, R30). -/
structure StagedSettings where
  capture : Vector (Option Nat) 4
  cls : Option Cls
  target : Option Nat
  minimum : Option Nat
  extension : Option Nat
  overlap : Option Nat
  readbackFactor : Option Nat
  deriving DecidableEq, Repr

/-- A run of silence blocks not yet reported (R27, R42). -/
structure FilledRun where
  first : Nat
  count : Nat
  deriving DecidableEq, Repr

/-- The latest BLOCK_CALL of a paced room (R27, R39). -/
structure Call where
  number : Nat
  isOpen : Bool
  deriving DecidableEq, Repr

/-- A room context (R27), with its cadence timer running or not (R39). -/
structure Room where
  state : RoomState
  take : Option Nat
  dropping : Option DropCause
  dropped : Nat
  rescueWaiting : Bool
  filling : Option BufId
  slot : Nat
  filledRun : Option FilledRun
  call : Option Call
  callCounter : Nat
  cadence : Bool
  carry : List Mark
  lateBlocks : Nat
  discardedBlocks : Nat
  lostMarks : Nat
  clip : Bool
  active : RoomSettings
  staged : StagedSettings
  deriving DecidableEq, Repr

/-! ### Station Service and Read-back Unit (R87, R110) -/

inductive StationState where
  | offline | idle | paused | playing
  deriving DecidableEq, Repr

/-- The fates of a pending read (R87, R110). -/
inductive Fate where
  | none_ | preempted | recalled | gone | discard
  deriving DecidableEq, Repr

/-- The page a reader keeps (R87, R110): a pin on a resident buffer, or a buffer it owns, with the page. -/
structure Holding where
  owned : Bool
  buf : BufId
  take : Nat
  page : Nat
  deriving DecidableEq, Repr

/-- The context set aside by DIRECT (R104). -/
structure Shadow where
  seg : SegRef
  cursor : Nat
  wasPlaying : Bool
  deriving DecidableEq, Repr

/-- A station context (R87). -/
structure Station where
  state : StationState
  current : Option SegRef
  cursor : Nat
  stop : Option Nat
  shadow : Option Shadow
  holding : Option Holding
  pendingRead : Option Fate
  lastCompleted : Option SegRef
  mask : BitVec 4
  factor : Nat
  order : ByteOrder
  cueLead : Nat
  skipBack : Nat
  accepted : BitVec 3
  deriving DecidableEq, Repr

/-- A flash read started for a read-back context (R110). -/
structure RbRead where
  take : Nat
  page : Nat
  fate : Fate
  deriving DecidableEq, Repr

/-- A read-back context (R110); IDLE exactly when `active` is clear. -/
structure Readback where
  active : Bool
  take : Option Nat
  cursor : Nat
  endPoint : Option Nat
  mask : BitVec 4
  holding : Option Holding
  pendingRead : Option RbRead
  gone : Bool
  deriving DecidableEq, Repr

/-! ### Buffer Pool (R122) -/

inductive BufState where
  | free | filling | programWait | programming | cached | readWait | held | copy
  deriving DecidableEq, Repr

/-- A reader of flash pages. -/
inductive Reader where
  | station (k : StationId)
  | readback (r : RoomId)
  deriving DecidableEq, Repr

/-- The owner of a buffer (R122). -/
inductive Owner where
  | none_
  | room (r : RoomId)
  | reader (x : Reader)
  | programQueue
  | engine
  deriving DecidableEq, Repr

/-- The Error Corrector's result for one code word (R167). -/
inductive SectorResult where
  | clean
  | corrected (n : Nat)
  | uncorrectable
  deriving DecidableEq, Repr

/-- The decode record of a page read: the results for sectors 0 to 3 (R167). -/
structure DecodeRecord where
  s0 : SectorResult
  s1 : SectorResult
  s2 : SectorResult
  s3 : SectorResult
  deriving DecidableEq, Repr

/-- A buffer record (R122), with the decode record that stays with a HELD or COPY buffer (R167). Its bytes are in the
page buffer memory. -/
structure Buffer where
  state : BufState
  page : Option (Nat × Nat)
  pins : Nat
  owner : Owner
  decode : Option DecodeRecord
  deriving DecidableEq, Repr

/-! ### Storage Unit Table (R135, R147) -/

inductive UnitState where
  | free | opened | full | reclaim | erasing | retired
  deriving DecidableEq, Repr

inductive Role where
  | chain | destination
  deriving DecidableEq, Repr

/-- A unit entry (R135), with its global unit number. -/
structure UnitEntry where
  number : Nat
  state : UnitState
  owner : Option Nat
  chain : Option Nat
  role : Option Role
  writeSeq : Option Nat
  nextPage : Nat
  finalPage : Option Nat
  refreshWanted : Bool
  inFlight : Nat
  deriving DecidableEq, Repr

/-- A bank window: base and size (R135, R136). -/
structure Window where
  base : Nat
  size : Nat
  deriving DecidableEq, Repr

/-- An entry of the unit-wait list (R135). -/
structure UnitWait where
  room : RoomId
  take : Nat
  chain : Nat
  deriving DecidableEq, Repr

/-- A rescue not yet finished (R135, R151). -/
structure Rescue where
  take : Nat
  chain : Nat
  unit : Nat
  page : Nat
  deriving DecidableEq, Repr

inductive Flight where
  | none_ | read | program
  deriving DecidableEq, Repr

/-- The engine's progress (R147), the blocks reported damaged in the present pass (R150), and whether the work is to be
set aside (R147) or stopped (R154) at the completion in flight. -/
structure Work where
  take : Nat
  chain : Nat
  source : Nat
  dest : Option Nat
  buf : Option BufId
  page : Nat
  flight : Flight
  damaged : Nat
  aside : Bool
  stopping : Bool
  deriving DecidableEq, Repr

/-- The refresh and rescue engine (R135, R147). -/
inductive Engine where
  | idle
  | refresh (w : Work)
  | rescue (w : Work)
  deriving DecidableEq, Repr

/-! ### Flash Sequencer (R156, R157) -/

/-- Who requested a page read. -/
inductive ReadFor where
  | reader (x : Reader)
  | engine
  deriving DecidableEq, Repr

/-- The operations of R156. A capture page program names its page and not a unit (R161). -/
inductive OpKind where
  | captureProgram (buf : BufId) (take page : Nat)
  | copyProgram (unit page : Nat) (buf : BufId)
  | pageRead (unit page : Nat) (buf : BufId) (for_ : ReadFor)
  | spareRead (unit page : Nat)
  | erase (unit : Nat)
  deriving DecidableEq, Repr

/-- A requested operation: its class 1 to 6, its request number and what it does (R157, R158). -/
structure FlashOp where
  cls : Nat
  number : Nat
  kind : OpKind
  deriving DecidableEq, Repr

/-- A bank record (R157): IDLE, BUSY with a chip reset, or BUSY with an operation on a unit and page, issued at a moment
of the model's clock. -/
inductive BankRec where
  | idle
  | resetting
  | busy (op : FlashOp) (unit page issued : Nat)
  deriving DecidableEq, Repr

/-- The flash counters (R157). -/
structure FlashCounters where
  corrected : Nat
  uncorrectable : Nat
  erasedRead : Nat
  programFailures : Nat
  eraseFailures : Nat
  timeouts : Nat
  deriving DecidableEq, Repr

/-! ### Power-up and rebuild (R172, R174) -/

inductive Readiness where
  | notReady | rebuilding | ready
  deriving DecidableEq, Repr

/-- A tag (R199). -/
structure Tag where
  take : Nat
  room : RoomId
  cls : Cls
  channels : Channels
  chain : Nat
  valid : Nat
  seq : Nat
  deriving DecidableEq, Repr

/-- Why the scan of a unit ended (R174). -/
inductive ScanEnd where
  | erased | unreadable | full
  deriving DecidableEq, Repr

/-- What the scan keeps of a counted page: class, valid blocks and the twelve bytes of the spare slots (R174). -/
structure ScanPage where
  cls : Cls
  valid : Nat
  slots : List Byte
  deriving DecidableEq, Repr

/-- A scan record (R174): the unit, page 0's tag where a page was counted, the counted pages and the cause of the end,
absent while the unit's scan runs. -/
structure ScanRec where
  unit : Nat
  tag : Option Tag
  pages : List ScanPage
  cause : Option ScanEnd
  deriving DecidableEq, Repr

/-- The rebuild's own store: the scan records begun so far and the running maxima (R174). -/
structure Rebuild where
  scans : List ScanRec
  maxTake : Option Nat
  maxSeq : Option Nat
  deriving DecidableEq, Repr

/-! ### Supervisor Command Unit (R183, R184, R189, R190) -/

/-- The alert kinds, in the order of R190. -/
inductive AlertKind where
  | clip | gap | markLost | damage | refreshDone | refreshAbandoned | unitRetired | rescueWait | storeLow
  | segmentsFull | takesFull | stationLost | roomLost | rushReady
  deriving DecidableEq, Repr

/-- The causes of UNIT_RETIRED (R190). -/
inductive RetireCause where
  | program | erase
  deriving DecidableEq, Repr

/-- The table that was full, in SEGMENTS_FULL (R12, R190). -/
inductive FullTable where
  | segment | mark
  deriving DecidableEq, Repr

/-- An alert with the reference fields of its kind (R190). -/
inductive Alert where
  | clip (room : RoomId) (take block : Nat)
  | gap (room : RoomId) (take : Nat) (type : GapType) (first count : Nat)
  | markLost (take : Nat) (room : Option RoomId) (lost : Nat)
  | damage (take block : Nat)
  | refreshDone (take chain source dest damaged : Nat)
  | refreshAbandoned (take chain source : Nat)
  | unitRetired (unit : Nat) (bank : BankId) (cause : RetireCause)
  | rescueWait (take chain : Nat) (room : RoomId)
  | storeLow (freeCount mark : Nat)
  | segmentsFull (room : Option RoomId) (take index : Option Nat) (table : Option FullTable)
  | takesFull (room : Option RoomId) (notRestored : Option Nat)
  | stationLost (station : StationId) (returned : List SegRef)
  | roomLost (room : RoomId) (stopped : Option (Nat × Nat))
  | rushReady (take index idleStations : Nat)
  deriving DecidableEq, Repr

/-- A record of the alert list (R189). -/
structure AlertRec where
  number : Nat
  alert : Alert
  deriving DecidableEq, Repr

/-! ### The whole part -/

/-- The state of the part. The last three fields are the model's own: a clock in microseconds (log entry 3), the count
of free values used (log entry 10), and the commands that wait. -/
structure State where
  -- Link Interface
  roomLinks : Vector LinkRec 6
  stationLinks : Vector LinkRec 8
  supervisorLink : LinkRec
  -- Capture Engine
  rooms : Vector Room 6
  -- Take Directory
  takes : List Take
  lastId : Nat
  -- Hand-off Scheduler
  enqueueCounter : Nat
  -- Station Service and Read-back Unit
  stations : Vector Station 8
  readbacks : Vector Readback 6
  -- Buffer Pool
  buffers : Vector Buffer 48
  dropWait : List RoomId
  ram : List Host.Cell
  -- Storage Unit Table
  windows : Vector (Option Window) 4
  units : List UnitEntry
  freeList : List Nat
  reclaimFifo : List Nat
  refreshFifo : List Nat
  unitWait : List UnitWait
  rescues : List Rescue
  engine : Engine
  writeSeq : Nat
  -- Flash Sequencer and the flash store
  banks : Vector BankRec 4
  flashOps : List FlashOp
  requestNumber : Nat
  counters : FlashCounters
  flash : List Host.Cell
  -- Supervisor Command Unit
  readiness : Readiness
  rebuild : Option Rebuild
  threshold : Nat
  lowWater : Nat
  alertMask : BitVec 14
  settingsHold : Bool
  alerts : List AlertRec
  alertOverflow : Nat
  nextAlert : Nat
  -- the model's own
  clock : Nat
  freeUses : Nat
  pending : List Instr
  deriving DecidableEq, Repr

/-- A link after device reset: DOWN, HUNT, nothing outstanding and nothing to send (R193). -/
def LinkRec.reset : LinkRec := ⟨false, .hunt, none, []⟩

/-- The default room settings (R29). -/
def RoomSettings.default : RoomSettings where
  channels := .one
  timing := .pushed
  order := .little
  capture := Vector.replicate 4 256
  cls := .regular
  target := 300
  minimum := 120
  extension := 60
  overlap := 500
  readbackFactor := 256
  clipAlert := true

/-- No staged setting (R27). -/
def StagedSettings.absent : StagedSettings := ⟨Vector.replicate 4 none, none, none, none, none, none, none⟩

/-- A room context after device reset (R27). -/
def Room.reset : Room where
  state := .linkDown
  take := none
  dropping := none
  dropped := 0
  rescueWaiting := false
  filling := none
  slot := 0
  filledRun := none
  call := none
  callCounter := 0
  cadence := false
  carry := []
  lateBlocks := 0
  discardedBlocks := 0
  lostMarks := 0
  clip := false
  active := .default
  staged := .absent

/-- A station context after device reset (R87). -/
def Station.reset : Station where
  state := .offline
  current := none
  cursor := 0
  stop := none
  shadow := none
  holding := none
  pendingRead := none
  lastCompleted := none
  mask := 15
  factor := 256
  order := .little
  cueLead := 50
  skipBack := 100
  accepted := 7

/-- A read-back context after device reset (R110). -/
def Readback.reset : Readback := ⟨false, none, 0, none, 15, none, none, false⟩

/-- A buffer after device reset (R122). -/
def Buffer.reset : Buffer := ⟨.free, none, 0, .none_, none⟩

/-- The part right after a device reset that follows power-on: every field at the value the spec gives (R1, R27, R69,
R87, R110, R122, R135, R157, R172, R189, R193), each bank BUSY with its chip reset (R164), the page buffer and flash
memories with nothing listed (log entry 8), and the model's own fields at 0 and empty (log entry 32). -/
def State.reset : State where
  roomLinks := Vector.replicate 6 .reset
  stationLinks := Vector.replicate 8 .reset
  supervisorLink := .reset
  rooms := Vector.replicate 6 .reset
  takes := []
  lastId := 0
  enqueueCounter := 0
  stations := Vector.replicate 8 .reset
  readbacks := Vector.replicate 6 .reset
  buffers := Vector.replicate 48 .reset
  dropWait := []
  ram := []
  windows := Vector.replicate 4 none
  units := []
  freeList := []
  reclaimFifo := []
  refreshFifo := []
  unitWait := []
  rescues := []
  engine := .idle
  writeSeq := 0
  banks := Vector.replicate 4 .resetting
  flashOps := []
  requestNumber := 0
  counters := ⟨0, 0, 0, 0, 0, 0⟩
  flash := []
  readiness := .notReady
  rebuild := none
  threshold := 3
  lowWater := 64
  alertMask := 0
  settingsHold := false
  alerts := []
  alertOverflow := 0
  nextAlert := 0
  clock := 0
  freeUses := 0
  pending := []

/-- The reasons the machine stops with a fault: none. The spec gives every command of the table an effect in every
state (a refusal is an answer on the link), and an open value is a free value, so no meaning faults. -/
inductive Fault where
  deriving DecidableEq, Repr

/-- The reasons a command is refused by the model. -/
inductive Refusal where
  /-- Raised by `exec`'s arm of a command that has no meaning yet, and by nothing else. Safe: the machine stops. -/
  | notModelled (mnemonic : String)
  deriving DecidableEq, Repr

end Sys2Proof.Machine
end

