-- ==== Sys2Proof/Machine/Ops.lean ====
section
/-! DEFINITION. The named operations over the state: byte memories in canonical form, the fixed sets of contexts, the take and unit
tables, saturating counters and free values. -/

namespace Sys2Proof.Machine

/-! ### Byte memories

A memory lists cells by strictly rising address, none of them equal to the byte an unlisted address reads as. -/

/-- The canonical form of a memory whose unlisted addresses read as `unlisted`. -/
def Memory.wf (unlisted : Byte) : List Host.Cell → Bool
  | [] => true
  | [c] => c.2 != unlisted
  | c :: d :: rest => c.2 != unlisted && decide (c.1 < d.1) && Memory.wf unlisted (d :: rest)

/-- The byte at an address. -/
def Memory.read (unlisted : Byte) : List Host.Cell → Nat → Byte
  | [], _ => unlisted
  | c :: rest, a => if c.1 = a then c.2 else if a < c.1 then unlisted else Memory.read unlisted rest a

/-- The cells at and above an address. -/
def Memory.above (a : Nat) : List Host.Cell → List Host.Cell
  | [] => []
  | c :: rest => if c.1 < a then Memory.above a rest else c :: rest

/-- The `n` bytes from an address, in one pass over the cells. -/
def Memory.readBytes (unlisted : Byte) : List Host.Cell → Nat → Nat → List Byte
  | _, _, 0 => []
  | m, a, n + 1 =>
    let m' := Memory.above a m
    Memory.read unlisted m' a :: Memory.readBytes unlisted m' (a + 1) n

/-- The cells that list bytes from an address on. -/
def Memory.cells (unlisted : Byte) : Nat → List Byte → List Host.Cell
  | _, [] => []
  | a, b :: bs => if b = unlisted then Memory.cells unlisted (a + 1) bs else (a, b) :: Memory.cells unlisted (a + 1) bs

/-- Writes bytes from an address on. -/
def Memory.writeBytes (unlisted : Byte) (m : List Host.Cell) (a : Nat) (bs : List Byte) : List Host.Cell :=
  m.filter (fun c => decide (c.1 < a)) ++ Memory.cells unlisted a bs ++
    m.filter (fun c => decide (a + bs.length ≤ c.1))

/-- Makes the `n` bytes from an address read as unlisted. -/
def Memory.clear (m : List Host.Cell) (a n : Nat) : List Host.Cell :=
  m.filter fun c => decide (c.1 < a ∨ a + n ≤ c.1)

/-- What a page buffer byte that nothing has written reads as (log entry 8). -/
def ramUnlisted : Byte := 0
/-- What a flash byte that nothing has programmed reads as: erased units are all ones (R156). -/
def flashUnlisted : Byte := 0xFF

/-- Address of byte `o` of a buffer: its 2048 data bytes, then its 64 spare bytes (R122, R199). -/
def bufAddr (b : BufId) (o : Nat) : Nat := b.val * Config.pageBytes + o

def State.readBuf (s : State) (b : BufId) (o n : Nat) : List Byte :=
  Memory.readBytes ramUnlisted s.ram (bufAddr b o) n

def State.writeBuf (s : State) (b : BufId) (o : Nat) (bs : List Byte) : State :=
  { s with ram := Memory.writeBytes ramUnlisted s.ram (bufAddr b o) bs }

/-! ### Counters and free values -/

/-- A counter that stops at its largest value. -/
def satAdd (top n k : Nat) : Nat := min (n + k) top

/-- `n` bytes whose values the spec leaves open (log entry 10), at the present use. -/
def State.openBytes (s : State) (n : Nat) : List Byte := (List.range n).map (Config.freeByte s.freeUses)

/-- Marks the present use of free bytes as taken. -/
def State.useFree (s : State) : State := { s with freeUses := s.freeUses + 1 }

/-! ### The fixed sets of contexts -/

def State.link (s : State) : LinkId → LinkRec
  | .room r => s.roomLinks[r]
  | .station k => s.stationLinks[k]
  | .supervisor => s.supervisorLink

def State.setLink (s : State) (l : LinkId) (x : LinkRec) : State :=
  match l with
  | .room r => { s with roomLinks := s.roomLinks.set r x }
  | .station k => { s with stationLinks := s.stationLinks.set k x }
  | .supervisor => { s with supervisorLink := x }

def State.room (s : State) (r : RoomId) : Room := s.rooms[r]
def State.setRoom (s : State) (r : RoomId) (x : Room) : State := { s with rooms := s.rooms.set r x }
def State.modRoom (s : State) (r : RoomId) (f : Room → Room) : State := s.setRoom r (f (s.room r))

def State.station (s : State) (k : StationId) : Station := s.stations[k]
def State.setStation (s : State) (k : StationId) (x : Station) : State := { s with stations := s.stations.set k x }
def State.modStation (s : State) (k : StationId) (f : Station → Station) : State := s.setStation k (f (s.station k))

def State.readback (s : State) (r : RoomId) : Readback := s.readbacks[r]
def State.setReadback (s : State) (r : RoomId) (x : Readback) : State := { s with readbacks := s.readbacks.set r x }
def State.modReadback (s : State) (r : RoomId) (f : Readback → Readback) : State := s.setReadback r (f (s.readback r))

def State.buffer (s : State) (b : BufId) : Buffer := s.buffers[b]
def State.setBuffer (s : State) (b : BufId) (x : Buffer) : State := { s with buffers := s.buffers.set b x }
def State.modBuffer (s : State) (b : BufId) (f : Buffer → Buffer) : State := s.setBuffer b (f (s.buffer b))

def State.bank (s : State) (b : BankId) : BankRec := s.banks[b]
def State.setBank (s : State) (b : BankId) (x : BankRec) : State := { s with banks := s.banks.set b x }

/-- All rooms, stations, buffers and banks, in ascending number. -/
def allRooms : List RoomId := List.finRange 6
def allStations : List StationId := List.finRange 8
def allBuffers : List BufId := List.finRange 48
def allBanks : List BankId := List.finRange 4

/-- The rooms in RECORDING, the *Nrec* of R28 and R125. -/
def State.nrec (s : State) : Nat := (allRooms.filter fun r => (s.room r).state == .recording).length

/-! ### The take table (R1, R2) -/

/-- The take record of an id, where the table holds one. -/
def State.findTake (s : State) (id : Nat) : Option Take := s.takes.find? fun t => t.id == id

/-- Changes the record of an id. -/
def State.modTake (s : State) (id : Nat) (f : Take → Take) : State :=
  { s with takes := s.takes.map fun t => if t.id = id then f t else t }

/-- Adds a record, keeping the table in ascending take id. -/
def insertTake (t : Take) : List Take → List Take
  | [] => [t]
  | u :: rest => if t.id < u.id then t :: u :: rest else u :: insertTake t rest

/-- The segment of an index in a take's list. -/
def Take.segment (t : Take) (index : Nat) : Option Segment := t.segments.find? fun g => g.index == index

/-- Changes the segment of an index. -/
def Take.modSegment (t : Take) (index : Nat) (f : Segment → Segment) : Take :=
  { t with segments := t.segments.map fun g => if g.index = index then f g else g }

def State.modSegment (s : State) (x : SegRef) (f : Segment → Segment) : State :=
  s.modTake x.take fun t => t.modSegment x.index f

/-- The segment a reference names. -/
def State.segment (s : State) (x : SegRef) : Option Segment := (s.findTake x.take).bind fun t => t.segment x.index

/-- A segment is open while its last is absent and its take is RECORDING (R6). -/
def segmentOpen (t : Take) (g : Segment) : Bool := g.last.isNone && t.state == .recording

/-- The take's growing segment: the one with the highest index (R6). -/
def Take.growing (t : Take) : Option Segment := t.segments.getLast?

/-- Free segment records (R1). -/
def State.freeSegments (s : State) : Nat :=
  Config.segmentRecords - (s.takes.map fun t => t.segments.length).sum

/-- Free mark records (R1, R16). -/
def State.freeMarks (s : State) : Nat := Config.markRecords - (s.takes.map fun t => t.marks.length).sum

/-! ### The unit table (R135) -/

def State.unit (s : State) (n : Nat) : Option UnitEntry := s.units.find? fun u => u.number == n

def State.modUnit (s : State) (n : Nat) (f : UnitEntry → UnitEntry) : State :=
  { s with units := s.units.map fun u => if u.number = n then f u else u }

/-- A unit in a chain is OPEN or FULL with role CHAIN (R137). -/
def UnitEntry.inChain (u : UnitEntry) : Bool :=
  (u.state == .opened || u.state == .full) && u.role == some .chain

/-- The take's CHAIN unit at a chain index (R137). -/
def State.chainUnit (s : State) (take chain : Nat) : Option UnitEntry :=
  s.units.find? fun u => u.inChain && u.owner == some take && u.chain == some chain

/-- The units of a take's chain, in table order. -/
def State.chainUnits (s : State) (take : Nat) : List UnitEntry :=
  s.units.filter fun u => u.inChain && u.owner == some take

/-- Chain length: one more than the greatest chain index of the take's CHAIN units (R137). -/
def State.chainLength (s : State) (take : Nat) : Nat :=
  (s.chainUnits take).foldl (fun n u => max n ((u.chain.getD 0) + 1)) 0

/-- Whether a unit number lies in a window (R136). -/
def Window.holds (w : Window) (n : Nat) : Bool := decide (w.base ≤ n ∧ n < w.base + w.size)

/-- The bank whose window holds a unit, with the unit's address within the bank (R136, R156). -/
def State.bankOf (s : State) (n : Nat) : Option (BankId × Nat) :=
  allBanks.findSome? fun b =>
    match s.windows[b] with
    | some w => if w.holds n then some (b, n - w.base) else none
    | none => none

/-- Inserts into a list kept in ascending order of a key, after the entries of equal key. -/
def insertBy {α : Type} (key : α → Nat) (x : α) : List α → List α
  | [] => [x]
  | y :: rest => if key x < key y then x :: y :: rest else y :: insertBy key x rest

/-- A list in ascending order of a key; equal keys keep their order. -/
def sortBy {α : Type} (key : α → Nat) (xs : List α) : List α := xs.foldl (fun acc x => insertBy key x acc) []

end Sys2Proof.Machine
end

