-- ==== Sys2Proof/Machine/Flags.lean ====
section
/-! DEFINITION. The alert list and the ALERT line (R189 to R192). -/

namespace Sys2Proof.Machine

/-- The kind of an alert (R190). -/
def Alert.kind : Alert → AlertKind
  | .clip .. => .clip
  | .gap .. => .gap
  | .markLost .. => .markLost
  | .damage .. => .damage
  | .refreshDone .. => .refreshDone
  | .refreshAbandoned .. => .refreshAbandoned
  | .unitRetired .. => .unitRetired
  | .rescueWait .. => .rescueWait
  | .storeLow .. => .storeLow
  | .segmentsFull .. => .segmentsFull
  | .takesFull .. => .takesFull
  | .stationLost .. => .stationLost
  | .roomLost .. => .roomLost
  | .rushReady .. => .rushReady

/-- The position of a kind in the table of R190, its code and its bit in the alert mask (R196). -/
def AlertKind.code : AlertKind → Nat
  | .clip => 0
  | .gap => 1
  | .markLost => 2
  | .damage => 3
  | .refreshDone => 4
  | .refreshAbandoned => 5
  | .unitRetired => 6
  | .rescueWait => 7
  | .storeLow => 8
  | .segmentsFull => 9
  | .takesFull => 10
  | .stationLost => 11
  | .roomLost => 12
  | .rushReady => 13

/-- Raises an alert: it takes the next number; it is listed where the list holds fewer than 32 records, and otherwise
dropped and counted (R189). -/
def State.raise (s : State) (a : Alert) : State :=
  if s.alerts.length < Config.alertRecords then
    { s with alerts := s.alerts ++ [⟨s.nextAlert, a⟩], nextAlert := (s.nextAlert + 1) % Config.wrap32 }
  else
    { s with alertOverflow := satAdd Config.max16 s.alertOverflow 1, nextAlert := (s.nextAlert + 1) % Config.wrap32 }

/-- Whether a kind is masked (R183). -/
def State.masked (s : State) (k : AlertKind) : Bool := s.alertMask.getLsbD k.code

/-- Whether ALERT is asserted: the list holds a record of a kind that is not masked (R192). -/
def State.alertLine (s : State) : Bool := s.alerts.any fun a => !s.masked a.alert.kind

end Sys2Proof.Machine
end

