-- ==== Sys2Proof/Machine/Positions.lean ====
section
/-! DEFINITION. Position arithmetic and the audio stages: conversions, windows, clamps, addressing (chapter 3), the scaling stage (R36)
and the mixing of a block (R68). -/

namespace Sys2Proof.Machine

/-! ### Conversions (R54 to R56) -/

/-- Centiseconds to blocks (R54). -/
def csToBlocks (cs : Nat) : Nat := cs * 5 / 16

/-- A signed offset in centiseconds to blocks: by its magnitude, toward zero (R54). -/
def offsetBlocks (cs : Int) : Int :=
  if cs < 0 then -(csToBlocks cs.natAbs : Int) else (csToBlocks cs.natAbs : Int)

/-- Blocks to centiseconds, rounded to the nearest (R55). -/
def blocksToCs (b : Nat) : Nat := (b * 16 + 2) / 5

/-- Seconds to blocks (R56). -/
def secToBlocks (sec : Nat) : Nat := sec * 125 / 4

/-! ### Windows (R57) -/

/-- A window: lead-in `lo`, at-end position `atEnd`, and whether the segment is open (or the take RECORDING). -/
structure Span where
  lo : Nat
  atEnd : Nat
  live : Bool
  deriving DecidableEq, Repr

/-- The window of a segment (R57). -/
def windowOf (t : Take) (g : Segment) : Span where
  lo := g.first - t.overlap
  atEnd := match g.last with
    | some l => l + 1
    | none => t.length
  live := segmentOpen t g

/-- The read-back window of a take: the whole take (R57). -/
def takeWindow (t : Take) : Span := ⟨0, t.length, t.state == .recording⟩

/-- What a lookup answers (R19, R20). -/
inductive Lookup (α : Type) where
  | found (x : α)
  | gone
  | unknown
  deriving DecidableEq, Repr

/-- The lookup of a segment with its take (R20). -/
def State.lookup (s : State) (x : SegRef) : Lookup (Take × Segment) :=
  match s.findTake x.take with
  | none => .unknown
  | some t =>
    if t.state = .released then .gone
    else match t.segment x.index with
      | none => .unknown
      | some g => .found (t, g)

/-- A position clamped to a window, with CLAMPED_LOW and CLAMPED_HIGH (R62). -/
def clampTo (lo hi : Nat) (target : Int) : Nat × Indications :=
  if target < lo then (lo, { clampedLow := true })
  else if (hi : Int) < target then (hi, { clampedHigh := true })
  else (target.toNat, {})

/-- The start point of a segment (R64). -/
def startPoint (t : Take) (g : Segment) : Nat :=
  let w := windowOf t g
  let p := match g.resume with
    | some r => max w.lo (r - t.overlap)
    | none => w.lo
  min p w.atEnd

/-- A saved cursor clamped to a window (R65). -/
def restoreCursor (w : Span) (saved : Nat) : Nat := min (max saved w.lo) w.atEnd

/-! ### Mark searches (R19) -/

/-- The block of the `n`-th mark of a kind before or after a block. -/
def searchMarks (t : Take) (k : MarkKind) (n : Nat) (d : Direction) (c : Nat) : Option Nat :=
  let ms := t.marks.filter fun m => m.kind == k
  match d with
  | .before => ((ms.filter fun m => decide (m.block < c)).reverse)[n - 1]?.map Mark.block
  | .after => (ms.filter fun m => decide (c ≤ m.block))[n - 1]?.map Mark.block

/-! ### Addressing a block (R67) -/

def takePage (c : Channels) (b : Nat) : Nat := b / c.bpp
def blockInPage (c : Channels) (b : Nat) : Nat := b % c.bpp
def chainIndex (tp : Nat) : Nat := tp / Config.unitPages
def pageInUnit (tp : Nat) : Nat := tp % Config.unitPages
/-- The sector of channel `j` of a block within its page. -/
def sectorOf (c : Channels) (k j : Nat) : Nat := k * c.count + j

/-! ### The scaling stage (R36) -/

/-- The output of the scaling stage for an integer and a factor, and whether it is saturated. -/
def scale (x : Int) (f : Nat) : Sample × Bool :=
  let y := (x * f + 128) / 256
  if 32767 < y then (0x7FFF, true)
  else if y < -32768 then (0x8000, true)
  else (BitVec.ofInt 16 y, false)

/-- The outputs of the scaling stage for a run of inputs, with the count of saturated ones. -/
def scaleAll (f : Nat) : List Int → List Sample × Nat
  | [] => ([], 0)
  | x :: xs =>
    let rest := scaleAll f xs
    let y := scale x f
    (y.1 :: rest.1, rest.2 + if y.2 then 1 else 0)

/-- Sums two runs of samples position by position (R68). -/
def addRuns : List Int → List Int → List Int
  | x :: xs, y :: ys => (x + y) :: addRuns xs ys
  | xs, [] => xs
  | [], ys => ys

/-- The result for a sector in a decode record. -/
def DecodeRecord.sector (d : DecodeRecord) : Nat → SectorResult
  | 0 => d.s0
  | 1 => d.s1
  | 2 => d.s2
  | _ => d.s3

/-- Whether a buffer's sector was reported UNCORRECTABLE at its flash read (R102, R169). -/
def Buffer.sectorLost (x : Buffer) (j : Nat) : Bool :=
  match x.decode with
  | some d => d.sector j == .uncorrectable
  | none => false

/-- The samples of a sector of a buffer as a reader uses them: zeros where the sector is lost (R169). -/
def State.sectorSamples (s : State) (b : BufId) (j : Nat) : List Int :=
  if (s.buffer b).sectorLost j then List.replicate Config.sectorSamples 0
  else (samplesOf .little (s.readBuf b (j * Config.sectorBytes) Config.sectorBytes)).map BitVec.toInt

/-- The sectors a mask selects of block `k` of a page (R68). -/
def selectedSectors (c : Channels) (k : Nat) (mask : BitVec 4) : List Nat :=
  ((List.range c.count).filter fun j => mask.getLsbD j).map (sectorOf c k)

/-- A block formed for a reader: its 256 samples, its saturations and the damaged indication (R68, R102, R118). -/
structure Formed where
  samples : List Sample
  saturated : Nat
  damaged : Bool
  deriving DecidableEq, Repr

/-- Mixes and scales block `k` of a page held in a buffer. -/
def State.formBlock (s : State) (b : BufId) (c : Channels) (k : Nat) (mask : BitVec 4) (f : Nat) : Formed :=
  let sel := selectedSectors c k mask
  let sum := (sel.map (s.sectorSamples b)).foldl addRuns (List.replicate Config.sectorSamples 0)
  let out := scaleAll f sum
  ⟨out.1, out.2, sel.any fun j => (s.buffer b).sectorLost j⟩

end Sys2Proof.Machine
end

