-- ==== Sys2Proof/Machine/Operands.lean ====
section
/-! DEFINITION. Messages and links: the field coding of responses (R196), the frames the part sends (R197), admission of requests
(R172, R194), answers and unsolicited messages (R193, R195). -/

namespace Sys2Proof.Machine

/-! ### Response fields (R196; numbering: log entry 13) -/

/-- An unsigned number in `w` bytes. -/
def fNum (id w n : Nat) : BodyField := ⟨id, toLE w n⟩
/-- A number where present. -/
def fOpt (id w : Nat) (n : Option Nat) : List BodyField := n.toList.map (fNum id w)
/-- A flag: present or absent, with no value bytes (log entry 14). -/
def fFlag (id : Nat) (b : Bool) : List BodyField := if b then [⟨id, []⟩] else []
/-- A position on a room or station link: four bytes of centiseconds. -/
def fPos (id b : Nat) : BodyField := ⟨id, toLE 4 (blocksToCs b)⟩
/-- A position on the supervisor link: centiseconds, then the block index (R182). -/
def fPosSv (id b : Nat) : BodyField := ⟨id, toLE 4 (blocksToCs b) ++ toLE 4 b⟩
def fPosOpt (id : Nat) (b : Option Nat) : List BodyField := b.toList.map (fPos id)
def fPosSvOpt (id : Nat) (b : Option Nat) : List BodyField := b.toList.map (fPosSv id)
/-- A set or clear value: set 0, clear 1, in the order the rules name them. -/
def fSetClear (id : Nat) (b : Bool) : BodyField := fNum id 1 (if b then 0 else 1)
/-- An entry of several items: a field whose value is a field sequence. -/
def fEntry (id : Nat) (fs : List BodyField) : BodyField := ⟨id, fieldBytes fs⟩

/-- Takes at most `n` entries after passing over `skip`. -/
def pageOf {α : Type} (skip n : Nat) (xs : List α) : List α := (xs.drop skip).take n

/-! ### Frames the part sends (R197) -/

def Status.code : Status → Nat
  | .ok => 0
  | .busy => 1
  | .empty => 2
  | .notReady => 3
  | .refused => 4
  | .badArg => 5
  | .unknownId => 6
  | .full => 7
  | .atEdge => 8
  | .end_ => 9
  | .stopped => 10
  | .preempted => 11
  | .recalled => 12
  | .late => 13
  | .gone => 14
  | .waitStore => 15

def bit (b : Bool) (n : Nat) : Nat := if b then n else 0

/-- The indications byte (R197). -/
def Indications.code (i : Indications) : Nat :=
  bit i.clamped 1 + bit i.clampedLow 2 + bit i.clampedHigh 4 + bit i.damaged 8 + bit i.live 16

def MsgType.code : MsgType → Nat
  | .response => 1
  | .unsolicited => 2

/-- The bytes of a message's frame (R197). -/
def Message.bytes (m : Message) : List Byte :=
  frameBytes (BitVec.ofNat 8 m.type.code) (BitVec.ofNat 8 m.kind) m.tag (BitVec.ofNat 8 m.status.code)
    (BitVec.ofNat 8 m.ind.code) m.body

/-! ### Answers and unsolicited messages -/

/-- Queues a message on a link that is UP (R193, R195). -/
def State.send (s : State) (l : LinkId) (m : Message) : State :=
  let x := s.link l
  if x.up then s.setLink l { x with txq := x.txq ++ [m] } else s

/-- Answers the link's outstanding request: the response is queued and the request becomes absent (R194). A response
with no outstanding request, formed after its link went DOWN, is not queued (R193). -/
def State.answer (s : State) (l : LinkId) (st : Status) (ind : Indications := {}) (body : List Byte := []) : State :=
  let x := s.link l
  match x.outstanding with
  | none => s
  | some q => s.setLink l { x with outstanding := none, txq := x.txq ++ [⟨.response, q.kind, q.tag, st, ind, body⟩] }

/-- The longest beginning of a field sequence whose bytes fit in `n` bytes. -/
def fitFields : Nat → List BodyField → List BodyField
  | _, [] => []
  | n, f :: fs => if f.value.length + 2 ≤ n then f :: fitFields (n - (f.value.length + 2)) fs else []

/-- Answers with fields (R196). -/
def State.answerFields (s : State) (l : LinkId) (st : Status) (ind : Indications) (fs : List BodyField) : State :=
  s.answer l st ind (fieldBytes fs)

/-- The answer the Link Interface forms at once, leaving the outstanding request as it is (R194 steps 1 to 4). -/
def State.reply (s : State) (l : LinkId) (kind : Nat) (tag : Byte) (st : Status) : State :=
  s.send l ⟨.response, kind, tag, st, {}, []⟩

/-- Sends an unsolicited message: tag 0, status OK, no indications (R195). -/
def State.notify (s : State) (l : LinkId) (kind : Nat) (body : List Byte) : State :=
  s.send l ⟨.unsolicited, kind, 0, .ok, {}, body⟩

/-! ### Admission (R172, R194) -/

/-- The groups of requests by readiness (R172). CONFIGURE_BANK and REBUILD reach their block in every state and are
refused there. -/
inductive Group where
  | always | readyOnly | configuration
  deriving DecidableEq, Repr

def Group.admits (g : Group) (r : Readiness) : Bool :=
  match g with
  | .always => true
  | .readyOnly => r == .ready
  | .configuration => r != .rebuilding

/-- Takes a request frame of a known kind through steps 2 to 5 of R194: BUSY, BAD_ARG, NOT_READY, or the request becomes
outstanding and is served. A link that is DOWN receives no frame (log entry 2). -/
def State.request {α : Type} (s : State) (l : LinkId) (kind : Nat) (tag : Byte) (g : Group) (args : Option α)
    (serve : α → State → State) : State :=
  let x := s.link l
  if !x.up then s
  else if x.outstanding.isSome then s.reply l kind tag .busy
  else match args with
    | none => s.reply l kind tag .badArg
    | some a =>
      if g.admits s.readiness then serve a (s.setLink l { x with rx := .hunt, outstanding := some ⟨kind, tag⟩ })
      else s.reply l kind tag .notReady

end Sys2Proof.Machine
end

