-- ==== Sys2Proof/Machine/Queue.lean ====
section
/-! DEFINITION. The Hand-off Scheduler's queue: its order, enqueue with renumbering, returns, and the RUSH_READY check (chapter 4). -/

namespace Sys2Proof.Machine

/-- Class ranks (R70). -/
def classRank : Cls → Nat
  | .rush => 0
  | .daily => 1
  | .regular => 2

/-- An entry of the hand-off queue: a QUEUED segment with its key (R69, R70). -/
structure QEntry where
  ref : SegRef
  cls : Cls
  band : Nat
  sequence : Nat
  deriving DecidableEq, Repr

/-- The order of keys: class rank, then band, then sequence (R70). -/
def QEntry.before (a b : QEntry) : Bool :=
  decide (classRank a.cls < classRank b.cls) ||
    (classRank a.cls == classRank b.cls &&
      (decide (a.band < b.band) || (a.band == b.band && decide (a.sequence < b.sequence))))

/-- Inserts an entry in queue order. -/
def insertEntry (e : QEntry) : List QEntry → List QEntry
  | [] => [e]
  | x :: rest => if e.before x then e :: x :: rest else x :: insertEntry e rest

/-- The QUEUED segments of a take as entries. -/
def Take.queuedEntries (t : Take) : List QEntry :=
  (t.segments.filter fun g => g.work == some .queued).map fun g => ⟨⟨t.id, g.index⟩, t.cls, g.band, g.sequence⟩

/-- The entries of the queue, in table order: a segment is in the queue exactly while it is QUEUED (R70). -/
def State.entries (s : State) : List QEntry := s.takes.flatMap Take.queuedEntries

/-- The hand-off queue in queue order. -/
def State.queue (s : State) : List QEntry := s.entries.foldl (fun q e => insertEntry e q) []

/-- The RUSH entries of the queue. -/
def State.rushCount (s : State) : Nat := (s.entries.filter fun e => e.cls == .rush).length

/-- Gives the queued segments the sequences 0, 1, 2 and so on in ascending order of their present ones, and sets the
counter to their number (R71). -/
def State.renumberQueue (s : State) : State :=
  let old := s.entries.map QEntry.sequence
  let rank := fun n => (old.filter fun m => decide (m < n)).length
  { s with
    takes := s.takes.map fun t =>
      { t with segments := t.segments.map fun g =>
          if g.work = some .queued then { g with sequence := rank g.sequence } else g }
    enqueueCounter := old.length }

/-- Enqueues a segment in a band: it becomes QUEUED and takes the counter's value as its sequence (R71). -/
def State.enqueue (s : State) (x : SegRef) (band : Nat) : State :=
  let s := if Config.max32 ≤ s.enqueueCounter then s.renumberQueue else s
  let n := s.enqueueCounter
  { s.modSegment x fun g => { g with work := some .queued, band := band, sequence := n } with enqueueCounter := n + 1 }

/-- Hands a segment to the scheduler as new work, in band 1 (R8, R72). -/
def State.handOver (s : State) (x : SegRef) : State := s.enqueue x 1

/-- Returns an ASSIGNED segment to the queue, with the resume point the return carries, in band 0 (R74). -/
def State.returnSegment (s : State) (x : SegRef) (resume : Option Nat) : State :=
  (s.modSegment x fun g =>
    { g with
      holder := none
      resume := match resume with
        | some p => some p
        | none => g.resume
      returns := satAdd Config.max16 g.returns 1 }).enqueue x 0

/-- Assigns a segment to a station's slot; a queued segment thereby leaves the queue (R77, R80). -/
def State.assign (s : State) (x : SegRef) (k : StationId) (slot : Slot) : State :=
  s.modSegment x fun g => { g with work := some .assigned, holder := some (k, slot) }

/-- The IDLE stations whose accepted classes include RUSH (R85, R88). -/
def State.idleRushStations (s : State) : Nat :=
  (allStations.filter fun k => (s.station k).state == .idle && (s.station k).accepted.getLsbD 0).length

/-- Raises RUSH_READY where the RUSH entries of the queue went from 0, before the event, to 1 or more (R85). -/
def State.rushCheck (before s : State) : State :=
  if before.rushCount = 0 then
    match s.queue.find? fun e => e.cls == .rush with
    | some e => s.raise (.rushReady e.ref.take e.ref.index s.idleRushStations)
    | none => s
  else s

end Sys2Proof.Machine
end

