-- ==== Sys2Proof/Machine/Directory.lean ====
section
/-! DEFINITION. Shared operations of the Take Directory: marks and carry lists (R16, R17, R45), gaps (R18), cuts (R9 to R12), completion
(R22) and damage reports (R21), with the notices cuts and stops send to stations (R106). -/

namespace Sys2Proof.Machine

/-! ### Marks and the carry list -/

/-- Inserts a mark by block, after the marks already at its block (R16). -/
def insertMark (m : Mark) : List Mark → List Mark
  | [] => [m]
  | x :: rest => if m.block < x.block then m :: x :: rest else x :: insertMark m rest

/-- Places a mark in a take's mark list. -/
def State.addMark (s : State) (take : Nat) (m : Mark) : State :=
  s.modTake take fun t => { t with marks := insertMark m t.marks }

/-- Counts marks of a room lost and raises MARK_LOST (R17, R44, R45, R51). -/
def State.loseMarks (s : State) (r : RoomId) (take n : Nat) : State :=
  (s.modRoom r fun x => { x with lostMarks := satAdd Config.max16 x.lostMarks n }).raise (.markLost take (some r) n)

/-- Removes the first mark for which a test holds. -/
def removeFirst (p : Mark → Bool) : List Mark → List Mark
  | [] => []
  | m :: rest => if p m then rest else m :: removeFirst p rest

/-- Appends a mark to a room's carry list. In a full list a CUT or GAP mark displaces the oldest mark that is not a CUT
mark; where all are CUT marks, a GAP mark is not carried and a CUT mark displaces the oldest (R45). -/
def State.carry (s : State) (r : RoomId) (take : Nat) (m : Mark) : State :=
  let list := (s.room r).carry
  if list.length < Config.carryMarks then s.modRoom r fun x => { x with carry := list ++ [m] }
  else if list.any fun x => x.kind != .cut then
    (s.modRoom r fun x => { x with carry := removeFirst (fun y => y.kind != .cut) list ++ [m] }).loseMarks r take 1
  else if m.kind = .cut then (s.modRoom r fun x => { x with carry := list.drop 1 ++ [m] }).loseMarks r take 1
  else s.loseMarks r take 1

/-- Places a mark of the part and appends it to the room's carry list. -/
def State.placeMark (s : State) (r : RoomId) (take : Nat) (m : Mark) : State := (s.addMark take m).carry r take m

/-! ### Gaps (R18) -/

/-- The codes of the marks of a gap of `n` blocks: all but the last 65535, the last the remainder (R18). -/
def gapCodes (n : Nat) : List Nat :=
  let full := (n - 1) / Config.max16
  List.replicate full Config.max16 ++ [n - full * Config.max16]

/-- Places the GAP marks of a gap, each where the pool has a free record, and otherwise lost (R18). -/
def State.placeGapMarks (s : State) (r : RoomId) (take : Nat) (g : GapType) (first : Nat) : List Nat → State
  | [] => s
  | code :: rest =>
    let s := if 0 < s.freeMarks then s.placeMark r take ⟨.gap, first, code, some g⟩ else s.loseMarks r take 1
    let next := match g with
      | .filled => first + code
      | .lost => first
    s.placeGapMarks r take g next rest

/-- Reports a gap of a room's take: the directory counts LOST blocks and places the GAP marks, and the Capture Engine
raises GAP (R18, R43, R48). -/
def State.reportGap (s : State) (r : RoomId) (take : Nat) (g : GapType) (first n : Nat) : State :=
  let s := match g with
    | .lost => s.modTake take fun t => { t with lostBlocks := satAdd Config.max32 t.lostBlocks n }
    | .filled => s
  (s.placeGapMarks r take g first (gapCodes n)).raise (.gap r take g first n)

/-- Reports the room's filled run, if present, which then becomes absent (R43). -/
def State.reportFilledRun (s : State) (r : RoomId) : State :=
  match (s.room r).take, (s.room r).filledRun with
  | some take, some run =>
    (s.modRoom r fun x => { x with filledRun := none }).reportGap r take .filled run.first run.count
  | _, _ => s

/-! ### Notices of closed segments (R106, R107) -/

def noticeKind : Nat := 0x2F

def Slot.code : Slot → Nat
  | .current => 0
  | .shadow => 1

/-- The body of NOTICE SEGMENT_CLOSED: segment, slot, new last block and cursor (R107). -/
def segmentClosedBody (x : SegRef) (slot : Slot) (last cursor : Nat) : List Byte :=
  fieldBytes [fNum 1 1 2, fNum 2 2 x.take, fNum 3 2 x.index, fNum 4 1 slot.code, fPos 5 last, fPos 6 cursor]

/-- Tells one station that a segment closed with a last block. A cut gives a bound: a cursor or current stop point
above it is set to it (R11, R106). -/
def State.tellClosed (x : SegRef) (last : Nat) (bound : Option Nat) (s : State) (k : StationId) : State :=
  let lower := fun n => match bound with
    | some b => min n b
    | none => n
  let st := s.station k
  if st.current = some x then
    (s.setStation k { st with cursor := lower st.cursor, stop := st.stop.map lower }).notify (.station k) noticeKind
      (segmentClosedBody x .current last (lower st.cursor))
  else
    match st.shadow with
    | some sh =>
      if sh.seg = x then
        (s.setStation k { st with shadow := some { sh with cursor := lower sh.cursor } }).notify (.station k) noticeKind
          (segmentClosedBody x .shadow last (lower sh.cursor))
      else s
    | none => s

/-- Tells every station of a closed segment (R106). -/
def State.tellAllClosed (s : State) (x : SegRef) (last : Nat) (bound : Option Nat) : State :=
  allStations.foldl (State.tellClosed x last bound) s

/-! ### Cuts (R9 to R12) -/

/-- A new segment record (R6). -/
def newSegment (index first : Nat) : Segment := ⟨index, first, none, none, 1, 0, none, none, 0⟩

/-- Makes the cut of a growing segment at a block, records being free (R11). -/
def State.makeCut (s : State) (t : Take) (g : Segment) (b : Nat) : State :=
  let old : SegRef := ⟨t.id, g.index⟩
  let new : SegRef := ⟨t.id, g.index + 1⟩
  let s := s.modTake t.id fun t =>
    { t.modSegment g.index (fun x => { x with last := some (b - 1) }) with cutDeferred := false }
  let s := s.modTake t.id fun t => { t with segments := t.segments ++ [newSegment (g.index + 1) b] }
  let s := s.placeMark t.room t.id ⟨.cut, b, g.index + 1, none⟩
  let s := if g.work.isNone then s.handOver old else s
  let s := if t.cls = .rush then s.handOver new else s
  s.tellAllClosed old (b - 1) (some b)

/-- Cuts the growing segment at a block, or defers the cut where a segment or mark record is lacking (R11, R12). -/
def State.cutAt (s : State) (take b : Nat) : State :=
  match s.findTake take with
  | none => s
  | some t =>
    match t.growing with
    | none => s
    | some g =>
      if s.freeSegments = 0 ∨ s.freeMarks = 0 then
        if t.cutDeferred then s
        else
          (s.modTake take fun t => { t with cutDeferred := true }).raise
            (.segmentsFull none (some take) (some g.index) (some (if s.freeSegments = 0 then .segment else .mark)))
      else s.makeCut t g b

/-- The growing length of a take (section 1.5). -/
def growingLength (t : Take) (g : Segment) : Nat := t.length - g.first

/-- The length-triggered cut after a length increment (R10). -/
def State.lengthCut (s : State) (r : RoomId) (take : Nat) : State :=
  match s.findTake take with
  | none => s
  | some t =>
    match t.growing with
    | none => s
    | some g =>
      let a := (s.room r).active
      if secToBlocks a.target + secToBlocks a.extension ≤ growingLength t g ∧ t.length < Config.greatestLength then
        s.cutAt take t.length
      else s

/-- The cut a SPEAKER or BREAK mark at a block may cause (R9). -/
def State.markCut (s : State) (r : RoomId) (take : Nat) (k : MarkKind) (b : Nat) : State :=
  match s.findTake take with
  | none => s
  | some t =>
    match t.growing with
    | none => s
    | some g =>
      let a := (s.room r).active
      let due : Bool := match k with
        | .speaker => decide (secToBlocks a.target ≤ growingLength t g)
        | .break_ => decide (secToBlocks a.minimum ≤ growingLength t g)
        | _ => false
      if due ∧ g.first < b then s.cutAt take b else s

/-! ### Completion, damage and freeing (R21, R22, R26) -/

/-- Makes a CLOSED take COMPLETE where every segment is TYPED (R22). -/
def State.checkComplete (s : State) (take : Nat) : State :=
  s.modTake take fun t =>
    if t.state = .closed ∧ t.segments.all (fun g => g.work == some .typed) then { t with state := .complete } else t

/-- Makes a segment TYPED with no holder, and checks its take (R22). -/
def State.makeTyped (s : State) (x : SegRef) : State :=
  (s.modSegment x fun g => { g with work := some .typed, holder := none }).checkComplete x.take

/-- Takes a damage report of a block: listed or counted, and DAMAGE raised; discarded for a released or unknown take
(R21). -/
def State.reportDamage (s : State) (take b : Nat) : State :=
  match s.findTake take with
  | none => s
  | some t =>
    if t.state = .released then s
    else
      (s.modTake take fun t =>
        if t.damage.length < Config.damageEntries then { t with damage := t.damage ++ [b] }
        else { t with damageOverflow := satAdd Config.max16 t.damageOverflow 1 }).raise (.damage take b)

/-- Frees a take record, with the last completed references to it (R26, R109). -/
def State.freeTake (s : State) (take : Nat) : State :=
  { s with
    takes := s.takes.filter fun t => t.id != take
    stations := s.stations.map fun k =>
      match k.lastCompleted with
      | some x => if x.take = take then { k with lastCompleted := none } else k
      | none => k }

end Sys2Proof.Machine
end

