-- ==== Sys2Proof/Machine/Spare.lean ====
section
/-! DEFINITION. The flash spare area (R199), its code words (R165, R166), and how a page comes back from the medium (R167, R168). -/

namespace Sys2Proof.Machine

/-! ### Tags and mark slots -/

def Channels.tagCode : Channels → Nat
  | .one => 0
  | .two => 1
  | .four => 2

def Channels.ofTagCode : Nat → Option Channels
  | 0 => some .one
  | 1 => some .two
  | 2 => some .four
  | _ => none

/-- The eleven bytes of a tag (R199). -/
def Tag.bytes (t : Tag) : List Byte :=
  toLE 2 t.take ++ [BitVec.ofNat 8 (t.room.val + 8 * t.cls.code + 32 * Channels.tagCode t.channels)] ++ toLE 3 t.chain ++
    [BitVec.ofNat 8 t.valid] ++ toLE 4 t.seq

/-- A valid tag from the first eleven spare bytes; none where it is invalid (R174, R199). -/
def Tag.ofBytes (bs : List Byte) : Option Tag :=
  let take := leNat (bs.take 2)
  let b := leNat ((bs.drop 2).take 1)
  let valid := leNat ((bs.drop 6).take 1)
  match Cls.ofCode (b / 8 % 4), Channels.ofTagCode (b / 32 % 4) with
  | some c, some n =>
    if h : b % 8 < 6 then
      if take ≠ 0 ∧ b < 128 ∧ valid ≤ n.bpp then
        some ⟨take, ⟨b % 8, h⟩, c, n, leNat ((bs.drop 3).take 3), valid, leNat ((bs.drop 7).take 4)⟩
      else none
    else none
  | _, _ => none

/-- Two tags of one unit agree: take id, room, channels, chain index and write sequence are equal (R174). -/
def Tag.agrees (a b : Tag) : Bool :=
  a.take == b.take && a.room == b.room && a.channels == b.channels && a.chain == b.chain && a.seq == b.seq

/-- The kind byte of a mark (R199). -/
def slotKind (m : Mark) : Nat :=
  match m.kind, m.gap with
  | .speaker, _ => 1
  | .note, _ => 2
  | .readback, _ => 3
  | .break_, _ => 4
  | .gap, some .lost => 6
  | .gap, _ => 5
  | .cut, _ => 7

/-- The six bytes of a mark slot; six zeros where it is empty (R199). -/
def slotBytes : Option Mark → List Byte
  | some m => BitVec.ofNat 8 (slotKind m) :: (toLE 3 m.block ++ toLE 2 m.code)
  | none => List.replicate 6 0

/-- The mark of a slot's six bytes; none where it is empty or its kind byte is none of R199's (log entry 24). -/
def slotMark (bs : List Byte) : Option Mark :=
  let block := leNat ((bs.drop 1).take 3)
  let code := leNat ((bs.drop 4).take 2)
  match leNat (bs.take 1) with
  | 1 => some ⟨.speaker, block, code, none⟩
  | 2 => some ⟨.note, block, code, none⟩
  | 3 => some ⟨.readback, block, code, none⟩
  | 4 => some ⟨.break_, block, code, none⟩
  | 5 => some ⟨.gap, block, code, some .filled⟩
  | 6 => some ⟨.gap, block, code, some .lost⟩
  | 7 => some ⟨.cut, block, code, none⟩
  | _ => none

/-- The twelve bytes of the mark slots of a page that carries up to two marks (R38, R199). -/
def markSlots (ms : List Mark) : List Byte := slotBytes ms[0]? ++ slotBytes ms[1]?

/-- The twelve bytes of the mark slots of page 0 of chain index 0: the stamp, remaining bytes 0 (R199). -/
def stampSlots (t : Stamp) : List Byte := t.bytes ++ List.replicate 5 0

/-! ### Code words (R165, R166) -/

/-- The bits of a byte, the most significant first. -/
def byteBits (b : Byte) : List Bool := (List.range 8).map fun i => b.getMsbD i

/-- A 9-bit symbol from its bits, first bit most significant, completed with zero bits. -/
def symbolOf (bits : List Bool) : BitVec 9 :=
  (List.range 9).foldl (fun acc i => acc ||| (if bits[i]?.getD false then (256 : BitVec 9) >>> i else 0)) 0

/-- Cuts bits into `n` symbols. -/
def cutSymbols : Nat → List Bool → List (BitVec 9)
  | 0, _ => []
  | n + 1, bits => symbolOf (bits.take 9) :: cutSymbols n (bits.drop 9)

/-- The 9-bit symbols of a code word's bytes (R166). -/
def symbolsOf (bs : List Byte) : List (BitVec 9) := cutSymbols ((bs.length * 8 + 8) / 9) (bs.flatMap byteBits)

/-- The data bytes of code word `j` of a page's 2112 bytes: a sector, and for word 3 the tag and mark slots too (R165). -/
def codeWord (page : List Byte) (j : Nat) : List Byte :=
  (page.drop (j * 512)).take 512 ++ if j = 3 then (page.drop 2048).take 23 else []

/-- The nine parity bytes of a code word. -/
def parityBytes (bs : List Byte) : List Byte :=
  let p := Config.eccParity (symbolsOf bs)
  (List.range 9).map fun i => (p >>> (8 * i)).setWidth 8

/-- Writes the parity of a buffer's four code words and the ones of the five bytes outside them (R166). -/
def State.encodePage (s : State) (b : BufId) : State :=
  let page := s.readBuf b 0 Config.pageBytes
  s.writeBuf b 2071 ((List.range 4).flatMap (fun j => parityBytes (codeWord page j)) ++ List.replicate 5 0xFF)

/-! ### A page coming back from the medium (R167, R168) -/

/-- `n` bytes: the new ones as far as they go, then the old ones. -/
def fitOver (n : Nat) (old new : List Byte) : List Byte := new.take n ++ old.drop (min n new.length)

/-- Puts bytes over a list from an offset on. -/
def patchAt (page : List Byte) (o : Nat) (new : List Byte) : List Byte :=
  page.take o ++ new ++ page.drop (o + new.length)

/-- Puts code word `j` over a page: its data bytes, then its nine parity bytes. -/
def patchWord (page : List Byte) (j : Nat) (word : List Byte) : List Byte :=
  let extra := if j = 3 then 23 else 0
  let sector := fitOver 512 ((page.drop (j * 512)).take 512) (word.take 512)
  let spare := fitOver extra ((page.drop 2048).take extra) ((word.drop 512).take extra)
  let parity := fitOver 9 ((page.drop (2071 + 9 * j)).take 9) ((word.drop (512 + extra)).take 9)
  patchAt (patchAt (patchAt page (j * 512) sector) 2048 spare) (2071 + 9 * j) parity

/-- The result the Error Corrector reports for a code word. -/
def CodeWordRead.result : CodeWordRead → SectorResult
  | .clean => .clean
  | .corrected n => .corrected n
  | .miscorrected n _ => .corrected n
  | .uncorrectable => .uncorrectable

/-- The bytes of code word `j` within a page's 2112: its data bytes and its parity. -/
def wordBytes (page : List Byte) (j : Nat) : List Byte := codeWord page j ++ (page.drop (2071 + 9 * j)).take 9

/-- The page as read with code word `j` as the Error Corrector leaves it (R167): as read where clean or uncorrectable, as
programmed where corrected. -/
def leaveWord (stored page : List Byte) (j : Nat) : CodeWordRead → List Byte
  | .clean => page
  | .corrected _ => patchWord page j (wordBytes stored j)
  | .miscorrected _ w => patchWord page j w
  | .uncorrectable => page

/-- The page as the medium gave it back, before correction (log entry 9). -/
def rawPage (stored data spare : List Byte) : List Byte :=
  fitOver 2048 (stored.take 2048) data ++ fitOver 64 ((stored.drop 2048).take 64) spare

/-- Whether the spare area of a page as read is all ones (R168). -/
def spareErased (page : List Byte) : Bool := ((page.drop 2048).take 64).all fun b => b == 0xFF

/-- What a page read brings into the buffer, and the decode record, none where the page is ERASED: the spare area as read,
before correction, is all ones (R167, R168). -/
def readPage (stored : List Byte) (x : PageRead) : List Byte × Option DecodeRecord :=
  let raw := rawPage stored x.data x.spare
  if spareErased raw then (raw, none)
  else
    (leaveWord stored (leaveWord stored (leaveWord stored (leaveWord stored raw 0 x.w0) 1 x.w1) 2 x.w2) 3 x.w3,
      some ⟨CodeWordRead.result x.w0, CodeWordRead.result x.w1, CodeWordRead.result x.w2, CodeWordRead.result x.w3⟩)

/-- What a spare read reports: the result of code word 3 with the 23 spare bytes it covers, none where ERASED (R168). -/
def readSpare (stored : List Byte) (x : SpareRead) : Option (SectorResult × List Byte) :=
  let raw := rawPage stored [] x.spare
  if spareErased raw then none
  else some (CodeWordRead.result x.w3, ((leaveWord stored raw 3 x.w3).drop 2048).take 23)

/-- The decode record of an erased page and of a read that timed out: every sector UNCORRECTABLE (R163, R168). -/
def DecodeRecord.allLost : DecodeRecord := ⟨.uncorrectable, .uncorrectable, .uncorrectable, .uncorrectable⟩

/-- The results of a decode record, in sector order. -/
def DecodeRecord.results (d : DecodeRecord) : List SectorResult := [d.s0, d.s1, d.s2, d.s3]

end Sys2Proof.Machine
end

