-- ==== Sys2Proof/Machine/Flash.lean ====
section
/-! DEFINITION. The flash store and the Flash Sequencer: requests, eligibility, issue and the ends of operations (chapter 9). -/

namespace Sys2Proof.Machine

/-! ### The flash store -/

/-- Address of a page of the flash store: by bank, unit address within the bank and page (R156). -/
def flashAddr (b : BankId) (addr page : Nat) : Nat :=
  ((b.val * Config.bankUnits + addr) * Config.unitPages + page) * Config.pageBytes

/-- The 2112 bytes of a page of a unit. A unit in no window has none to read and gives ones. -/
def State.flashPage (s : State) (unit page : Nat) : List Byte :=
  match s.bankOf unit with
  | some (b, addr) => Memory.readBytes flashUnlisted s.flash (flashAddr b addr page) Config.pageBytes
  | none => List.replicate Config.pageBytes 0xFF

/-- Puts bytes into a page of a unit. -/
def State.storePage (s : State) (unit page : Nat) (bs : List Byte) : State :=
  match s.bankOf unit with
  | some (b, addr) => { s with flash := Memory.writeBytes flashUnlisted s.flash (flashAddr b addr page) bs }
  | none => s

/-- Sets all 64 pages of a unit to all ones (R156). -/
def State.eraseUnit (s : State) (unit : Nat) : State :=
  match s.bankOf unit with
  | some (b, addr) =>
    { s with flash := Memory.clear s.flash (flashAddr b addr 0) (Config.unitPages * Config.pageBytes) }
  | none => s

/-- Leaves a page with contents the spec leaves open (R164, R170; log entry 10). -/
def State.spoilPage (s : State) (unit page : Nat) : State :=
  (s.storePage unit page (s.openBytes Config.pageBytes)).useFree

/-- Leaves a whole unit with contents the spec leaves open (R164; log entry 10). -/
def State.spoilUnit (s : State) (unit : Nat) : State :=
  (s.storePage unit 0 (s.openBytes (Config.unitPages * Config.pageBytes))).useFree

/-! ### Requests (R157, R158) -/

/-- Renumbers the pending operations from 0 in their order, which is that of their requests; an operation in progress takes the
number of pending ones before it (R157; log entry 16). -/
def State.renumberOps (s : State) : State :=
  let rank := fun n => (s.flashOps.filter fun o => decide (o.number < n)).length
  { s with
    flashOps := s.flashOps.zipIdx.map fun p => { p.1 with number := p.2 }
    banks := s.banks.map fun b =>
      match b with
      | .busy op u p t => .busy { op with number := rank op.number } u p t
      | other => other
    requestNumber := s.flashOps.length }

/-- Requests an operation in a class: it is appended to the pending list of its class with the next request number
(R157, R158). -/
def State.requestOp (s : State) (cls : Nat) (kind : OpKind) : State :=
  let s := if Config.max32 < s.requestNumber then s.renumberOps else s
  { s with flashOps := s.flashOps ++ [⟨cls, s.requestNumber, kind⟩], requestNumber := s.requestNumber + 1 }

/-- Puts the operation of a failed capture page program back in its place, by its request number (R127, R153; log entry 16). -/
def reinsertOp (op : FlashOp) : List FlashOp → List FlashOp
  | [] => [op]
  | o :: rest => if op.number ≤ o.number then op :: o :: rest else o :: reinsertOp op rest

/-! ### Eligibility and issue (R159 to R161) -/

/-- Whether the pages of a take's chain index are held for a rescue (R142, R151). -/
def State.isHeld (s : State) (take chain : Nat) : Bool := s.rescues.any fun e => e.take == take && e.chain == chain

/-- The unit and page an operation goes to now; none for a held capture page, and for one whose take has no unit there
(R142, R161). -/
def State.opTarget (s : State) : OpKind → Option (Nat × Nat)
  | .captureProgram _ take tp =>
    if s.isHeld take (chainIndex tp) then none
    else (s.chainUnit take (chainIndex tp)).map fun u => (u.number, pageInUnit tp)
  | .copyProgram u p _ => some (u, p)
  | .pageRead u p _ _ => some (u, p)
  | .spareRead u p => some (u, p)
  | .erase u => some (u, 0)

/-- The bank of a unit where it is IDLE. -/
def State.idleBankOf (s : State) (unit : Nat) : Option BankId :=
  match s.bankOf unit with
  | some (b, _) => if s.bank b = .idle then some b else none
  | none => none

/-- An eligible operation with its bank and target. -/
structure Ready where
  op : FlashOp
  bank : BankId
  unit : Nat
  page : Nat
  deriving DecidableEq, Repr

/-- The eligible operations in order of request: the bank IDLE, no earlier pending operation on the same unit, the page
not held (R159, R160). `seen` lists the units of the operations already passed. -/
def State.eligible (s : State) : List Nat → List FlashOp → List Ready
  | _, [] => []
  | seen, op :: rest =>
    match s.opTarget op.kind with
    | none => s.eligible seen rest
    | some (u, p) =>
      if seen.contains u then s.eligible seen rest
      else
        match s.idleBankOf u with
        | some b => ⟨op, b, u, p⟩ :: s.eligible (u :: seen) rest
        | none => s.eligible (u :: seen) rest

/-- The first of the lowest-numbered class (R159). -/
def firstByClass : List Ready → Option Ready
  | [] => none
  | x :: rest =>
    match firstByClass rest with
    | none => some x
    | some y => if y.op.cls < x.op.cls then some y else some x

/-- The buffer of a program. -/
def OpKind.programBuf : OpKind → Option BufId
  | .captureProgram b _ _ => some b
  | .copyProgram _ _ b => some b
  | _ => none

/-- Writes a unit's write sequence into the tag of the page in a buffer (R138, R142). -/
def State.writeSeqTag (s : State) (b : BufId) (unit : Nat) : State :=
  s.writeBuf b 2055 (toLE 4 (((s.unit unit).bind UnitEntry.writeSeq).getD 0))

/-- Issues an operation: its bank becomes BUSY with it. A program's page first takes the unit's write sequence and its
parity; a capture page's buffer becomes PROGRAMMING (R127, R159, R161, R166). -/
def State.issueOp (s : State) (x : Ready) : State :=
  let s := { s with flashOps := s.flashOps.erase x.op }
  let s := s.setBank x.bank (.busy x.op x.unit x.page s.clock)
  let s := match x.op.kind.programBuf with
    | some b => (s.writeSeqTag b x.unit).encodePage b
    | none => s
  match x.op.kind with
  | .captureProgram b _ _ => s.modBuffer b fun y => { y with state := .programming }
  | _ => s

/-- Issues eligible operations one after another, `n` at most. Each makes one more bank BUSY, so four end it. -/
def State.issueSome : Nat → State → State
  | 0, s => s
  | n + 1, s =>
    match firstByClass (s.eligible [] s.flashOps) with
    | none => s
    | some x => State.issueSome n (s.issueOp x)

/-- Issues until no operation is eligible (R159), at the end of an event (R162; log entry 5). -/
def State.issue (s : State) : State := State.issueSome 4 s

/-- The end of an event that may have changed the queue or requested flash work: RUSH_READY is judged (R85; log entry 6)
and the sequencer issues (R159; log entry 5). -/
def State.settle (before s : State) : State := (State.rushCheck before s).issue

/-! ### Counters -/

/-- Counts the results of code words decoded (R167). -/
def State.countWords (s : State) (rs : List SectorResult) : State :=
  let good := (rs.filter fun r => match r with | .corrected _ => true | _ => false).length
  let bad := (rs.filter fun r => r == .uncorrectable).length
  { s with counters :=
      { s.counters with
        corrected := satAdd Config.max32 s.counters.corrected good
        uncorrectable := satAdd Config.max32 s.counters.uncorrectable bad } }

/-- Counts a page read that found an erased page (R168). -/
def State.countErased (s : State) : State :=
  { s with counters := { s.counters with erasedRead := satAdd Config.max32 s.counters.erasedRead 1 } }

def State.countProgramFailure (s : State) : State :=
  { s with counters := { s.counters with programFailures := satAdd Config.max32 s.counters.programFailures 1 } }

def State.countEraseFailure (s : State) : State :=
  { s with counters := { s.counters with eraseFailures := satAdd Config.max32 s.counters.eraseFailures 1 } }

def State.countTimeout (s : State) : State :=
  { s with counters := { s.counters with timeouts := satAdd Config.max32 s.counters.timeouts 1 } }

end Sys2Proof.Machine
end

