-- ==== Sys2Proof/Machine/Rooms.lean ====
section
/-! DEFINITION. Shared operations of room contexts: entering and leaving DROPPING (R46 to R48), FILLING buffers (R33, R126), and staged
settings (R30). -/

namespace Sys2Proof.Machine

/-- The number of FREE buffers (R125). -/
def State.freeBuffers (s : State) : Nat := (allBuffers.filter fun b => (s.buffer b).state == .free).length

/-- The FREE buffer a granted request takes: the lowest-numbered one (log entry 7). -/
def State.firstFree (s : State) : Option BufId := allBuffers.find? fun b => (s.buffer b).state == .free

/-- A FILLING buffer of a room for a page (R126). -/
def fillingBuffer (r : RoomId) (take page : Nat) : Buffer := ⟨.filling, some (take, page), 0, .room r, none⟩

/-- The room leaves DROPPING; blocks dropped are reported as a LOST gap at the take's length (R48). -/
def State.leaveDropping (s : State) (r : RoomId) : State :=
  let x := s.room r
  let s := s.setRoom r { x with dropping := none, dropped := 0 }
  match x.take with
  | none => s
  | some take =>
    match s.findTake take with
    | none => s
    | some t => if 0 < x.dropped then s.reportGap r take .lost t.length x.dropped else s

/-- The room enters DROPPING with a cause and a first count; its filled run is reported before (R43, R46). -/
def State.enterDropping (s : State) (r : RoomId) (c : DropCause) (n : Nat) : State :=
  (s.reportFilledRun r).modRoom r fun x => { x with dropping := some c, dropped := n }

/-- The room is told that a rescue of its OPEN unit waits for a unit (R46, R152). -/
def State.tellRescueWait (s : State) (r : RoomId) : State :=
  if (s.room r).dropping.isSome then s.modRoom r fun x => { x with rescueWaiting := true }
  else (s.enterDropping r .noUnit 0).modRoom r fun x => { x with rescueWaiting := true }

/-- The room is told that the waiting rescue has its unit (R48, R152). -/
def State.tellRescueHasUnit (s : State) (r : RoomId) : State :=
  let s := s.modRoom r fun x => { x with rescueWaiting := false }
  if (s.room r).dropping = some .noUnit ∧ !(s.unitWait.any fun e => e.room == r) then s.leaveDropping r else s

/-- The room that records a take, told only while the take is RECORDING (R152). -/
def State.recordingRoom (s : State) (take : Nat) : Option RoomId :=
  match s.findTake take with
  | some t => if t.state = .recording then some t.room else none
  | none => none

/-- The room is told of the unit it waited for, having left the unit-wait list (R48, R140). -/
def State.tellUnitGranted (s : State) (r : RoomId) : State :=
  if (s.room r).rescueWaiting then s else s.leaveDropping r

/-- A buffer freed goes to a room of the drop-wait list, which has left the list: FILLING for the page of the take's
length, slot 0. The room leaves DROPPING, or changes its cause to NO_UNIT (R48, R131). -/
def State.giveFilling (s : State) (r : RoomId) (t : Take) (b : BufId) : State :=
  let s := s.setBuffer b (fillingBuffer r t.id (takePage t.channels t.length))
  let s := s.modRoom r fun x => { x with filling := some b, slot := 0 }
  if (s.room r).rescueWaiting then s.modRoom r fun x => { x with dropping := some .noUnit } else s.leaveDropping r

/-- A recording room asks for a FILLING buffer as a capture taker: it gets one, or enters DROPPING for NO_BUFFER and
joins the drop-wait list (R33, R46, R126). -/
def State.obtainFilling (s : State) (r : RoomId) : State :=
  match (s.room r).take.bind s.findTake with
  | none => s
  | some t =>
    match s.firstFree with
    | some b =>
      (s.setBuffer b (fillingBuffer r t.id (takePage t.channels t.length))).modRoom r fun x =>
        { x with filling := some b, slot := 0 }
    | none =>
      let s := s.enterDropping r .noBuffer 0
      { s.modRoom r fun x => { x with filling := none, slot := 0 } with dropWait := s.dropWait ++ [r] }

/-! ### Staged settings (R30) -/

/-- The active settings with every staged setting entered. -/
def RoomSettings.apply (a : RoomSettings) (g : StagedSettings) : RoomSettings :=
  { a with
    capture := Vector.ofFn fun j => (g.capture[j]).getD (a.capture[j])
    cls := g.cls.getD a.cls
    target := g.target.getD a.target
    minimum := g.minimum.getD a.minimum
    extension := g.extension.getD a.extension
    overlap := g.overlap.getD a.overlap
    readbackFactor := g.readbackFactor.getD a.readbackFactor }

/-- Every staged setting of a room enters its active settings (R30). -/
def Room.applyStaged (x : Room) : Room := { x with active := x.active.apply x.staged, staged := .absent }

/-- A block boundary: with the hold clear, the staged settings are applied (R30). The hold at the boundary decides, so that after a SET taken
first they stay staged (R184; DEDUCED, log entry 61). -/
def State.blockBoundary (s : State) (r : RoomId) : State :=
  if s.settingsHold then s else s.modRoom r Room.applyStaged

end Sys2Proof.Machine
end

