-- ==== Sys2Proof/Machine/Units.lean ====
section
/-! DEFINITION. The Storage Unit Table's grants and erases (R138, R139, R141, R145), the refresh and rescue engine (R147 to R154), and
the freeing of buffers that may wake it (R131). -/

namespace Sys2Proof.Machine

/-! ### Grants (R138, R139, R141) -/

/-- Grants the unit at the head of the free list where at least `need` units are FREE: it becomes OPEN with the next write
sequence, and STORE_LOW is raised where the free count falls to the low-water mark or below from above it. -/
def State.grantUnit (s : State) (need take chain : Nat) (role : Role) : Option (Nat × State) :=
  match s.freeList with
  | [] => none
  | u :: rest =>
    if need ≤ s.freeList.length ∧ s.writeSeq < Config.max32 then
      let seq := s.writeSeq
      let s' := s.modUnit u fun x =>
        { x with
          state := .opened
          owner := some take
          chain := some chain
          role := some role
          writeSeq := some seq
          nextPage := 0
          finalPage := none
          refreshWanted := false
          inFlight := 0 }
      let s' := { s' with freeList := rest, writeSeq := seq + 1 }
      some (u, if s.lowWater < s.freeList.length ∧ rest.length ≤ s.lowWater then s'.raise (.storeLow rest.length s.lowWater)
        else s')
    else none

/-- A capture grant leaves the capture reserve (R139). -/
def captureNeed : Nat := Config.captureReserve + 1

/-- Obtains a unit for a capture page that opens a chain index, where its chain holds none (R33); true where the page has
its unit. -/
def State.ensureUnit (s : State) (take tp : Nat) : Bool × State :=
  if (s.chainUnit take (chainIndex tp)).isSome then (true, s)
  else
    match s.grantUnit captureNeed take (chainIndex tp) .chain with
    | some (_, s') => (true, s')
    | none => (false, s)

/-! ### Reclaim and erase requests (R145) -/

/-- Requests the erase of a unit of the reclaim FIFO whose in-flight reads are 0. -/
def State.requestErase (s : State) (n : Nat) : State :=
  match s.unit n with
  | some u =>
    if u.state = .reclaim ∧ u.inFlight = 0 then
      { s.modUnit n fun x => { x with state := .erasing } with
        reclaimFifo := s.reclaimFifo.filter fun m => m != n }.requestOp 5 (.erase n)
    else s
  | none => s

/-- While READY, requests the erases of the drained units of the reclaim FIFO in its order (R145). -/
def State.drainReclaim (s : State) : State :=
  if s.readiness = .ready then s.reclaimFifo.foldl State.requestErase s else s

/-- Puts a unit that belongs to no take into RECLAIM (R145, R150), its role and final page absent too (DEDUCED, log entry 69). -/
def State.reclaimUnit (s : State) (n : Nat) : State :=
  ({ s.modUnit n fun x =>
      { x with state := .reclaim, owner := none, chain := none, role := none, finalPage := none, refreshWanted := false }
    with reclaimFifo := s.reclaimFifo ++ [n] }).drainReclaim

/-- Makes a unit RETIRED, its fields absent, its next page 0 and no refresh wanted, and raises UNIT_RETIRED (R146, R149, R153; DEDUCED, log
entry 57). -/
def State.retireUnit (s : State) (n : Nat) (c : RetireCause) : State :=
  (s.modUnit n fun x =>
    { x with
      state := .retired
      owner := none
      chain := none
      role := none
      writeSeq := none
      nextPage := 0
      finalPage := none
      refreshWanted := false }).raise (.unitRetired n (((s.bankOf n).map Prod.fst).getD 0) c)

/-! ### The engine's copy operations (R148, R149) -/

/-- The engine's work, with whether it is a rescue. -/
def Engine.work : Engine → Option (Bool × Work)
  | .idle => none
  | .refresh w => some (false, w)
  | .rescue w => some (true, w)

/-- An engine with work of a kind. -/
def Engine.of (isRescue : Bool) (w : Work) : Engine := if isRescue then .rescue w else .refresh w

/-- The class of the engine's reads and programs (R149, R153, R158). -/
def engineClass (isRescue : Bool) : Nat := if isRescue then 2 else 4

/-- Requests the read of the page being copied into the COPY buffer (R149). -/
def State.requestCopyRead (s : State) (isRescue : Bool) (w : Work) (b : BufId) : State :=
  let s := s.modUnit w.source fun u => { u with inFlight := u.inFlight + 1 }
  { s with engine := .of isRescue { w with buf := some b, flight := .read } }.requestOp (engineClass isRescue)
    (.pageRead w.source w.page b .engine)

/-- Whether a copy buffer may be taken: any FREE buffer for a rescue, more than Nrec + 8 FREE for a refresh (R125). -/
def State.copyBufferGranted (s : State) (isRescue : Bool) : Bool :=
  if isRescue then decide (1 ≤ s.freeBuffers) else decide (s.nrec + 8 < s.freeBuffers)

/-- The engine, with a destination and no buffer, asks for a copy buffer; granted, it reads the page being copied
(R130, R148, R152). -/
def State.askCopyBuffer (s : State) (isRescue : Bool) (w : Work) : State :=
  match s.firstFree with
  | some b =>
    if s.copyBufferGranted isRescue then
      (s.setBuffer b ⟨.copy, none, 0, .engine, none⟩).requestCopyRead isRescue w b
    else s
  | none => s

/-- The pool tells the engine that a buffer has become FREE: where it waits for one, it asks again (R131, R148). -/
def State.engineRetry (s : State) : State :=
  match s.engine.work with
  | some (isRescue, w) => if w.dest.isSome ∧ w.buf = none then s.askCopyBuffer isRescue w else s
  | none => s

/-- A buffer that becomes free goes to the room at the head of the drop-wait list, or becomes FREE (R131). -/
def State.freeBuffer (s : State) (b : BufId) : State :=
  match s.dropWait with
  | r :: rest =>
    match (s.room r).take.bind s.findTake with
    | some t => { s with dropWait := rest }.giveFilling r t b
    | none => (({ s with dropWait := rest }).setBuffer b .reset).engineRetry
  | [] => (s.setBuffer b .reset).engineRetry

/-- Frees the buffer of a piece of work, if any. -/
def State.freeOptBuffer (s : State) (b : Option BufId) : State :=
  match b with
  | some b => s.freeBuffer b
  | none => s

/-! ### Taking and ending work (R147 to R154) -/

/-- Work at its start: nothing granted, page 0. -/
def newWork (take chain source : Nat) : Work := ⟨take, chain, source, none, none, 0, .none_, 0, false, false⟩

/-- Ends a rescue (R153): the destination becomes the chain unit, the failed unit is retired and its erase requested, the
buffer is freed, the entry leaves the list and so releases the held pages, and the engine takes its next work. -/
def State.endRescue (next : State → State) (s : State) (w : Work) (d : Nat) : State :=
  let p := ((s.rescues.find? fun e => e.unit == w.source).map Rescue.page).getD 0
  let fp := (s.unit w.source).bind UnitEntry.finalPage
  let full := match fp with
    | some f => decide (f < p)
    | none => false
  let s := s.modUnit d fun x =>
    { x with
      role := some .chain
      state := if full then .full else .opened
      nextPage := p
      finalPage := fp }
  let s := (s.retireUnit w.source .program).requestOp 5 (.erase w.source)
  let s := ({ s with engine := .idle }).freeOptBuffer w.buf
  next { s with rescues := s.rescues.filter fun e => e.unit != w.source }

/-- A rescue that has its destination copies from page 0, in the buffer it holds or one it asks for; with no page to copy
it ends at once (R152, R153). -/
def State.rescueHasUnit (next : State → State) (s : State) (w : Work) (d : Nat) : State :=
  let w := { w with dest := some d, page := 0, damaged := 0 }
  let p := ((s.rescues.find? fun e => e.unit == w.source).map Rescue.page).getD 0
  let s := { s with engine := .rescue w }
  if p = 0 then s.endRescue next w d
  else
    match w.buf with
    | some b => s.requestCopyRead true w b
    | none => s.askCopyBuffer true w

/-- A rescue asks for its destination; where none is granted it waits, RESCUE_WAIT is raised and the take's room told
(R152). What QUERY_STORE shows of its page meanwhile: DESIGN CHOICE, log entry 58. -/
def State.rescueAsks (next : State → State) (s : State) (w : Work) : State :=
  match s.grantUnit 1 w.take w.chain .destination with
  | some (d, s') => s'.rescueHasUnit next w d
  | none =>
    let s := { s with engine := .rescue { w with dest := none, flight := .none_ } }
    match s.findTake w.take with
    | none => s
    | some t =>
      let s := s.raise (.rescueWait w.take w.chain t.room)
      match s.recordingRoom w.take with
      | some r => s.tellRescueWait r
      | none => s

/-- The idle engine takes the first rescue, else the head of the refresh FIFO, abandoning refreshes for which no unit is
granted; `fuel` counts the pieces of work it may end at once (R147, R148, R152). -/
def State.takeWork : Nat → State → State
  | 0, s => { s with engine := .idle }
  | fuel + 1, s =>
    let s := { s with engine := .idle }
    if s.readiness ≠ .ready then s
    else
      match s.rescues with
      | e :: _ => s.rescueAsks (State.takeWork fuel) (newWork e.take e.chain e.unit)
      | [] =>
        match s.refreshFifo with
        | [] => s
        | n :: rest =>
          let s := { s with refreshFifo := rest }
          match s.unit n with
          | none => State.takeWork fuel s
          | some u =>
            let take := u.owner.getD 0
            let chain := u.chain.getD 0
            match s.grantUnit captureNeed take chain .destination with
            | some (d, s') =>
              let w := { newWork take chain n with dest := some d }
              { s' with engine := .refresh w }.askCopyBuffer false w
            | none =>
              State.takeWork fuel
                ((s.modUnit n fun x => { x with refreshWanted := false }).raise (.refreshAbandoned take chain n))

/-- The engine takes its next work (R147). -/
def State.engineNext (s : State) : State := State.takeWork (s.rescues.length + s.refreshFifo.length + 1) s

/-- Where the engine is IDLE, it takes work (R147). -/
def State.engineKick (s : State) : State := if s.engine = .idle then s.engineNext else s

/-- Puts the destination of ended work into RECLAIM, if there is one (R147, R154). -/
def State.reclaimOpt (s : State) (d : Option Nat) : State :=
  match d with
  | some n => s.reclaimUnit n
  | none => s

/-- Sets a refresh aside: its buffer is freed, its destination reclaimed, its source put at the head of the refresh FIFO,
and the engine takes the rescue (R147). -/
def State.setAside (s : State) (w : Work) : State :=
  let s := ({ s with engine := .idle }).freeOptBuffer w.buf
  let s := s.reclaimOpt w.dest
  { s with refreshFifo := w.source :: s.refreshFifo }.engineNext

/-- Stops the engine's work on a released take (R154). -/
def State.stopWork (s : State) (w : Work) : State :=
  let s := { s with engine := .idle, rescues := s.rescues.filter fun e => e.unit != w.source }
  ((s.freeOptBuffer w.buf).reclaimOpt w.dest).engineNext

/-- Enters a rescue; a refresh in progress is set aside, at its completion where an operation is in flight (R147, R151). -/
def State.enterRescue (s : State) (e : Rescue) : State :=
  let s := { s with rescues := s.rescues ++ [e] }
  match s.engine with
  | .idle => s.engineNext
  | .rescue _ => s
  | .refresh w => if w.flight = .none_ then s.setAside w else { s with engine := .refresh { w with aside := true } }

/-- Abandons a refresh for which no destination is granted (R148): the alert is raised before a COPY buffer it holds is given out (R130;
DESIGN CHOICE, log entry 66). -/
def State.abandonRefresh (s : State) (w : Work) : State :=
  let s := (s.modUnit w.source fun x => { x with refreshWanted := false }).raise
    (.refreshAbandoned w.take w.chain w.source)
  (({ s with engine := .idle }).freeOptBuffer w.buf).engineNext

/-- Restarts a refresh whose destination failed: a new destination and page 0 again, or abandonment (R149). -/
def State.restartRefresh (s : State) (w : Work) : State :=
  match s.grantUnit captureNeed w.take w.chain .destination with
  | none => s.abandonRefresh w
  | some (d, s') =>
    let w := { w with dest := some d, page := 0, damaged := 0 }
    match w.buf with
    | some b => s'.requestCopyRead false w b
    | none => { s' with engine := .refresh w }.askCopyBuffer false w

/-- Ends a refresh (R150). -/
def State.endRefresh (s : State) (w : Work) (d : Nat) : State :=
  let fp := (s.unit w.source).bind UnitEntry.finalPage
  let s := s.modUnit d fun x =>
    { x with state := .full, role := some .chain, finalPage := fp, refreshWanted := false }
  let s := s.reclaimUnit w.source
  let s := ({ s with engine := .idle }).freeOptBuffer w.buf
  (s.raise (.refreshDone w.take w.chain w.source d w.damaged)).engineNext

/-! ### Units becoming FREE or FULL -/

/-- Grants units to the rooms of the unit-wait list while the free count exceeds the reserve, `n` at most (R140). -/
def State.offerWaiters : Nat → State → State
  | 0, s => s
  | n + 1, s =>
    match s.unitWait with
    | [] => s
    | e :: rest =>
      match s.grantUnit captureNeed e.take e.chain .chain with
      | none => s
      | some (_, s') => State.offerWaiters n ({ s' with unitWait := rest }.tellUnitGranted e.room)

/-- Offers a unit that has become FREE: first to a rescue waiting for its destination, then to the unit-wait list
(R140). -/
def State.offerUnit (s : State) : State :=
  let s := match s.engine with
    | .rescue w =>
      if w.dest = none then
        match s.grantUnit 1 w.take w.chain .destination with
        | none => s
        | some (d, s') =>
          let s' := match s'.recordingRoom w.take with
            | some r => s'.tellRescueHasUnit r
            | none => s'
          s'.rescueHasUnit State.engineNext w d
      else s
    | _ => s
  s.offerWaiters s.unitWait.length

/-- An OPEN chain unit becomes FULL where it holds 64 pages or its final page; with refresh-wanted set it enters the
refresh FIFO (R142). -/
def State.checkFull (s : State) (n : Nat) : State :=
  match s.unit n with
  | none => s
  | some u =>
    let full := u.nextPage = Config.unitPages ∨ u.finalPage.any (fun f => decide (f < u.nextPage))
    if u.state = .opened ∧ u.role = some .chain ∧ full then
      let s := s.modUnit n fun x => { x with state := .full }
      if u.refreshWanted then { s with refreshFifo := s.refreshFifo ++ [n] }.engineKick else s
    else s

/-- A capture page has been programmed into a chain unit (R142). -/
def State.advanceUnit (s : State) (n : Nat) : State :=
  (s.modUnit n fun x => { x with nextPage := x.nextPage + 1 }).checkFull n

/-- Tells the table the last take page of a stopped take (R142). -/
def State.setFinalPage (s : State) (take tp : Nat) : State :=
  match s.chainUnit take (chainIndex tp) with
  | none => s
  | some u => (s.modUnit u.number fun x => { x with finalPage := some (pageInUnit tp) }).checkFull u.number

/-- The refresh trigger on a unit still in a chain (R144). -/
def State.wantRefresh (s : State) (n : Nat) : State :=
  match s.unit n with
  | none => s
  | some u =>
    if u.inChain ∧ !u.refreshWanted then
      let s := s.modUnit n fun x => { x with refreshWanted := true }
      if u.state = .full then { s with refreshFifo := s.refreshFifo ++ [n] }.engineKick else s
    else s

/-- Whether a decode triggers a refresh at a threshold (R144). -/
def DecodeRecord.weak (d : DecodeRecord) (threshold : Nat) : Bool :=
  d.results.any fun r =>
    match r with
    | .clean => false
    | .corrected n => decide (threshold ≤ n)
    | .uncorrectable => true

end Sys2Proof.Machine
end

