-- ==== Sys2Proof/Machine/Readers.lean ====
section
/-! DEFINITION. Shared operations of the readers: pins and holdings (R99, R103, R116, R119, R128), READ and READBACK_READ (R98 to R102,
R115 to R118), contexts that lose a segment or a take (R94, R105, R120), and take stops in the directory (R13, R14). -/

namespace Sys2Proof.Machine

/-! ### Resident pages, pins and holdings -/

/-- Buffers in these states stand in the residency map (R123). -/
def BufState.resident : BufState → Bool
  | .filling => true
  | .programWait => true
  | .programming => true
  | .cached => true
  | _ => false

/-- The residency map: the buffer that holds a page of a take (R122, R124). -/
def State.resident (s : State) (take tp : Nat) : Option BufId :=
  allBuffers.find? fun b => (s.buffer b).state.resident && (s.buffer b).page == some (take, tp)

/-- Adds a pin (R128). -/
def State.pin (s : State) (b : BufId) : State := s.modBuffer b fun x => { x with pins := x.pins + 1 }

/-- Removes a pin; a CACHED buffer whose pins reach 0 is freed (R128). -/
def State.unpin (s : State) (b : BufId) : State :=
  let s := s.modBuffer b fun x => { x with pins := x.pins - 1 }
  if (s.buffer b).state = .cached ∧ (s.buffer b).pins = 0 then s.freeBuffer b else s

/-- Releases what a holding holds: a pin, or an owned buffer (R103, R119). -/
def State.dropHolding (s : State) (h : Holding) : State := if h.owned then s.freeBuffer h.buf else s.unpin h.buf

/-- Releases a station's holding, which becomes absent (R103). -/
def State.releaseHolding (s : State) (k : StationId) : State :=
  match (s.station k).holding with
  | none => s
  | some h => (s.modStation k fun x => { x with holding := none }).dropHolding h

/-- Releases a read-back context's holding, which becomes absent (R119). -/
def State.releaseReadback (s : State) (r : RoomId) : State :=
  match (s.readback r).holding with
  | none => s
  | some h => (s.modReadback r fun x => { x with holding := none }).dropHolding h

/-- Requests a flash read of a page for a reader into a buffer, from the unit at the page's chain index (R100, R117,
R129, R143). -/
def State.requestPageRead (s : State) (x : Reader) (cls : Nat) (take tp : Nat) (u : UnitEntry) (b : BufId) : State :=
  let s := s.setBuffer b ⟨.readWait, some (take, tp), 0, .reader x, none⟩
  (s.modUnit u.number fun y => { y with inFlight := y.inFlight + 1 }).requestOp cls
    (.pageRead u.number (pageInUnit tp) b (.reader x))

/-- The body of an answer that carries one position. -/
def positionBody (b : Nat) : List Byte := fieldBytes [fPos 1 b]

/-- The body of a served block (R198). -/
def servedBody (b : Nat) (order : ByteOrder) (f : Formed) : List Byte :=
  toLE 4 (blocksToCs b) ++ toLE 2 f.saturated ++ sampleBytes order f.samples

/-! ### READ (R98 to R102) -/

/-- Serves the block at a station's cursor from a page in a buffer (R102). -/
def State.serveStation (s : State) (k : StationId) (t : Take) (g : Segment) (b : BufId) : State :=
  let st := s.station k
  let f := s.formBlock b t.channels (blockInPage t.channels st.cursor) st.mask st.factor
  (s.setStation k { st with cursor := st.cursor + 1 }).answer (.station k) .ok
    { damaged := f.damaged, live := segmentOpen t g } (servedBody st.cursor st.order f)

/-- Starts the flash read of a station's page, or answers BUSY or WAIT_STORE (R100). -/
def State.stationFlashRead (s : State) (k : StationId) (take tp : Nat) : State :=
  let st := s.station k
  if st.pendingRead.isSome then s.answer (.station k) .busy {} (positionBody st.cursor)
  else
    match s.firstFree, s.chainUnit take (chainIndex tp) with
    | some b, some u =>
      if s.nrec + 4 < s.freeBuffers then
        (s.requestPageRead (.station k) 3 take tp u b).modStation k fun x => { x with pendingRead := some .none_ }
      else s.answer (.station k) .waitStore {} (positionBody st.cursor)
    | _, _ => s.answer (.station k) .waitStore {} (positionBody st.cursor)

/-- READ from step 1 of R98, for a READ outstanding on the station's link. -/
def State.stationRead (s : State) (k : StationId) : State :=
  let st := s.station k
  if st.stop = some st.cursor then
    ((s.modStation k fun x => { x with stop := none, state := .paused }).releaseHolding k).answer (.station k) .stopped {}
      (positionBody st.cursor)
  else
    match st.current with
    | none => s.answer (.station k) .refused
    | some x =>
      match s.lookup x with
      | .gone => s.answer (.station k) .gone
      | .unknown => s.answer (.station k) .unknownId
      | .found (t, g) =>
        let w := windowOf t g
        if w.atEnd ≤ st.cursor then
          s.answer (.station k) (if w.live then .atEdge else .end_) {} (positionBody w.atEnd)
        else
          let tp := takePage t.channels st.cursor
          match st.holding.filter fun h => h.take == t.id && h.page == tp with
          | some h => s.serveStation k t g h.buf
          | none =>
            let s := s.releaseHolding k
            match s.resident t.id tp with
            | some b =>
              ((s.pin b).modStation k fun y => { y with holding := some ⟨false, b, t.id, tp⟩ }).serveStation k t g b
            | none => s.stationFlashRead k t.id tp

/-- A station's flash read completes into a buffer: by its fate the page is held and the READ handled anew, or the READ
is answered or not and the buffer freed (R101). -/
def State.stationReadDone (s : State) (k : StationId) (b : BufId) : State :=
  let fate := (s.station k).pendingRead
  let s := s.modStation k fun x => { x with pendingRead := none }
  match fate with
  | some .none_ =>
    let pg := (s.buffer b).page.getD (0, 0)
    let s := s.modBuffer b fun x => { x with state := .held }
    (s.modStation k fun x => { x with holding := some ⟨true, b, pg.1, pg.2⟩ }).stationRead k
  | some .preempted => (s.answer (.station k) .preempted).freeBuffer b
  | some .recalled => (s.answer (.station k) .recalled).freeBuffer b
  | some .gone => (s.answer (.station k) .gone).freeBuffer b
  | some .discard => s.freeBuffer b
  | none => s.freeBuffer b

/-! ### READBACK_READ (R115 to R118) -/

/-- Serves the block at a read-back cursor (R118). -/
def State.serveReadback (s : State) (r : RoomId) (t : Take) (b : BufId) : State :=
  let x := s.readback r
  let a := (s.room r).active
  let f := s.formBlock b t.channels (blockInPage t.channels x.cursor) x.mask a.readbackFactor
  (s.setReadback r { x with cursor := x.cursor + 1 }).answer (.room r) .ok
    { damaged := f.damaged, live := t.state == .recording } (servedBody x.cursor a.order f)

/-- Starts the flash read of a read-back page, or answers BUSY or WAIT_STORE (R117). -/
def State.readbackFlashRead (s : State) (r : RoomId) (take tp : Nat) : State :=
  let x := s.readback r
  if x.pendingRead.isSome then s.answer (.room r) .busy {} (positionBody x.cursor)
  else
    match s.firstFree, s.chainUnit take (chainIndex tp) with
    | some b, some u =>
      if s.nrec < s.freeBuffers then
        ((s.requestPageRead (.readback r) 1 take tp u b).modReadback r fun y =>
          { y with pendingRead := some ⟨take, tp, .none_⟩ }).answer (.room r) .busy {} (positionBody x.cursor)
      else s.answer (.room r) .waitStore {} (positionBody x.cursor)
    | _, _ => s.answer (.room r) .waitStore {} (positionBody x.cursor)

/-- A read-back context becomes IDLE: its holding released and its take absent, the end point kept (R110, R114, R115). -/
def State.restReadback (s : State) (r : RoomId) : State :=
  (s.releaseReadback r).modReadback r fun x => { x with active := false, take := none }

/-- A read-back context becomes IDLE and its end point absent (R115, R119). -/
def State.idleReadback (s : State) (r : RoomId) : State :=
  (s.restReadback r).modReadback r fun x => { x with endPoint := none }

/-- READBACK_READ of an ACTIVE context (R115). -/
def State.readbackRead (s : State) (r : RoomId) : State :=
  let x := s.readback r
  if x.endPoint = some x.cursor then (s.idleReadback r).answer (.room r) .stopped {} (positionBody x.cursor)
  else
    match x.take.bind s.findTake with
    | none => s.answer (.room r) .unknownId
    | some t =>
      let w := takeWindow t
      if w.atEnd ≤ x.cursor then
        if w.live then s.answer (.room r) .atEdge {} (positionBody w.atEnd)
        else (s.restReadback r).answer (.room r) .end_ {} (positionBody w.atEnd)
      else if x.pendingRead.any (fun p => p.fate == .none_) then s.answer (.room r) .busy {} (positionBody x.cursor)
      else
        let tp := takePage t.channels x.cursor
        match x.holding.filter fun h => h.take == t.id && h.page == tp with
        | some h => s.serveReadback r t h.buf
        | none =>
          let s := s.releaseReadback r
          match s.resident t.id tp with
          | some b =>
            ((s.pin b).modReadback r fun y => { y with holding := some ⟨false, b, t.id, tp⟩ }).serveReadback r t b
          | none => s.readbackFlashRead r t.id tp

/-- A read-back flash read completes (R117). -/
def State.readbackReadDone (s : State) (r : RoomId) (b : BufId) : State :=
  let p := (s.readback r).pendingRead
  let s := s.modReadback r fun x => { x with pendingRead := none }
  match p with
  | some ⟨take, page, .none_⟩ =>
    (s.modBuffer b fun x => { x with state := .held }).modReadback r fun x =>
      { x with holding := some ⟨true, b, take, page⟩ }
  | _ => s.freeBuffer b

/-- Ends a read-back: any pending read with fate NONE takes fate DISCARD, and the context becomes IDLE (R119, R120). -/
def State.endReadback (s : State) (r : RoomId) : State :=
  (s.idleReadback r).modReadback r fun x =>
    { x with pendingRead := x.pendingRead.map fun p => { p with fate := .discard } }

/-! ### A station losing a segment (R94, R101, R105) -/

/-- Sets the fate of a station's pending read while it is still NONE (R101). -/
def State.setFate (s : State) (k : StationId) (f : Fate) : State :=
  s.modStation k fun x => { x with pendingRead := x.pendingRead.map fun old => if old = .none_ then f else old }

/-- The current segment leaves a station: its shadow is restored as current in PAUSED, or the station becomes IDLE. Gives
the restored context, its cursor clamped (R65, R94). -/
def State.leaveCurrent (s : State) (k : StationId) : State × Option Shadow :=
  let st := s.station k
  match st.shadow with
  | none => (s.setStation k { st with state := .idle, current := none, cursor := 0, stop := none }, none)
  | some sh =>
    let c := match s.lookup sh.seg with
      | .found (t, g) => restoreCursor (windowOf t g) sh.cursor
      | _ => sh.cursor
    let s := s.modSegment sh.seg fun g => { g with holder := some (k, .current) }
    (s.setStation k { st with state := .paused, current := some sh.seg, cursor := c, stop := none, shadow := none },
      some { sh with cursor := c })

/-- A station loses a segment without a request: as current its holding is released and its pending read takes a fate;
as shadow only the shadow becomes absent (R105). -/
def State.loseSlot (s : State) (k : StationId) (slot : Slot) (f : Fate) : State × Option Shadow :=
  match slot with
  | .shadow => (s.modStation k fun x => { x with shadow := none }, none)
  | .current => ((s.releaseHolding k).setFate k f).leaveCurrent k

/-- The items that name a restored context: segment, cursor and was-playing flag. -/
def restoredItems (sh : Shadow) : List BodyField :=
  [fNum 1 2 sh.seg.take, fNum 2 2 sh.seg.index, fPos 3 sh.cursor] ++ fFlag 4 sh.wasPlaying

/-- The body of NOTICE RECALLED: the segments taken with their slots, the released and emptied indications, the restored
context as one entry (R105, R107; DESIGN CHOICE, log entry 55). -/
def recalledBody (taken : List (SegRef × Slot)) (released emptied : Bool) (restored : Option Shadow) : List Byte :=
  fieldBytes ([fNum 1 1 1] ++
    (taken.map fun x => fEntry 2 [fNum 1 2 x.1.take, fNum 2 2 x.1.index, fNum 3 1 x.2.code]) ++
    fFlag 3 released ++ fFlag 4 emptied ++ (restored.toList.map fun sh => fEntry 5 (restoredItems sh)))

/-- Takes an ASSIGNED segment from the station that holds it, with NOTICE RECALLED (R82, R105). -/
def State.seize (s : State) (x : SegRef) (k : StationId) (slot : Slot) (emptied : Bool) : State :=
  let r := s.loseSlot k slot .recalled
  r.1.notify (.station k) noticeKind (recalledBody [(x, slot)] false emptied r.2)

/-! ### A take stop in the directory (R13, R14) -/

/-- The empty growing segment at a stop leaves its station, where one holds it (R14). -/
def State.seizeEmpty (s : State) (x : SegRef) (g : Segment) : State :=
  match g.work, g.holder with
  | some .assigned, some (k, slot) => s.seize x k slot true
  | _, _ => s

/-- Removes the first mark that is the CUT mark of a code. -/
def removeCut (code : Nat) (ms : List Mark) : List Mark := removeFirst (fun m => m.kind == .cut && m.code == code) ms

/-- Closes the growing segment at a stop: with its last block, or as the empty segment of an empty take, or deleted with
its CUT mark (R13, R14). -/
def State.stopSegment (s : State) (t : Take) (g : Segment) : State :=
  let x : SegRef := ⟨t.id, g.index⟩
  if g.first < t.length then
    let s := s.modSegment x fun y => { y with last := some (t.length - 1) }
    let s := if g.work.isNone then s.handOver x else s
    s.tellAllClosed x (t.length - 1) none
  else if t.length = 0 then
    (s.seizeEmpty x g).modSegment x fun y => { y with work := some .typed, holder := none }
  else
    let s := s.seizeEmpty x g
    let s := s.modTake t.id fun y =>
      { y with
        segments := y.segments.filter fun z => z.index != g.index
        marks := removeCut g.index y.marks }
    s.modRoom t.room fun y => { y with carry := removeCut g.index y.carry }

/-- The directory stops a take: its growing segment is closed, its state is CLOSED, or COMPLETE where every segment is
TYPED (R13, R14). -/
def State.stopTake (s : State) (take : Nat) : State :=
  match s.findTake take with
  | none => s
  | some t =>
    let s := match t.growing with
      | some g => s.stopSegment t g
      | none => s
    (s.modTake take fun y => { y with state := .closed, cutDeferred := false }).checkComplete take

end Sys2Proof.Machine
end

