-- ==== Sys2Proof/Machine/Stations.lean ====
section
/-! DEFINITION. The typist station requests, and a station link's loss (chapters 3, 4 and 5). -/

namespace Sys2Proof.Machine

/-! ### Answers of a station -/

/-- The items that name a segment: take id and index. -/
def segmentItems (x : SegRef) : List BodyField := [fNum 1 2 x.take, fNum 2 2 x.index]

/-- The body of DONE's and RELEASE's answers that names a restored context, as one entry (R92, R93; DESIGN CHOICE, log entry 55). -/
def restoredFields (id : Nat) (restored : Option Shadow) : List BodyField :=
  restored.toList.map fun sh => fEntry id (restoredItems sh)

/-! ### CLAIM (R75 to R77, R91) -/

/-- The classes a claim may receive: the accepted classes, and those of the claim's own set where present (R75). -/
def claimFilter (accepted : BitVec 3) (own : Option Nat) : BitVec 3 :=
  match own with
  | some m => accepted &&& BitVec.ofNat 3 m
  | none => accepted

/-- The entry a claim chooses: the successor of the last completed segment where it is eligible and of Best's class, else
Best (R75, R76). -/
def State.chooseEntry (s : State) (filter : BitVec 3) (last : Option SegRef) : Option QEntry :=
  let eligible := s.queue.filter fun e => filter.getLsbD (classRank e.cls)
  match eligible with
  | [] => none
  | best :: _ =>
    match last with
    | none => some best
    | some x =>
      match eligible.find? fun e => e.ref == ⟨x.take, x.index + 1⟩ with
      | some e => if e.cls = best.cls then some e else some best
      | none => some best

/-- The items CLAIM answers with (R91). -/
def claimItems (t : Take) (g : Segment) (start : Nat) : List BodyField :=
  let w := windowOf t g
  [fNum 1 2 t.id, fNum 2 2 g.index, fNum 3 1 t.cls.code, fNum 4 1 t.channels.count, ⟨5, t.stamp.bytes⟩, fPos 6 g.first] ++
    fPosOpt 7 g.last ++ [fPos 8 w.lo, fPos 9 w.atEnd, fPos 10 start] ++ fPosOpt 11 g.resume ++ [fNum 12 2 g.returns]

/-- Gives a station a segment as its current, in PAUSED at its start point (R77, R80, R91, R104). -/
def State.giveCurrent (s : State) (k : StationId) (x : SegRef) (start : Nat) : State :=
  (s.assign x k .current).modStation k fun y =>
    { y with state := .paused, current := some x, cursor := start, stop := none }

/-- CLAIM at the Station Service and the scheduler (R91, R75, R76, R77): a class set that names no class is refused before the
station's state is looked at (R89). -/
def serveClaim (k : StationId) (own : Option Nat) (s : State) : State :=
  let st := s.station k
  if own = some 0 then s.answer (.station k) .badArg
  else if st.state ≠ .idle then s.answer (.station k) .refused
  else
    match s.chooseEntry (claimFilter st.accepted own) st.lastCompleted with
    | none => s.answer (.station k) .empty
    | some e =>
      match s.lookup e.ref with
      | .found (t, g) =>
        let p := startPoint t g
        ((s.giveCurrent k e.ref p).modStation k fun y => { y with shadow := none, holding := none }).answerFields
          (.station k) .ok { live := segmentOpen t g } (claimItems t g p)
      | _ => s.answer (.station k) .empty

/-- CLAIM. -/
def execClaim (k : StationId) (tag : Byte) (body : List Byte) (s : State) : Host.Outcome State Fault Refusal :=
  .next (s.request (.station k) 0x20 tag .readyOnly (parseClaim body) (serveClaim k))

/-! ### READ, PAUSE, RESUME (R95, R98) -/

/-- READ at the Station Service (R89, R98). -/
def serveRead (k : StationId) (s : State) : State :=
  if (s.station k).state = .playing then State.settle s (s.stationRead k) else s.answer (.station k) .refused

/-- READ. -/
def execRead (k : StationId) (tag : Byte) (body : List Byte) (s : State) : Host.Outcome State Fault Refusal :=
  .next (s.request (.station k) 0x21 tag .readyOnly (parseNone body) fun _ => serveRead k)

/-- PAUSE at the Station Service (R89, R95). -/
def servePause (k : StationId) (s : State) : State :=
  let st := s.station k
  match st.state with
  | .playing =>
    let s' := (s.releaseHolding k).modStation k fun x => { x with state := .paused }
    State.settle s (s'.answerFields (.station k) .ok {} [fPos 1 st.cursor])
  | .paused => s.answerFields (.station k) .ok {} [fPos 1 st.cursor]
  | _ => s.answer (.station k) .refused

/-- PAUSE. -/
def execPause (k : StationId) (tag : Byte) (body : List Byte) (s : State) : Host.Outcome State Fault Refusal :=
  .next (s.request (.station k) 0x22 tag .readyOnly (parseNone body) fun _ => servePause k)

/-- The cursor after a skip-back: max(lo, cursor − skip), never raised (R66). -/
def skipBack (lo cursor skip : Nat) : Nat := max lo (cursor - csToBlocks skip)

/-- RESUME at the Station Service (R66, R89, R95). -/
def serveResume (k : StationId) (s : State) : State :=
  let st := s.station k
  if st.state ≠ .paused then s.answer (.station k) .refused
  else
    match st.current with
    | none => s.answer (.station k) .refused
    | some x =>
      match s.lookup x with
      | .gone => s.answer (.station k) .gone
      | .unknown => s.answer (.station k) .unknownId
      | .found (t, g) =>
        let c := skipBack (windowOf t g).lo st.cursor st.skipBack
        (s.setStation k { st with state := .playing, cursor := c }).answerFields (.station k) .ok {} [fPos 1 c]

/-- RESUME. -/
def execResume (k : StationId) (tag : Byte) (body : List Byte) (s : State) : Host.Outcome State Fault Refusal :=
  .next (s.request (.station k) 0x23 tag .readyOnly (parseNone body) fun _ => serveResume k)

/-! ### SEEK (R59 to R63) -/

/-- A count held to 1 to 8 (R59, R112). -/
def clampCount (n : Nat) : Nat := min (max n 1) 8

/-- The base of a cue, none where a mark search finds no mark (R60). -/
def cueBase (t : Take) (g : Segment) (cursor : Nat) : CueForm → Option Nat
  | .absolute => some 0
  | .relative => some cursor
  | .mark k n d => searchMarks t k (clampCount n) d cursor
  | .segmentStart => some g.first
  | .leadIn => some (windowOf t g).lo

/-- The target of a cue: base plus offset, less the cue lead in a MARK cue (R61). -/
def cueTarget (base : Nat) (offset : Int) (lead : Nat) : CueForm → Int
  | .mark _ _ _ => (base : Int) + offsetBlocks offset - csToBlocks lead
  | _ => (base : Int) + offsetBlocks offset

/-- The count a MARK cue used, where it was clamped (R59). -/
def clampedCount : CueForm → Option Nat
  | .mark _ n _ => if clampCount n = n then none else some (clampCount n)
  | _ => none

/-- SEEK at the Station Service (R59 to R63, R96). -/
def serveSeek (k : StationId) (a : SeekArgs) (s : State) : State :=
  let st := s.station k
  if st.state ≠ .paused ∧ st.state ≠ .playing then s.answer (.station k) .refused
  else
    match st.current with
    | none => s.answer (.station k) .refused
    | some x =>
      match s.lookup x with
      | .gone => s.answer (.station k) .gone
      | .unknown => s.answer (.station k) .unknownId
      | .found (t, g) =>
        match cueBase t g st.cursor a.form with
        | none => s.answer (.station k) .unknownId
        | some base =>
          let w := windowOf t g
          let p := clampTo w.lo w.atEnd (cueTarget base a.offset st.cueLead a.form)
          (s.setStation k { st with cursor := p.1 }).answerFields (.station k) .ok
            { p.2 with clamped := (clampedCount a.form).isSome } (fPos 1 p.1 :: fOpt 2 1 (clampedCount a.form))

/-- SEEK. -/
def execSeek (k : StationId) (tag : Byte) (body : List Byte) (s : State) : Host.Outcome State Fault Refusal :=
  .next (s.request (.station k) 0x24 tag .readyOnly (parseSeek body) (serveSeek k))

/-! ### SET_PLAYBACK and SET_STOP (R90, R97) -/

/-- Whether a carried value lies above its greatest. -/
def above (top : Nat) (n : Option Nat) : Bool := n.any fun v => decide (top < v)

/-- SET_PLAYBACK at the Station Service (R90). OFFLINE is refused (log entry 52), and a clamped answer gives every number carried
as used (log entry 46). -/
def serveSetPlayback (k : StationId) (a : SetPlaybackArgs) (s : State) : State :=
  let st := s.station k
  if st.state = .offline then s.answer (.station k) .refused
  else
    let f := a.factor.map (min 4095)
    let c := a.cueLead.map (min 1000)
    let b := a.skipBack.map (min 1000)
    let clamped := above 4095 a.factor || above 1000 a.cueLead || above 1000 a.skipBack
    (s.setStation k
      { st with
        mask := (a.mask.map (BitVec.ofNat 4)).getD st.mask
        factor := f.getD st.factor
        order := a.order.getD st.order
        cueLead := c.getD st.cueLead
        skipBack := b.getD st.skipBack }).answerFields (.station k) .ok { clamped := clamped }
      (if clamped then fOpt 2 2 f ++ fOpt 4 2 c ++ fOpt 5 2 b else [])

/-- SET_PLAYBACK. -/
def execSetPlayback (k : StationId) (tag : Byte) (body : List Byte) (s : State) : Host.Outcome State Fault Refusal :=
  .next (s.request (.station k) 0x25 tag .readyOnly (parseSetPlayback body) (serveSetPlayback k))

/-- SET_STOP at the Station Service (R97). -/
def serveSetStop (k : StationId) (a : Option Nat) (s : State) : State :=
  let st := s.station k
  if st.state ≠ .paused ∧ st.state ≠ .playing then s.answer (.station k) .refused
  else
    match a with
    | none => (s.setStation k { st with stop := none }).answer (.station k) .ok
    | some cs =>
      match st.current with
      | none => s.answer (.station k) .refused
      | some x =>
        match s.lookup x with
        | .gone => s.answer (.station k) .gone
        | .unknown => s.answer (.station k) .unknownId
        | .found (t, g) =>
          let w := windowOf t g
          let p := clampTo w.lo w.atEnd (csToBlocks cs)
          (s.setStation k { st with stop := some p.1 }).answerFields (.station k) .ok p.2 [fPos 1 p.1]

/-- SET_STOP. -/
def execSetStop (k : StationId) (tag : Byte) (body : List Byte) (s : State) : Host.Outcome State Fault Refusal :=
  .next (s.request (.station k) 0x26 tag .readyOnly (parseSetStop body) (serveSetStop k))

/-! ### DONE and RELEASE (R92 to R94) -/

/-- DONE at the Station Service and the directory (R92, R22, R94). -/
def serveDone (k : StationId) (a : Nat × Nat) (s : State) : State :=
  let x : SegRef := ⟨a.1, a.2⟩
  let st := s.station k
  if (st.state = .paused ∨ st.state = .playing) ∧ st.current = some x then
    match s.lookup x with
    | .found (t, g) =>
      if segmentOpen t g then s.answer (.station k) .refused
      else
        let s' := (s.makeTyped x).releaseHolding k
        let r := (s'.modStation k fun y => { y with lastCompleted := some x, stop := none }).leaveCurrent k
        State.settle s (r.1.answerFields (.station k) .ok {} (restoredFields 1 r.2))
    | _ => s.answer (.station k) .refused
  else s.answer (.station k) .refused

/-- DONE. -/
def execDone (k : StationId) (tag : Byte) (body : List Byte) (s : State) : Host.Outcome State Fault Refusal :=
  .next (s.request (.station k) 0x27 tag .readyOnly (parseSegment body) (serveDone k))

/-- RELEASE at the Station Service and the scheduler (R93, R74, R94). -/
def serveRelease (k : StationId) (a : ReleaseArgs) (s : State) : State :=
  let x : SegRef := ⟨a.take, a.index⟩
  let st := s.station k
  if (st.state = .paused ∨ st.state = .playing) ∧ st.current = some x then
    match s.lookup x with
    | .found (t, g) =>
      let w := windowOf t g
      let p := a.typedTo.map fun cs => clampTo g.first w.atEnd (csToBlocks cs)
      let clamped := p.any fun q => q.2.clampedLow || q.2.clampedHigh
      let s' := (s.releaseHolding k).returnSegment x (p.map Prod.fst)
      let r := s'.leaveCurrent k
      State.settle s (r.1.answerFields (.station k) .ok { clamped := clamped }
        (restoredFields 1 r.2 ++ if clamped then fPosOpt 2 (p.map Prod.fst) else []))
    | _ => s.answer (.station k) .refused
  else s.answer (.station k) .refused

/-- RELEASE. -/
def execRelease (k : StationId) (tag : Byte) (body : List Byte) (s : State) : Host.Outcome State Fault Refusal :=
  .next (s.request (.station k) 0x28 tag .readyOnly (parseRelease body) (serveRelease k))

/-! ### STATUS (R108) -/

def StationState.code : StationState → Nat
  | .offline => 0
  | .idle => 1
  | .paused => 2
  | .playing => 3

/-- The fields STATUS and QUERY_STATION report, with the position coding of the link; the shadow and the last completed
segment are entries (R108, R188; DESIGN CHOICE, log entry 55). -/
def State.stationFields (s : State) (pos : Nat → Nat → BodyField) (k : StationId) : List BodyField :=
  let st := s.station k
  let current := match st.current with
    | none => []
    | some x =>
      segmentFields x st
  let shadow := st.shadow.toList.map fun sh =>
    fEntry 10 ([fNum 1 2 sh.seg.take, fNum 2 2 sh.seg.index, pos 3 sh.cursor] ++ fFlag 4 sh.wasPlaying)
  let last := st.lastCompleted.toList.map fun x => fEntry 11 (segmentItems x)
  [fNum 1 1 st.state.code] ++ current ++ shadow ++ last ++
    [fNum 12 1 st.mask.toNat, fNum 13 2 st.factor, fNum 14 1 st.order.code, fNum 15 2 st.cueLead, fNum 16 2 st.skipBack,
      fNum 17 1 st.accepted.toNat]
where
  segmentFields (x : SegRef) (st : Station) : List BodyField :=
    match s.lookup x with
    | .found (t, g) =>
      let w := windowOf t g
      [fNum 2 2 x.take, fNum 3 2 x.index, fNum 4 1 t.cls.code] ++ fFlag 5 (segmentOpen t g) ++
        [pos 6 w.lo, pos 7 w.atEnd, pos 8 st.cursor] ++ st.stop.toList.map (pos 9)
    | _ => [fNum 2 2 x.take, fNum 3 2 x.index]

/-- STATUS at the Station Service (R108). -/
def serveStatus (k : StationId) (s : State) : State :=
  if (s.station k).state = .offline then s.answer (.station k) .refused
  else s.answerFields (.station k) .ok {} (s.stationFields fPos k)

/-- STATUS. -/
def execStatus (k : StationId) (tag : Byte) (body : List Byte) (s : State) : Host.Outcome State Fault Refusal :=
  .next (s.request (.station k) 0x29 tag .readyOnly (parseNone body) fun _ => serveStatus k)

/-! ### Loss of a station link (R83, R109) -/

/-- Returns a segment a lost station held, with no resume point (R83). -/
def State.returnOpt (s : State) (x : Option SegRef) : State :=
  match x with
  | some x => s.returnSegment x none
  | none => s

/-- A station context whose link is lost: its holding is released, its pending read takes DISCARD, its current and then
its shadow segment are returned, and STATION_LOST is raised (R83, R109). -/
def State.loseStation (s : State) (k : StationId) : State :=
  let s := s.releaseHolding k
  let st := s.station k
  let shadow := st.shadow.map Shadow.seg
  let s := (s.returnOpt st.current).returnOpt shadow
  let s := s.modStation k fun x =>
    { x with
      state := .offline
      current := none
      cursor := 0
      stop := none
      shadow := none
      pendingRead := x.pendingRead.map fun _ => .discard }
  s.raise (.stationLost k (st.current.toList ++ shadow.toList))

end Sys2Proof.Machine
end

