-- ==== Sys2Proof/Machine/Settings.lean ====
section
/-! DEFINITION. The supervisor's configuration commands: CONFIGURE_BANK, CONFIGURE_DEVICE, SETTINGS_HOLD, CONFIGURE_ROOM and
CONFIGURE_STATION (R29 to R31, R90, R136, R183, R184). -/

namespace Sys2Proof.Machine

/-! ### CONFIGURE_BANK (R136) -/

/-- The window of bank `b` in the window table. -/
def State.window (s : State) (b : BankId) : Option Window := s.windows[b]

/-- Whether two windows share a unit number. -/
def Window.overlaps (v w : Window) : Bool := decide (v.base < w.base + w.size ∧ w.base < v.base + v.size)

/-- Whether a window's size is one of the three and the window lies within 0 to 32767. -/
def Window.legal (w : Window) : Bool := (w.size == 2048 || w.size == 4096 || w.size == 8192) && decide (w.base + w.size ≤ 32768)

/-- Whether a new window of a bank is legal and apart from the other banks' windows. -/
def State.windowFits (s : State) (b : BankId) (w : Window) : Bool :=
  w.legal && allBanks.all fun c => c == b || !((s.window c).any w.overlaps)

/-- The entry of a unit of a new window (R136). -/
def newUnit (n : Nat) : UnitEntry := ⟨n, .reclaim, none, none, none, none, 0, none, false, 0⟩

/-- The unit numbers of a window, ascending. -/
def Window.numbers (w : Window) : List Nat := (List.range w.size).map (w.base + ·)

/-- Removes a bank's window with its units. -/
def State.removeWindow (s : State) (b : BankId) : State :=
  match s.window b with
  | none => s
  | some w =>
    { s with
      windows := s.windows.set b none
      units := s.units.filter fun u => !w.holds u.number
      reclaimFifo := s.reclaimFifo.filter fun n => !w.holds n }

/-- Gives a bank a window, its units in RECLAIM; the unit table stays in ascending unit number. -/
def State.addWindow (s : State) (b : BankId) (w : Window) : State :=
  { s with
    windows := s.windows.set b (some w)
    units := (s.units.filter fun u => decide (u.number < w.base)) ++ w.numbers.map newUnit ++
      s.units.filter fun u => decide (w.base + w.size ≤ u.number)
    reclaimFifo := s.reclaimFifo ++ w.numbers }

/-- The number of units inside all windows. -/
def State.unitsInside (s : State) : Nat := (allBanks.map fun b => ((s.window b).map Window.size).getD 0).sum

/-- The fields that name a window. -/
def windowFields (w : Option Window) : List BodyField := (w.toList.map fun w => [fNum 1 2 w.base, fNum 2 2 w.size]).flatten

/-- CONFIGURE_BANK at the Storage Unit Table (R136). Bad arguments are found before the readiness state (log entry 49). -/
def serveConfigureBank (a : ConfigureBankArgs) (s : State) : State :=
  if h : a.bank < 4 then
    let b : BankId := ⟨a.bank, h⟩
    let w := a.window.map fun p => (⟨p.1, p.2⟩ : Window)
    if w.any fun w => !s.windowFits b w then s.answer .supervisor .badArg
    else if s.readiness ≠ .notReady then s.answer .supervisor .refused
    else
      let s := s.removeWindow b
      let s := match w with
        | some w => s.addWindow b w
        | none => s
      s.answerFields .supervisor .ok {} (windowFields w ++ [fNum 3 2 s.unitsInside])
  else s.answer .supervisor .badArg

/-- CONFIGURE_BANK. -/
def execConfigureBank (tag : Byte) (body : List Byte) (s : State) : Host.Outcome State Fault Refusal :=
  .next (s.request .supervisor 0x40 tag .always (parseConfigureBank body) serveConfigureBank)

/-! ### CONFIGURE_DEVICE (R183) -/

/-- A value held to a range. -/
def clampNat (lo hi n : Nat) : Nat := min (max n lo) hi

/-- Whether a carried value lies outside a range. -/
def outside (lo hi : Nat) (n : Option Nat) : Bool := n.any fun v => decide (v < lo ∨ hi < v)

/-- CONFIGURE_DEVICE at the Supervisor Command Unit (R183). -/
def serveConfigureDevice (a : ConfigureDeviceArgs) (s : State) : State :=
  let clamped := outside 1 4 a.threshold || outside 0 32767 a.lowWater
  let t := (a.threshold.map (clampNat 1 4)).getD s.threshold
  let w := (a.lowWater.map (clampNat 0 32767)).getD s.lowWater
  let m := (a.mask.map (BitVec.ofNat 14)).getD s.alertMask
  ({ s with threshold := t, lowWater := w, alertMask := m } : State).answerFields .supervisor .ok { clamped := clamped }
    [fNum 1 1 t, fNum 2 2 w, fNum 3 2 m.toNat]

/-- CONFIGURE_DEVICE. -/
def execConfigureDevice (tag : Byte) (body : List Byte) (s : State) : Host.Outcome State Fault Refusal :=
  .next (s.request .supervisor 0x42 tag .configuration (parseConfigureDevice body) serveConfigureDevice)

/-! ### SETTINGS_HOLD (R31, R184) -/

/-- Every room outside RECORDING takes its staged settings (R31). -/
def State.applyIdleStaged (s : State) : State :=
  { s with rooms := s.rooms.map fun x => if x.state = .recording then x else x.applyStaged }

/-- The rooms in or outside RECORDING that hold staged settings. -/
def State.stagedRooms (s : State) (recording : Bool) : Nat :=
  (allRooms.filter fun r => ((s.room r).state == .recording) == recording && (s.room r).staged != .absent).length

/-- SETTINGS_HOLD at the Supervisor Command Unit (R184). -/
def serveSettingsHold (set : Bool) (s : State) : State :=
  if set then ({ s with settingsHold := true } : State).answerFields .supervisor .ok {} [fSetClear 1 true]
  else
    let applied := if s.settingsHold then s.stagedRooms false else 0
    let s := if s.settingsHold then ({ s with settingsHold := false } : State).applyIdleStaged else s
    s.answerFields .supervisor .ok {} [fSetClear 1 false, fNum 2 1 applied, fNum 3 1 (s.stagedRooms true)]

/-- SETTINGS_HOLD. -/
def execSettingsHold (tag : Byte) (body : List Byte) (s : State) : Host.Outcome State Fault Refusal :=
  .next (s.request .supervisor 0x43 tag .configuration (parseSettingsHold body) serveSettingsHold)

/-! ### CONFIGURE_ROOM (R29, R30) -/

/-- The carried numeric settings, each held to its range (R29). -/
def clampRoomArgs (a : ConfigureRoomArgs) : ConfigureRoomArgs :=
  { a with
    capture0 := a.capture0.map (min 4095)
    capture1 := a.capture1.map (min 4095)
    capture2 := a.capture2.map (min 4095)
    capture3 := a.capture3.map (min 4095)
    target := a.target.map (clampNat 10 3600)
    minimum := a.minimum.map (clampNat 5 3600)
    extension := a.extension.map (min 900)
    overlap := a.overlap.map (min 1000)
    readbackFactor := a.readbackFactor.map (min 4095) }

/-- Whether the command carries an idle setting (R29). -/
def carriesIdleSetting (a : ConfigureRoomArgs) : Bool := a.channels.isSome || a.timing.isSome || a.order.isSome

/-- The idle settings and the clip alert carried enter the active settings (R29). -/
def RoomSettings.enterNow (x : RoomSettings) (a : ConfigureRoomArgs) : RoomSettings :=
  { x with
    channels := (a.channels.bind Channels.ofCount).getD x.channels
    timing := a.timing.getD x.timing
    order := a.order.getD x.order
    clipAlert := a.clipAlert.getD x.clipAlert }

/-- The staged settings carried replace those staged before (R30). -/
def StagedSettings.stage (g : StagedSettings) (a : ConfigureRoomArgs) : StagedSettings where
  capture := #v[a.capture0 <|> g.capture[0], a.capture1 <|> g.capture[1], a.capture2 <|> g.capture[2], a.capture3 <|> g.capture[3]]
  cls := a.cls <|> g.cls
  target := a.target <|> g.target
  minimum := a.minimum <|> g.minimum
  extension := a.extension <|> g.extension
  overlap := a.overlap <|> g.overlap
  readbackFactor := a.readbackFactor <|> g.readbackFactor

/-- The values used of the numeric settings carried, clamped or not, under the numbers of their arguments (R29; DESIGN CHOICE, log
entry 53). -/
def usedRoomArgs (a : ConfigureRoomArgs) : List BodyField :=
  fOpt 5 2 a.capture0 ++ fOpt 6 2 a.capture1 ++ fOpt 7 2 a.capture2 ++ fOpt 8 2 a.capture3 ++ fOpt 10 2 a.target ++
    fOpt 11 2 a.minimum ++ fOpt 12 2 a.extension ++ fOpt 13 2 a.overlap ++ fOpt 14 2 a.readbackFactor

/-- CONFIGURE_ROOM at the Capture Engine (R29, R30). A bad channel count is found before a RECORDING room (DESIGN CHOICE, log entry
54). -/
def serveConfigureRoom (a : ConfigureRoomArgs) (s : State) : State :=
  if h : a.room < 6 then
    let r : RoomId := ⟨a.room, h⟩
    let x := s.room r
    if a.channels.any fun n => (Channels.ofCount n).isNone then s.answer .supervisor .badArg
    else if carriesIdleSetting a ∧ x.state = .recording then s.answer .supervisor .refused
    else
      let c := clampRoomArgs a
      let y := { x with active := x.active.enterNow c, staged := x.staged.stage c }
      let y := if x.state ≠ .recording ∧ !s.settingsHold then y.applyStaged else y
      (s.setRoom r y).answerFields .supervisor .ok { clamped := decide (c ≠ a) } (if c ≠ a then usedRoomArgs c else [])
  else s.answer .supervisor .badArg

/-- CONFIGURE_ROOM. -/
def execConfigureRoom (tag : Byte) (body : List Byte) (s : State) : Host.Outcome State Fault Refusal :=
  .next (s.request .supervisor 0x44 tag .configuration (parseConfigureRoom body) serveConfigureRoom)

/-! ### CONFIGURE_STATION (R90) -/

/-- CONFIGURE_STATION at the Station Service (R90). -/
def serveConfigureStation (a : Nat × Nat) (s : State) : State :=
  if h : a.1 < 8 then
    (s.modStation ⟨a.1, h⟩ fun x => { x with accepted := BitVec.ofNat 3 a.2 }).answer .supervisor .ok
  else s.answer .supervisor .badArg

/-- CONFIGURE_STATION. -/
def execConfigureStation (tag : Byte) (body : List Byte) (s : State) : Host.Outcome State Fault Refusal :=
  .next (s.request .supervisor 0x45 tag .configuration (parseConfigureStation body) serveConfigureStation)

end Sys2Proof.Machine
end

