-- ==== Sys2Proof/Machine/Rebuild.lean ====
section
/-! DEFINITION. REBUILD: the scan, the choice of chains, and the restoration of the directory, the unit table and the counters
(R173 to R180). -/

namespace Sys2Proof.Machine

/-! ### The scan (R173, R174) -/

/-- Begins the scan of a unit of a bank with a spare read of its page 0 (R174). -/
def State.beginScan (s : State) (n : Nat) : State :=
  match s.rebuild with
  | none => s
  | some x => ({ s with rebuild := some { x with scans := x.scans ++ [⟨n, none, [], none⟩] } } : State).requestOp 6 (.spareRead n 0)

/-- REBUILD at the Supervisor Command Unit (R173). The first spare reads are requested by ascending bank (R174; log entry 51). -/
def serveRebuild (s : State) : State :=
  let windows := allBanks.filterMap s.window
  if s.readiness ≠ .notReady ∨ windows = [] then s.answer .supervisor .refused
  else
    let s' : State := { s with readiness := .rebuilding, rebuild := some ⟨[], none, none⟩ }
    let s' := s'.answerFields .supervisor .ok {} [fNum 1 2 s.unitsInside]
    State.settle s (windows.foldl (fun q w => q.beginScan w.base) s')

/-- REBUILD. -/
def execRebuild (tag : Byte) (body : List Byte) (s : State) : Host.Outcome State Fault Refusal :=
  .next (s.request .supervisor 0x41 tag .always (parseNone body) fun _ => serveRebuild)

/-- Changes the scan record of a unit. -/
def Rebuild.modScan (x : Rebuild) (n : Nat) (f : ScanRec → ScanRec) : Rebuild :=
  { x with scans := x.scans.map fun y => if y.unit = n then f y else y }

/-- The greater of a running maximum and a value. -/
def runMax (m : Option Nat) (n : Nat) : Option Nat := some (max (m.getD 0) n)

/-- What the rebuild makes of a page of a unit at a spare read's completion (R174). -/
inductive Judgement where
  | counted (t : Tag) (p : ScanPage)
  | ends (c : ScanEnd)
  deriving DecidableEq, Repr

/-- Judges a page by its spare read and by the tag of page 0, absent for page 0 itself (R174). -/
def judge (first : Option Tag) : Option (SectorResult × List Byte) → Judgement
  | none => .ends .erased
  | some (.uncorrectable, _) => .ends .unreadable
  | some (_, bytes) =>
    match Tag.ofBytes bytes with
    | none => .ends .unreadable
    | some t =>
      if first.all fun f => f.agrees t then .counted t ⟨t.cls, t.valid, (bytes.drop 11).take 12⟩ else .ends .unreadable

/-! ### Choosing chains (R175, R176) -/

/-- The number of pages a scan counted. -/
def ScanRec.n (y : ScanRec) : Nat := y.pages.length

/-- Whether a scan record claims a take id and chain index. -/
def ScanRec.claims (y : ScanRec) (take chain : Nat) : Bool := y.tag.any fun t => t.take == take && t.chain == chain

/-- Of two claimants, the one kept: the one with more pages, or with as many and the higher write sequence (R175; log
entry 35). -/
def betterClaim (y z : ScanRec) : ScanRec :=
  if y.n < z.n ∨ (y.n = z.n ∧ (y.tag.map Tag.seq).getD 0 < (z.tag.map Tag.seq).getD 0) then z else y

/-- The kept claimant of a take id and chain index (R175). -/
def keptClaim (scans : List ScanRec) (take chain : Nat) : Option ScanRec :=
  match scans.filter fun y => y.claims take chain with
  | [] => none
  | y :: ys => some (ys.foldl betterClaim y)

/-- The kept chain from a chain index upward: each unit but the last has 64 pages (R176). -/
def keptRun (scans : List ScanRec) (take : Nat) : Nat → Nat → List ScanRec
  | 0, _ => []
  | fuel + 1, chain =>
    match keptClaim scans take chain with
    | none => []
    | some y => if y.n = Config.unitPages then y :: keptRun scans take fuel (chain + 1) else [y]

/-- A kept chain: its take id, its units' scan records from chain index 0, and whether it ends short (R176). -/
structure Chain where
  take : Nat
  run : List ScanRec
  short : Bool
  deriving DecidableEq, Repr

/-- The kept chain of a take id (R176). -/
def keptChain (scans : List ScanRec) (take : Nat) : Chain :=
  let run := keptRun scans take (scans.length + 1) 0
  let above := scans.any fun y => y.tag.any fun t => t.take == take && decide (run.length ≤ t.chain)
  ⟨take, run, above || (run.getLast?.bind ScanRec.cause) == some .unreadable⟩

/-- The take ids with a candidate at chain index 0, ascending (R176). -/
def chainTakes (scans : List ScanRec) : List Nat :=
  (sortBy id (scans.filterMap fun y => (y.tag.filter fun t => t.chain == 0).map Tag.take)).eraseDups

/-! ### Restoring takes (R177) -/

/-- The counted pages of a chain in take page order. -/
def Chain.pages (c : Chain) : List ScanPage := c.run.flatMap ScanRec.pages

/-- The length the counted pages give, no page giving more than the take's blocks per page (R177; DESIGN CHOICE, log entry 67). -/
def pagesLength (bpp : Nat) : List ScanPage → Nat
  | [] => 0
  | p :: ps => if p.valid < bpp then p.valid else bpp + pagesLength bpp ps

/-- The take record of a kept chain (R177), with its segment 0 (R179). -/
def State.restoredTake (s : State) (c : Chain) (t : Tag) : Take where
  id := t.take
  room := t.room
  state := .closed
  cls := (c.pages.getLast?.map ScanPage.cls).getD t.cls
  channels := t.channels
  overlap := csToBlocks (s.room t.room).active.overlap
  stamp := Stamp.ofBytes ((c.pages.head?.map ScanPage.slots).getD [])
  length := pagesLength t.channels.bpp c.pages
  lostBlocks := 0
  hold := false
  cutDeferred := false
  damage := []
  damageOverflow := 0
  segments := [newSegment 0 0]
  marks := []

/-- Enters the take record of a chain, with the report of a chain that ends short (R176, R177). -/
def State.restoreTake (s : State) (c : Chain) : State :=
  match c.run.head?.bind ScanRec.tag with
  | none => s
  | some t =>
    let x := s.restoredTake c t
    let s := { s with takes := insertTake x s.takes }
    if c.short then s.reportDamage x.id x.length else s

/-! ### Restoring marks (R178) -/

/-- The marks in a page's two spare slots. -/
def ScanPage.marks (p : ScanPage) : List Mark := (slotMark (p.slots.take 6)).toList ++ (slotMark (p.slots.drop 6)).toList

/-- The marks of a chain that are restored at a length, in the order read (R178). -/
def Chain.marks (c : Chain) (length : Nat) : List Mark :=
  ((c.pages.drop 1).flatMap ScanPage.marks).filter fun m =>
    decide (m.block < length) || (m.kind != .cut && m.block == length)

/-- Places restored marks while the pool has a free record; gives the number lost (R178). -/
def State.restoreMarks (take : Nat) : List Mark → State → State × Nat
  | [], s => (s, 0)
  | m :: ms, s =>
    if 0 < s.freeMarks then State.restoreMarks take ms (s.addMark take m)
    else
      let r := State.restoreMarks take ms s
      (r.1, r.2 + 1)

/-- The blocks of a take's LOST gaps (R177). -/
def lostOf (ms : List Mark) : Nat := ((ms.filter fun m => m.kind == .gap && m.gap == some .lost).map Mark.code).sum

/-- Restores the marks and lost blocks of a chain's take (R177, R178). -/
def State.restoreChainMarks (s : State) (c : Chain) : State :=
  match s.findTake c.take with
  | none => s
  | some t =>
    let r := State.restoreMarks t.id (c.marks t.length) s
    let s := r.1.modTake t.id fun x => { x with lostBlocks := min (lostOf x.marks) Config.max32 }
    if 0 < r.2 then s.raise (.markLost t.id none r.2) else s

/-! ### Restoring segments (R179) -/

/-- What the CUT marks of a take make: its segments, the marks kept, and whether a record was lacking. -/
structure Restored where
  segments : List Segment
  marks : List Mark
  lacking : Bool
  deriving DecidableEq, Repr

/-- A closed segment of a restored take. -/
def closedSegment (index first last : Nat) : Segment := { newSegment index first with last := some last }

/-- Rebuilds the segments of a take of a length from its marks, with `free` records left, the segment being made having
an index and a first block (R179). -/
def restoreSegments (length : Nat) : List Mark → Nat → Nat → Nat → Restored
  | [], _, i, f => ⟨[closedSegment i f (length - 1)], [], false⟩
  | m :: ms, free, i, f =>
    if m.kind ≠ .cut then
      let r := restoreSegments length ms free i f
      { r with marks := m :: r.marks }
    else if m.block ≤ f then restoreSegments length ms free i f
    else if free = 0 then { restoreSegments length ms free i f with lacking := true }
    else
      let r := restoreSegments length ms (free - 1) (i + 1) m.block
      { r with
        segments := closedSegment i f (m.block - 1) :: r.segments
        marks := { m with code := i + 1 } :: r.marks }

/-- Restores the segments of a take; the empty segment of a take of length 0 is TYPED and its take COMPLETE (R179). -/
def State.restoreTakeSegments (s : State) (take : Nat) : State :=
  match s.findTake take with
  | none => s
  | some t =>
    if t.length = 0 then s.makeTyped ⟨take, 0⟩
    else
      let r := restoreSegments t.length t.marks s.freeSegments 0 0
      let s := s.modTake take fun x => { x with segments := r.segments, marks := r.marks }
      if r.lacking then s.raise (.segmentsFull none (some take) none none) else s

/-! ### Restoring the unit table and counters; READY (R180) -/

/-- The place of a unit in the kept chains: its take, chain index, scan record, and whether it is the chain's last. -/
def chainPlace (chains : List Chain) (n : Nat) : Option (Nat × Nat × ScanRec × Bool) :=
  chains.findSome? fun c =>
    (c.run.zipIdx.find? fun p => p.1.unit == n).map fun p => (c.take, p.2, p.1, p.2 + 1 == c.run.length)

/-- The entry of a unit after the rebuild (R175, R180). -/
def restoredUnit (scans : List ScanRec) (chains : List Chain) (u : UnitEntry) : UnitEntry :=
  match chainPlace chains u.number with
  | some (take, chain, y, isLast) =>
    ⟨u.number, .full, some take, some chain, some .chain, y.tag.map Tag.seq, y.n, if isLast then some (y.n - 1) else none, false, 0⟩
  | none =>
    let erased := scans.any fun y => y.unit == u.number && y.pages.isEmpty && y.cause == some .erased
    { newUnit u.number with state := if erased then .free else .reclaim }

/-- Hands the segments of a take that are not TYPED to the scheduler, in index order (R180). -/
def State.handOverTake (s : State) (take : Nat) : State :=
  match s.findTake take with
  | none => s
  | some t =>
    (t.segments.filter fun g => g.work != some .typed).foldl (fun q g => q.handOver ⟨take, g.index⟩) s

/-- Restores the unit table and the counters from the scan (R180). -/
def State.restoreTable (s : State) (x : Rebuild) (chains : List Chain) : State :=
  let units := s.units.map (restoredUnit x.scans chains)
  { s with
    units := units
    freeList := (units.filter fun u => u.state == .free).map UnitEntry.number
    reclaimFifo := (units.filter fun u => u.state == .reclaim).map UnitEntry.number
    writeSeq := match x.maxSeq with
      | some m => min (m + 1) Config.max32
      | none => 0
    lastId := x.maxTake.getD 0 }

/-- The rebuild's stages after the scan (R175 to R180). -/
def State.finishRebuild (s : State) (x : Rebuild) : State :=
  let scans := sortBy ScanRec.unit x.scans
  let ids := chainTakes scans
  let chains := (ids.take Config.takeRecords).map (keptChain scans)
  let s := if Config.takeRecords < ids.length then s.raise (.takesFull none (some (ids.length - Config.takeRecords))) else s
  let s := chains.foldl State.restoreTake s
  let s := chains.foldl State.restoreChainMarks s
  let s := (chains.map Chain.take).foldl State.restoreTakeSegments s
  let s := s.restoreTable { x with scans := scans } chains
  let s := (chains.map Chain.take).foldl State.handOverTake s
  ({ s with readiness := .ready, rebuild := none } : State).drainReclaim.engineKick

/-- The number of units whose scan has ended. -/
def Rebuild.ended (x : Rebuild) : Nat := (x.scans.filter fun y => y.cause.isSome).length

/-- A unit's scan has ended: the bank's next unit is begun, or with the last of all units the rebuild goes on (R174,
R175). -/
def State.scanEnded (s : State) (b : BankId) (n : Nat) : State :=
  match s.window b, s.rebuild with
  | some w, some x =>
    if n + 1 < w.base + w.size then s.beginScan (n + 1)
    else if x.ended = s.unitsInside then s.finishRebuild x
    else s
  | _, _ => s

/-- A spare read of a page has completed: the page is judged, and the scan goes on (R174). -/
def State.scanPage (s : State) (b : BankId) (n page : Nat) (r : Option (SectorResult × List Byte)) : State :=
  match s.rebuild with
  | none => s
  | some x =>
    let first := (x.scans.find? fun y => y.unit == n).bind ScanRec.tag
    match judge first r with
    | .ends c => ({ s with rebuild := some (x.modScan n fun y => { y with cause := some c }) } : State).scanEnded b n
    | .counted t p =>
      let x : Rebuild := { x with maxTake := runMax x.maxTake t.take, maxSeq := runMax x.maxSeq t.seq }
      let isFull := page + 1 = Config.unitPages
      let x := x.modScan n fun y =>
        { y with
          tag := y.tag <|> some t
          pages := y.pages ++ [p]
          cause := if isFull then some .full else none }
      let s : State := { s with rebuild := some x }
      if isFull then s.scanEnded b n else s.requestOp 6 (.spareRead n (page + 1))

end Sys2Proof.Machine
end

