-- ==== Sys2Proof/Machine/FlashEvents.lean ====
section
/-! DEFINITION. The completions and timeouts of flash operations and chip resets (R101, R117, R127, R142 to R153, R162 to R164, R167 to
R170, R174). -/

namespace Sys2Proof.Machine

/-! ### Capture page programs (R127, R133, R142, R151) -/

/-- A capture page has been programmed and confirmed: its buffer becomes free, or CACHED while readers hold it (R127). -/
def State.confirmBuffer (s : State) (buf : BufId) : State :=
  if (s.buffer buf).pins = 0 then s.freeBuffer buf
  else s.modBuffer buf fun x => { x with state := .cached, owner := .none_ }

/-- Whether a unit is still in a take's chain (R137, R142). -/
def State.unitInChain (s : State) (n : Nat) : Bool := (s.unit n).any UnitEntry.inChain

/-- The page of a failed capture program waits in its buffer again, its operation back in the pending list. This comes before the
rescue is entered, so that a renumbering in the same event counts the operation among the pending ones (R127, R151, R157). -/
def State.waitAgain (s : State) (op : FlashOp) (buf : BufId) : State :=
  let s := s.modBuffer buf fun x => { x with state := .programWait, owner := .programQueue }
  { s with flashOps := reinsertOp op s.flashOps }

/-- A capture page program completes (R127, R133, R142, R151, R170). -/
def State.captureDone (s : State) (op : FlashOp) (buf : BufId) (unit page : Nat) (result : OpResult) : State :=
  match result with
  | .pass =>
    let s := s.storePage unit page (s.readBuf buf 0 Config.pageBytes)
    if s.unitInChain unit then (s.advanceUnit unit).confirmBuffer buf else s.freeBuffer buf
  | .fail =>
    let s := (s.spoilPage unit page).countProgramFailure
    match (s.unit unit).filter UnitEntry.inChain with
    | some u => (s.waitAgain op buf).enterRescue ⟨u.owner.getD 0, u.chain.getD 0, unit, u.nextPage⟩
    | none => s.freeBuffer buf

/-! ### Copy programs (R149, R150, R153) -/

/-- The number of pages the engine's work copies: the source's next page in a refresh, the failed page in a rescue (R148,
R153). -/
def State.copyPages (s : State) (isRescue : Bool) (w : Work) : Nat :=
  if isRescue then ((s.rescues.find? fun e => e.unit == w.source).map Rescue.page).getD 0
  else ((s.unit w.source).map UnitEntry.nextPage).getD 0

/-- A copy page has been programmed into the destination: the next page is read, or the work ends (R149, R150, R153). -/
def State.copyAdvance (s : State) (isRescue : Bool) (w : Work) (d : Nat) (buf : BufId) : State :=
  let s := s.modUnit d fun x => { x with nextPage := x.nextPage + 1 }
  if w.page + 1 < s.copyPages isRescue w then s.requestCopyRead isRescue { w with page := w.page + 1 } buf
  else if isRescue then s.endRescue State.engineNext w d
  else s.endRefresh w d

/-- A copy page has failed to program: the destination is retired, and the work starts again with another (R149, R153). -/
def State.copyFailed (s : State) (isRescue : Bool) (w : Work) (d : Nat) : State :=
  let s := s.retireUnit d .program
  if isRescue then s.rescueAsks State.engineNext { w with dest := none } else s.restartRefresh w

/-- A copy program completes; work stopped or set aside ends here, and its destination keeps its next page though the page was programmed
(R147, R154; DEDUCED, log entry 20). -/
def State.copyDone (s : State) (buf : BufId) (unit page : Nat) (result : OpResult) : State :=
  let s := match result with
    | .pass => s.storePage unit page (s.readBuf buf 0 Config.pageBytes)
    | .fail => (s.spoilPage unit page).countProgramFailure
  match s.engine.work with
  | none => s
  | some (isRescue, w) =>
    let w := { w with flight := .none_ }
    if w.stopping then s.stopWork w
    else if w.aside then s.setAside w
    else
      match result with
      | .pass => s.copyAdvance isRescue w unit buf
      | .fail => s.copyFailed isRescue w unit

/-- A page program completes. -/
def State.programDone (s : State) (op : FlashOp) (unit page : Nat) (result : OpResult) : State :=
  match op.kind with
  | .captureProgram buf _ _ => s.captureDone op buf unit page result
  | .copyProgram _ _ buf => s.copyDone buf unit page result
  | _ => s

/-! ### Page reads (R143, R144, R149, R167, R168) -/

/-- The blocks of a take that lost a sector in a page, each once, below the take's length (R143). -/
def lostBlocksOf (t : Take) (tp : Nat) (d : DecodeRecord) : List Nat :=
  let lost := (List.range 4).filter fun j => d.sector j == .uncorrectable
  (lost.map fun j => tp * t.channels.bpp + j / t.channels.count).eraseDups.filter fun b => decide (b < t.length)

/-- Reports the damage of a page to the directory; gives the number of blocks reported (R143, R149). -/
def State.reportPage (s : State) (take tp : Nat) (d : DecodeRecord) : State × Nat :=
  match s.findTake take with
  | none => (s, 0)
  | some t =>
    let bs := lostBlocksOf t tp d
    (bs.foldl (fun q b => q.reportDamage take b) s, bs.length)

/-- Lowers a unit's in-flight reads, and requests its erase where it waits for them in RECLAIM (R143). -/
def State.readLeaves (s : State) (n : Nat) : State :=
  (s.modUnit n fun x => { x with inFlight := x.inFlight - 1 }).drainReclaim

/-- Zeroes the lost sectors of a copied page (R149). -/
def State.zeroLost (s : State) (buf : BufId) (d : DecodeRecord) : State :=
  ((List.range 4).filter fun j => d.sector j == .uncorrectable).foldl
    (fun q j => q.writeBuf buf (j * Config.sectorBytes) (zeroes Config.sectorBytes)) s
where
  zeroes (n : Nat) : List Byte := List.replicate n 0

/-- The tag of a copied page written afresh from the take record (R149). -/
def freshTag (t : Take) (chain tp : Nat) : Tag :=
  ⟨t.id, t.room, t.cls, t.channels, chain, min t.channels.bpp (t.length - tp * t.channels.bpp), 0⟩

/-- Rewrites the tag and mark slots of a copied page where code word 3 was lost, and gives the tag the destination's write
sequence (R149). -/
def State.rewriteTag (s : State) (buf : BufId) (t : Take) (w : Work) (tp dest : Nat) (d : DecodeRecord) : State :=
  let s :=
    if d.s3 = .uncorrectable then
      s.writeBuf buf 2048 ((freshTag t w.chain tp).bytes ++ if tp = 0 then stampSlots t.stamp else markSlots [])
    else s
  s.writeSeqTag buf dest

/-- A copied page read is programmed into the destination (R149). -/
def State.copyReadOn (s : State) (isRescue : Bool) (w : Work) (dest : Nat) (buf : BufId) (d : DecodeRecord) : State :=
  let tp := w.chain * Config.unitPages + w.page
  let r := (s.zeroLost buf d).reportPage w.take tp d
  let s := match r.1.findTake w.take with
    | some t => r.1.rewriteTag buf t w tp dest d
    | none => r.1
  ({ s with engine := .of isRescue { w with flight := .program, damaged := w.damaged + r.2 } } : State).requestOp
    (engineClass isRescue) (.copyProgram dest w.page buf)

/-- The engine's page read completes; work stopped or set aside ends here, the data discarded (R147, R154). -/
def State.copyReadDone (s : State) (buf : BufId) (d : DecodeRecord) : State :=
  match s.engine.work with
  | none => s
  | some (isRescue, w) =>
    let w := { w with flight := .none_ }
    if w.stopping then s.stopWork w
    else if w.aside then s.setAside w
    else
      match w.dest with
      | some dest => s.copyReadOn isRescue w dest buf d
      | none => s

/-- What the Storage Unit Table does at a reader's page read: damage reports and the refresh trigger (R143, R144). -/
def State.tableRead (s : State) (unit : Nat) (buf : BufId) (d : DecodeRecord) : State :=
  let p := (s.buffer buf).page.getD (0, 0)
  let s := (s.reportPage p.1 p.2 d).1
  if d.weak s.threshold then s.wantRefresh unit else s

/-- A page read completes with bytes in its buffer and a decode record: the table, then the requester (R162). -/
def State.pageReadDone (s : State) (unit : Nat) (buf : BufId) (for_ : ReadFor) (bytes : List Byte) (d : DecodeRecord) :
    State :=
  let s := (s.writeBuf buf 0 bytes).modBuffer buf fun x => { x with decode := some d }
  let s := s.readLeaves unit
  match for_ with
  | .reader (.station k) => (s.tableRead unit buf d).stationReadDone k buf
  | .reader (.readback r) => (s.tableRead unit buf d).readbackReadDone r buf
  | .engine => s.copyReadDone buf d

/-- The counters of a page read: an erased page, or the results of its code words (R167, R168). -/
def State.countPage (s : State) (d : Option DecodeRecord) : State :=
  match d with
  | some d => s.countWords d.results
  | none => s.countErased

/-! ### Erases (R146) -/

/-- The unit's contents after an erase (R156, R164, R170; log entry 10). -/
def State.erased (s : State) (unit : Nat) (result : OpResult) : State :=
  match result with
  | .pass => s.eraseUnit unit
  | .fail => (s.spoilUnit unit).countEraseFailure

/-- A unit erase completes (R146). -/
def State.eraseDone (s : State) (n : Nat) (result : OpResult) : State :=
  let s := s.erased n result
  match s.unit n with
  | none => s
  | some u =>
    if u.state = .retired then s
    else
      let s' := match result with
        | .pass =>
          let s := s.modUnit n fun x => { newUnit x.number with state := .free }
          ({ s with freeList := s.freeList ++ [n] } : State).offerUnit
        | .fail => s.retireUnit n .erase
      match u.owner with
      | some t => if u.chain = some 0 then s'.freeTake t else s'
      | none => s'

/-! ### The commands -/

/-- The operation in progress in a bank, with its unit and page. -/
def State.inProgress (s : State) (b : BankId) : Option (FlashOp × Nat × Nat) :=
  match s.bank b with
  | .busy op u p _ => some (op, u, p)
  | _ => none

/-- Whether an operation is a page program. -/
def OpKind.isProgram : OpKind → Bool
  | .captureProgram .. => true
  | .copyProgram .. => true
  | _ => false

/-- PROGRAM_COMPLETE. With no page program in progress in the bank nothing happens (log entry 2). -/
def execProgramComplete (b : BankId) (result : OpResult) (s : State) : Host.Outcome State Fault Refusal :=
  match s.inProgress b with
  | some (op, u, p) =>
    if op.kind.isProgram then .next (State.settle s ((s.setBank b .idle).programDone op u p result)) else .next s
  | none => .next s

/-- PAGE_READ_COMPLETE: the page's code words are decoded and counted, and the completion handed on (R162, R167, R168). -/
def execPageReadComplete (b : BankId) (page : PageRead) (s : State) : Host.Outcome State Fault Refusal :=
  match s.inProgress b with
  | some (⟨_, _, .pageRead _ _ buf for_⟩, u, p) =>
    let r := readPage (s.flashPage u p) page
    let s' := (s.setBank b .idle).countPage r.2
    .next (State.settle s (s'.pageReadDone u buf for_ r.1 (r.2.getD .allLost)))
  | _ => .next s

/-- SPARE_READ_COMPLETE (R162, R168, R174). -/
def execSpareReadComplete (b : BankId) (page : SpareRead) (s : State) : Host.Outcome State Fault Refusal :=
  match s.inProgress b with
  | some (⟨_, _, .spareRead _ _⟩, u, p) =>
    let r := readSpare (s.flashPage u p) page
    let s' := (s.setBank b .idle).countWords (r.toList.map Prod.fst)
    .next (State.settle s (s'.scanPage b u p r))
  | _ => .next s

/-- ERASE_COMPLETE (R146, R162). -/
def execEraseComplete (b : BankId) (result : OpResult) (s : State) : Host.Outcome State Fault Refusal :=
  match s.inProgress b with
  | some (⟨_, _, .erase _⟩, u, _) => .next (State.settle s ((s.setBank b .idle).eraseDone u result))
  | _ => .next s

/-- OPERATION_TIMEOUT: the operation completes as failed or lost, and its bank stays BUSY with a chip reset (R163; log
entries 10 and 31). -/
def execOperationTimeout (b : BankId) (s : State) : Host.Outcome State Fault Refusal :=
  match s.inProgress b with
  | some (op, u, p) =>
    let t := (s.setBank b .resetting).countTimeout
    let s' := match op.kind with
      | .captureProgram .. => t.programDone op u p .fail
      | .copyProgram .. => t.programDone op u p .fail
      | .pageRead _ _ buf for_ => t.useFree.pageReadDone u buf for_ (t.openBytes Config.pageBytes) .allLost
      | .spareRead .. => t.scanPage b u p (some (.uncorrectable, []))
      | .erase _ => t.eraseDone u .fail
    .next (State.settle s s')
  | none => .next s

/-- CHIP_RESET_READY: a bank that was resetting its chip becomes IDLE, and the sequencer issues (R163, R164). -/
def execChipResetReady (b : BankId) (s : State) : Host.Outcome State Fault Refusal :=
  if s.bank b = .resetting then .next (State.settle s (s.setBank b .idle)) else .next s

end Sys2Proof.Machine
end

