-- ==== Sys2Proof/Machine/Capture.lean ====
section
/-! DEFINITION. Room capture: take starts, blocks, paced timing, marks, page hand-off and take stops (chapter 2). -/

namespace Sys2Proof.Machine

/-! ### Page hand-off and stored blocks (R35, R38) -/

/-- Hands a page off: its spare contents are completed, its buffer goes to the program queue and its program is requested
in class 2 (R38, R127, R158). -/
def State.handOff (s : State) (r : RoomId) (t : Take) (b : BufId) (tp valid : Nat) : State :=
  let list := (s.room r).carry
  let tag : Tag := ⟨t.id, t.room, t.cls, t.channels, chainIndex tp, valid, 0⟩
  let slots := if tp = 0 then stampSlots t.stamp else markSlots list
  let s := s.writeBuf b 2048 (tag.bytes ++ slots)
  let s := s.modRoom r fun x => { x with carry := if tp = 0 then list else list.drop 2, filling := none, slot := 0 }
  let s := s.modBuffer b fun x => { x with state := .programWait, owner := .programQueue }
  s.requestOp 2 (.captureProgram b t.id tp)

/-- The end of a stored block: the length increment and the length-triggered cut, the slot's advance with the page's
hand-off and the next FILLING buffer, and the block boundary (steps 5 to 7 of R35). -/
def State.endStoredBlock (s : State) (r : RoomId) (take : Nat) (b : BufId) : State :=
  match s.findTake take with
  | none => s
  | some before =>
    let s := s.modTake take fun t => { t with length := t.length + 1 }
    let s := s.lengthCut r take
    let slot := (s.room r).slot + 1
    let s :=
      if slot = before.channels.bpp then
        match s.findTake take with
        | none => s
        | some t => (s.handOff r t b (takePage t.channels before.length) t.channels.bpp).obtainFilling r
      else s.modRoom r fun x => { x with slot := slot }
    s.blockBoundary r

/-- Whether the block about to be stored opens a take page that opens a chain index (R33). -/
def opensChain (t : Take) (slot : Nat) : Bool := slot == 0 && pageInUnit (takePage t.channels t.length) == 0

/-- Step 3 of R35: where the block opens a chain index that holds no unit, one is asked for; true where the block may be
stored. -/
def State.unitForBlock (s : State) (r : RoomId) (t : Take) : Bool × State :=
  if opensChain t (s.room r).slot then s.ensureUnit t.id (takePage t.channels t.length) else (true, s)

/-- The block that found no unit: it is the first dropped block, the room enters DROPPING for NO_UNIT and joins the
unit-wait list, and a block boundary is reached (R46, R47). -/
def State.dropForUnit (s : State) (r : RoomId) (t : Take) : State :=
  let s := s.enterDropping r .noUnit 1
  let e : UnitWait := ⟨r, t.id, chainIndex (takePage t.channels t.length)⟩
  ({ s with unitWait := s.unitWait ++ [e] } : State).blockBoundary r

/-- Counts a block of a DROPPING room as dropped, a block boundary (R47). The count stops at its largest value (log entry 44). -/
def State.dropBlock (s : State) (r : RoomId) : State :=
  (s.modRoom r fun x => { x with dropped := satAdd Config.max32 x.dropped 1 }).blockBoundary r

def DropCause.code : DropCause → Nat
  | .noBuffer => 0
  | .noUnit => 1

/-- The WAIT_STORE answer of BLOCK: the DROPPING cause and dropped count (R47, R198). -/
def State.answerDropped (s : State) (r : RoomId) : State :=
  let x := s.room r
  s.answer (.room r) .waitStore {} (toLE 1 ((x.dropping.map DropCause.code).getD 0) ++ toLE 4 x.dropped)

/-- The channels of a block from its bytes, scaled with the room's capture factors: little-endian bytes and the count of
saturated samples (steps 1 and 4 of R35, R36). -/
def captureBytes (a : RoomSettings) : Nat → Nat → List Byte → List Byte × Nat
  | 0, _, _ => ([], 0)
  | n + 1, j, bs =>
    let out := scaleAll (a.capture[j]?.getD 256) ((samplesOf a.order (bs.take 512)).map BitVec.toInt)
    let rest := captureBytes a n (j + 1) (bs.drop 512)
    (sampleBytes .little out.1 ++ rest.1, out.2 + rest.2)

/-- A capture block saturated `n` samples: the clip flag is set, and CLIP raised where it was clear and the clip alert is
enabled (R37). -/
def State.noteClip (s : State) (r : RoomId) (take block n : Nat) : State :=
  if n = 0 then s
  else
    let x := s.room r
    let s := s.setRoom r { x with clip := true }
    if !x.clip && x.active.clipAlert then s.raise (.clip r take block) else s

/-! ### Stopping a take (R50, R51) -/

/-- Gives up the marks still in the carry list at a stop: counted, MARK_LOST raised once, and the list emptied (R51). -/
def State.giveUpCarry (s : State) (r : RoomId) (take : Nat) : State :=
  let n := (s.room r).carry.length
  if n = 0 then s else (s.modRoom r fun x => { x with carry := [] }).loseMarks r take n

/-- `n` zero bytes. -/
def zeroBytes (n : Nat) : List Byte := List.replicate n 0

/-- Fills a buffer with zero samples and hands it off as a tail page (R51). -/
def State.tailPage (s : State) (r : RoomId) (t : Take) (b : BufId) (tp : Nat) : State :=
  (s.writeBuf b 0 (zeroBytes Config.pageDataBytes)).handOff r t b tp 0

/-- Forms tail pages while the carry list holds marks, `n` at most; gives the first take page not handed off (R51). A unit is
taken only where a buffer is FREE for the page, so that a take without a written page holds none (R33, R142; log entry 18). -/
def State.tailPages : Nat → State → RoomId → Take → Nat → State × Nat
  | 0, s, r, t, tp => (s.giveUpCarry r t.id, tp)
  | n + 1, s, r, t, tp =>
    if (s.room r).carry = [] then (s, tp)
    else
      match s.firstFree with
      | none => (s.giveUpCarry r t.id, tp)
      | some b =>
        match s.ensureUnit t.id tp with
        | (false, s) => (s.giveUpCarry r t.id, tp)
        | (true, s) => State.tailPages n ((s.setBuffer b (fillingBuffer r t.id tp)).tailPage r t b tp) r t (tp + 1)

/-- Most tail pages a stop can form: one with the stamp, and four for eight marks (R51). -/
def mostTailPages : Nat := 6

/-- Empties the room's FILLING buffer and carry list after the directory has stopped the take; gives the first take page
not handed off (R51). A buffer for which no unit is had goes back before the marks are given up (log entry 18). -/
def State.flushPages (s : State) (r : RoomId) (t : Take) : State × Nat :=
  let tp := takePage t.channels t.length
  let x := s.room r
  match x.filling with
  | none => s.tailPages mostTailPages r t tp
  | some b =>
    if 0 < x.slot then
      let from_ := x.slot * t.channels.count * Config.sectorBytes
      let s := s.writeBuf b from_ (zeroBytes (Config.pageDataBytes - from_))
      (s.handOff r t b tp x.slot).tailPages mostTailPages r t (tp + 1)
    else
      let freed := fun (s : State) => (s.modRoom r fun y => { y with filling := none }).freeBuffer b
      if x.carry = [] then (freed s, tp)
      else
        match s.ensureUnit t.id tp with
        | (true, s) => (s.tailPage r t b tp).tailPages mostTailPages r t (tp + 1)
        | (false, s) => ((freed s).giveUpCarry r t.id, tp)

/-- Step 3 of R50: the room leaves the waiting lists and DROPPING, its dropped blocks reported as a LOST gap. -/
def State.leaveForStop (s : State) (r : RoomId) : State :=
  let s := { s with dropWait := s.dropWait.filter fun q => q != r, unitWait := s.unitWait.filter fun e => e.room != r }
  (s.leaveDropping r).modRoom r fun x => { x with rescueWaiting := false }

/-- Stops the room's take; the room enters IDLE, where with the hold clear its staged settings are applied, or LINK_DOWN
(R50, R52). The unit table is told the last take page while the room is
still RECORDING (R142; DEDUCED, log entry 70). -/
def State.stopRoom (s : State) (r : RoomId) (after : RoomState) : State :=
  match (s.room r).take with
  | none => s
  | some take =>
    let s := s.modRoom r fun x => { x with cadence := false, call := none }
    let s := (s.reportFilledRun r).leaveForStop r
    let s := s.stopTake take
    let s := match s.findTake take with
      | none => s
      | some t =>
        let f := s.flushPages r t
        if f.2 = 0 then f.1 else f.1.setFinalPage take (f.2 - 1)
    let s := s.modRoom r fun x => { x with state := after, take := none, filling := none, slot := 0 }
    if after = .idle then s.blockBoundary r else s

/-- Stops the take where its length has reached its limit (R35, R42, R50). -/
def State.limitStop (s : State) (r : RoomId) (take : Nat) : State :=
  match s.findTake take with
  | some t => if t.length = Config.greatestLength then s.stopRoom r .idle else s
  | none => s

/-! ### TAKE_START (R3, R4, R32) -/

/-- The first candidate id that no record holds (R3). -/
def nextTakeId (takes : List Take) : Nat → Nat → Nat
  | 0, cand => cand
  | n + 1, cand => if takes.any fun t => t.id == cand then nextTakeId takes n (cand % Config.max16 + 1) else cand

/-- The id a new take receives (R3). -/
def State.newTakeId (s : State) : Nat := nextTakeId s.takes (Config.takeRecords + 1) (s.lastId % Config.max16 + 1)

/-- A take record at TAKE_START, with its segment 0 (R4). -/
def newTake (id : Nat) (r : RoomId) (a : RoomSettings) (x : TakeStartArgs) : Take where
  id := id
  room := r
  state := .recording
  cls := x.cls.getD a.cls
  channels := a.channels
  overlap := csToBlocks a.overlap
  stamp := x.stamp
  length := 0
  lostBlocks := 0
  hold := false
  cutDeferred := false
  damage := []
  damageOverflow := 0
  segments := [newSegment 0 0]
  marks := []

/-- Creates a take record and hands its segment 0 over where the class is RUSH (R4, R8). -/
def State.createTake (s : State) (t : Take) : State :=
  let s := { s with takes := insertTake t s.takes, lastId := t.id }
  if t.cls = .rush then s.handOver ⟨t.id, 0⟩ else s

/-- Sends the next BLOCK_CALL of a paced room (R39, R198). -/
def State.sendCall (s : State) (r : RoomId) : State :=
  let x := s.room r
  let length := ((x.take.bind s.findTake).map Take.length).getD 0
  (s.setRoom r { x with call := some ⟨x.callCounter, true⟩, callCounter := (x.callCounter + 1) % Config.wrap32 }).notify
    (.room r) 0x1F (toLE 4 x.callCounter ++ toLE 4 length)

/-- The room enters RECORDING with a new take (R32). -/
def State.beginRecording (s : State) (r : RoomId) (take : Nat) : State :=
  s.modRoom r fun x =>
    { x with
      state := .recording
      take := some take
      dropping := none
      dropped := 0
      rescueWaiting := false
      filling := none
      slot := 0
      filledRun := none
      call := none
      carry := [] }

/-- TAKE_START at the Capture Engine (R32, R4). -/
def serveTakeStart (r : RoomId) (x : TakeStartArgs) (s : State) : State :=
  if (s.room r).state = .recording then s.answer (.room r) .refused
  else if Config.takeRecords ≤ s.takes.length then (s.raise (.takesFull (some r) none)).answer (.room r) .full
  else if s.freeSegments = 0 then (s.raise (.segmentsFull (some r) none none none)).answer (.room r) .full
  else
    let a := (s.room r).active
    let t := newTake s.newTakeId r a x
    let s' := ((s.createTake t).beginRecording r t.id).obtainFilling r
    let s' := s'.answerFields (.room r) .ok {}
      (fNum 1 2 t.id :: fOpt 2 1 ((s'.room r).dropping.map DropCause.code))
    let s' := match a.timing with
      | .paced => (s'.modRoom r fun y => { y with callCounter := 0, cadence := true }).sendCall r
      | .pushed => s'
    State.settle s s'

/-- TAKE_START. -/
def execTakeStart (r : RoomId) (tag : Byte) (body : List Byte) (s : State) : Host.Outcome State Fault Refusal :=
  .next (s.request (.room r) 0x10 tag .readyOnly (parseTakeStart body) (serveTakeStart r))

/-! ### BLOCK (R34, R35, R40) -/

/-- Stores a block of a room that is not DROPPING (R35). -/
def State.storeBlock (s : State) (r : RoomId) (t : Take) (b : BufId) (bytes : List Byte) : State :=
  match (s.reportFilledRun r).unitForBlock r t with
  | (false, s) => (s.dropForUnit r t).answerDropped r
  | (true, s) =>
    let x := s.room r
    let out := captureBytes x.active t.channels.count 0 bytes
    let s := s.writeBuf b (x.slot * t.channels.count * Config.sectorBytes) out.1
    let s := (s.noteClip r t.id t.length out.2).endStoredBlock r t.id b
    (s.answer (.room r) .ok {} (toLE 4 t.length ++ toLE 2 out.2)).limitStop r t.id

/-- A block for a recording room: stored, or counted as dropped (R34, R40). -/
def State.takeBlock (s : State) (r : RoomId) (bytes : List Byte) : State :=
  let x := s.room r
  match x.dropping, x.take.bind s.findTake, x.filling with
  | none, some t, some b => s.storeBlock r t b bytes
  | _, _, _ => (s.dropBlock r).answerDropped r

/-- BLOCK at the Capture Engine (R34, R40). -/
def serveBlock (r : RoomId) (body : List Byte) (s : State) : State :=
  let x := s.room r
  match parseBlock x.active.channels body with
  | none => s.answer (.room r) .badArg
  | some (number, bytes) =>
    if x.state ≠ .recording then
      (s.setRoom r { x with discardedBlocks := satAdd Config.max16 x.discardedBlocks 1 }).answer (.room r) .refused
    else
      match x.active.timing with
      | .pushed => State.settle s (s.takeBlock r bytes)
      | .paced =>
        if x.call = some ⟨number, true⟩ then
          State.settle s ((s.setRoom r { x with call := some ⟨number, false⟩ }).takeBlock r bytes)
        else (s.setRoom r { x with lateBlocks := satAdd Config.max16 x.lateBlocks 1 }).answer (.room r) .late

/-- BLOCK. Its body has a fixed layout, checked by R34 after admission (R194). -/
def execBlock (r : RoomId) (tag : Byte) (body : List Byte) (s : State) : Host.Outcome State Fault Refusal :=
  .next (s.request (.room r) 0x11 tag .readyOnly (some body) (serveBlock r))

/-! ### CADENCE_EXPIRY (R41, R42) -/

/-- The filled run with one more silence block of an index (R42). -/
def extendRun (run : Option FilledRun) (index : Nat) : FilledRun :=
  match run with
  | none => ⟨index, 1⟩
  | some x => { x with count := x.count + 1 }

/-- Stores a silence block in place of an unanswered call (R42). -/
def State.storeSilence (s : State) (r : RoomId) (t : Take) (b : BufId) : State :=
  match s.unitForBlock r t with
  | (false, s) => s.dropForUnit r t
  | (true, s) =>
    let x := s.room r
    let s := s.writeBuf b (x.slot * t.channels.count * Config.sectorBytes)
      (zeroBytes (t.channels.count * Config.sectorBytes))
    let s := s.setRoom r { x with filledRun := some (extendRun x.filledRun t.length) }
    (s.endStoredBlock r t.id b).limitStop r t.id

/-- The end of a call's period: an unanswered call is filled with silence, or counted as dropped (R41). -/
def State.endPeriod (s : State) (r : RoomId) : State :=
  let x := s.room r
  if x.call.any Call.isOpen then
    match x.dropping, x.take.bind s.findTake, x.filling with
    | none, some t, some b => s.storeSilence r t b
    | _, _, _ => s.dropBlock r
  else s

/-- CADENCE_EXPIRY: the current call's period ends, and where the room is still RECORDING a new call is sent (R39, R41).
A timer that does not run does not expire (log entry 2). -/
def execCadenceExpiry (r : RoomId) (s : State) : Host.Outcome State Fault Refusal :=
  if (s.room r).cadence ∧ (s.room r).state = .recording then
    let s' := s.endPeriod r
    let s' := if (s'.room r).state = .recording then s'.sendCall r else s'
    .next (State.settle s s')
  else .next s

/-! ### MARK (R17, R44) -/

/-- The block a back-dated mark takes at a length (R17). -/
def markBlock (length : Nat) (back : Option Nat) : Nat := length - csToBlocks (back.getD 0)

/-- MARK at the Capture Engine and the directory (R44, R17, R9). -/
def serveMark (r : RoomId) (a : MarkArgs) (s : State) : State :=
  let x := s.room r
  if x.state ≠ .recording then s.answer (.room r) .refused
  else if a.kind = .gap ∨ a.kind = .cut then s.answer (.room r) .badArg
  else
    match x.take.bind s.findTake with
    | none => s.answer (.room r) .refused
    | some t =>
      let back := a.back.map (min 1000)
      let clamped := a.back.any fun n => decide (1000 < n)
      if Config.carryRoomLimit ≤ x.carry.length then (s.loseMarks r t.id 1).answer (.room r) .full
      else if s.freeMarks ≤ Config.markReserve then (s.loseMarks r t.id 1).answer (.room r) .full
      else
        let b := markBlock t.length back
        let s' := (s.placeMark r t.id ⟨a.kind, b, a.code, none⟩).markCut r t.id a.kind b
        State.settle s (s'.answerFields (.room r) .ok { clamped := clamped }
          (fPos 1 b :: if clamped then fOpt 2 2 back else []))

/-- MARK. -/
def execMark (r : RoomId) (tag : Byte) (body : List Byte) (s : State) : Host.Outcome State Fault Refusal :=
  .next (s.request (.room r) 0x12 tag .readyOnly (parseMark body) (serveMark r))

/-! ### TAKE_STOP (R50) -/

/-- TAKE_STOP at the Capture Engine (R50). -/
def serveTakeStop (r : RoomId) (s : State) : State :=
  let x := s.room r
  match x.take.bind s.findTake with
  | some t =>
    if x.state = .recording then
      let s' := (s.stopRoom r .idle).answerFields (.room r) .ok {} [fNum 1 2 t.id, fNum 2 4 t.length]
      State.settle s s'
    else s.answer (.room r) .refused
  | none => s.answer (.room r) .refused

/-- TAKE_STOP. -/
def execTakeStop (r : RoomId) (tag : Byte) (body : List Byte) (s : State) : Host.Outcome State Fault Refusal :=
  .next (s.request (.room r) 0x13 tag .readyOnly (parseNone body) fun _ => serveTakeStop r)

/-! ### Loss of a room link (R52, R121) -/

/-- A room's read-back context at the loss of its link (R121). -/
def State.dropReadback (s : State) (r : RoomId) : State :=
  (s.endReadback r).modReadback r fun x => { x with cursor := 0, gone := false }

/-- A room context whose link is lost: its take is stopped, its read-back ends, and ROOM_LOST is raised (R52, R121), in that order (DESIGN
CHOICE, log entry 65). -/
def State.loseRoom (s : State) (r : RoomId) : State :=
  let x := s.room r
  let s' := if x.state = .recording then s.stopRoom r .linkDown
    else s.modRoom r fun y => { y with state := .linkDown }
  let stopped := if x.state = .recording then (x.take.bind s.findTake).map fun t => (t.id, t.length) else none
  (s'.dropReadback r).raise (.roomLost r stopped)

end Sys2Proof.Machine
end

