-- ==== Sys2Proof/Machine/Links.lean ====
section
/-! DEFINITION. Device reset, carriers coming and going, dropped frames, unknown request kinds and messages sent (R28, R52, R88, R109,
R121, R164, R193, R194, R195). -/

namespace Sys2Proof.Machine

/-! ### Device reset (R164, R172) -/

/-- What a reset leaves in flash where a bank was programming a page or erasing a unit (R164; log entry 10). -/
def State.interrupt (s : State) (b : BankId) : State :=
  match s.bank b with
  | .busy op u p _ =>
    match op.kind with
    | .captureProgram .. => s.spoilPage u p
    | .copyProgram .. => s.spoilPage u p
    | .erase _ => s.spoilUnit u
    | .pageRead .. => s
    | .spareRead .. => s
  | _ => s

/-- DEVICE_RESET: every piece of state takes its device reset value, but for the page buffers' bytes (R122), the flash
store (R164), and the model's own clock, count of free values and queue of commands. -/
def execDeviceReset (s : State) : Host.Outcome State Fault Refusal :=
  let t := allBanks.foldl State.interrupt s
  .next { State.reset with ram := s.ram, flash := t.flash, clock := s.clock, freeUses := t.freeUses, pending := s.pending }

/-! ### LINK_UP (R28, R88, R193) -/

/-- A link that has come UP: HUNT, nothing outstanding, nothing to send (R193). -/
def LinkRec.fresh : LinkRec := ⟨true, .hunt, none, []⟩

/-- A station context whose link comes UP: IDLE, its settings, last completed segment and pending read kept, every other
field as after device reset (R88). -/
def Station.online (x : Station) : Station :=
  { x with state := .idle, current := none, cursor := 0, stop := none, shadow := none, holding := none }

/-- What the owning block does as a link comes UP (R28, R88, R182). -/
def State.linkCame (s : State) : LinkId → State
  | .room r => s.modRoom r fun x => if x.state = .linkDown then { x with state := .idle } else x
  | .station k => s.modStation k Station.online
  | .supervisor => s

/-- LINK_UP. The carrier of a link that is UP does not return (log entry 2). -/
def execLinkUp (l : LinkId) (s : State) : Host.Outcome State Fault Refusal :=
  if (s.link l).up then .next s else .next ((s.setLink l .fresh).linkCame l)

/-! ### LINK_DOWN (R52, R109, R121, R182, R193) -/

/-- What the owning block does as a carrier is lost. -/
def State.linkLost (s : State) : LinkId → State
  | .room r => s.loseRoom r
  | .station k => s.loseStation k
  | .supervisor => s

/-- LINK_DOWN: the link's state becomes that after reset, and the owning block is told (R193). -/
def execLinkDown (l : LinkId) (s : State) : Host.Outcome State Fault Refusal :=
  if (s.link l).up then .next (State.settle s ((s.setLink l .reset).linkLost l)) else .next s

/-! ### Frames and messages (R194, R195) -/

/-- A dropped frame: no response, and the receiver in HUNT (R194). -/
def execDroppedFrame (l : LinkId) (_why : FrameFault) (s : State) : Host.Outcome State Fault Refusal :=
  .next (s.setLink l { s.link l with rx := .hunt })

/-- A request frame whose kind is none of its link class's: answered BAD_ARG at once (R194 step 1). -/
def execUnknownRequestKind (l : LinkId) (kind tag : Byte) (s : State) : Host.Outcome State Fault Refusal :=
  .next (s.reply l kind.toNat tag .badArg)

/-- The first message of a link's transmit queue has been sent (R193, R195). -/
def execMessageTransmitted (l : LinkId) (s : State) : Host.Outcome State Fault Refusal :=
  .next (s.setLink l { s.link l with txq := (s.link l).txq.tail })

end Sys2Proof.Machine
end

