-- ==== Sys2Proof/Machine/Queries.lean ====
section
/-! DEFINITION. READ_ALERTS and the supervisor queries (R53, R86, R134, R155, R171, R185 to R188, R191). A query reports; only
READ_ALERTS and QUERY_ROOM with clear change more than the link. -/

namespace Sys2Proof.Machine

/-! ### Codes of reported values (R196) -/

def RetireCause.code : RetireCause → Nat
  | .program => 0
  | .erase => 1

def FullTable.code : FullTable → Nat
  | .segment => 0
  | .mark => 1

def Readiness.code : Readiness → Nat
  | .notReady => 0
  | .rebuilding => 1
  | .ready => 2

def RoomState.code : RoomState → Nat
  | .linkDown => 0
  | .idle => 1
  | .recording => 2

/-- The work states in the order of R6, with none first. -/
def workCode : Option WorkState → Nat
  | none => 0
  | some .queued => 1
  | some .assigned => 2
  | some .typed => 3

/-- The fates of a station's pending read (R87). -/
def Fate.code : Fate → Nat
  | .none_ => 0
  | .preempted => 1
  | .recalled => 2
  | .gone => 3
  | .discard => 4

def BufState.code : BufState → Nat
  | .free => 0
  | .filling => 1
  | .programWait => 2
  | .programming => 3
  | .cached => 4
  | .readWait => 5
  | .held => 6
  | .copy => 7

def UnitState.code : UnitState → Nat
  | .free => 0
  | .opened => 1
  | .full => 2
  | .reclaim => 3
  | .erasing => 4
  | .retired => 5

def Role.code : Role → Nat
  | .chain => 0
  | .destination => 1

/-- The engine's operation in flight: none 0, read 1, program 2 (R147; DESIGN CHOICE, log entry 62). -/
def Flight.code : Flight → Nat
  | .none_ => 0
  | .read => 1
  | .program => 2

/-- The kind of an operation: page program, page read, spare read, unit erase (R156). -/
def OpKind.code : OpKind → Nat
  | .captureProgram .. => 0
  | .copyProgram .. => 0
  | .pageRead .. => 1
  | .spareRead .. => 2
  | .erase _ => 3

/-! ### READ_ALERTS (R191) -/

/-- The reference fields of an alert, numbered after its number and kind (R190). -/
def Alert.fields : Alert → List BodyField
  | .clip r t b => [fNum 3 1 r.val, fNum 4 2 t, fPosSv 5 b]
  | .gap r t g b n => [fNum 3 1 r.val, fNum 4 2 t, fNum 5 1 g.code, fPosSv 6 b, fNum 7 4 n]
  | .markLost t r n => fNum 3 2 t :: (fOpt 4 1 (r.map Fin.val) ++ [fNum 5 4 n])
  | .damage t b => [fNum 3 2 t, fPosSv 4 b]
  | .refreshDone t c s d n => [fNum 3 2 t, fNum 4 4 c, fNum 5 2 s, fNum 6 2 d, fNum 7 2 n]
  | .refreshAbandoned t c s => [fNum 3 2 t, fNum 4 4 c, fNum 5 2 s]
  | .unitRetired u b c => [fNum 3 2 u, fNum 4 1 b.val, fNum 5 1 c.code]
  | .rescueWait t c r => [fNum 3 2 t, fNum 4 4 c, fNum 5 1 r.val]
  | .storeLow n m => [fNum 3 2 n, fNum 4 2 m]
  | .segmentsFull r t i x => fOpt 3 1 (r.map Fin.val) ++ fOpt 4 2 t ++ fOpt 5 2 i ++ fOpt 6 1 (x.map FullTable.code)
  | .takesFull r n => fOpt 3 1 (r.map Fin.val) ++ fOpt 4 2 n
  | .stationLost k xs => fNum 3 1 k.val :: xs.map fun x => fEntry 4 (segmentItems x)
  | .roomLost r x => fNum 3 1 r.val :: (fOpt 4 2 (x.map Prod.fst) ++ fOpt 5 4 (x.map Prod.snd))
  | .rushReady t i n => [fNum 3 2 t, fNum 4 2 i, fNum 5 1 n]

/-- An alert record as a field sequence (R190). -/
def AlertRec.fields (a : AlertRec) : List BodyField := fNum 1 4 a.number :: fNum 2 1 a.alert.kind.code :: a.alert.fields

/-- READ_ALERTS at the Supervisor Command Unit (R191). -/
def serveReadAlerts (count : Nat) (s : State) : State :=
  if s.alerts = [] then
    ({ s with alertOverflow := 0 } : State).answerFields .supervisor .empty {} [fNum 3 2 s.alertOverflow]
  else
    let n := clampNat 1 8 count
    let s' : State := { s with alerts := s.alerts.drop n, alertOverflow := 0 }
    s'.answerFields .supervisor .ok { clamped := n != count }
      (((s.alerts.take n).map fun a => fEntry 1 a.fields) ++ [fNum 2 1 s'.alerts.length, fNum 3 2 s.alertOverflow] ++
        fFlag 4 s'.alertLine ++ if n = count then [] else [fNum 5 1 n])

/-- READ_ALERTS. -/
def execReadAlerts (tag : Byte) (body : List Byte) (s : State) : Host.Outcome State Fault Refusal :=
  .next (s.request .supervisor 0x50 tag .always (parseByte body) serveReadAlerts)

/-! ### QUERY_DEVICE (R185) -/

/-- The links in the order reported: rooms, stations, supervisor. -/
def allLinks : List LinkId := allRooms.map LinkId.room ++ allStations.map LinkId.station ++ [.supervisor]

/-- The number of units whose scan has ended (R173). -/
def State.scansEnded (s : State) : Nat :=
  match s.rebuild with
  | some x => (x.scans.filter fun y => y.cause.isSome).length
  | none => 0

/-- The takes in a state. -/
def State.takesIn (s : State) (x : TakeState) : Nat := (s.takes.filter fun t => t.state == x).length

/-- The results of QUERY_DEVICE (R185). -/
def State.deviceFields (s : State) : List BodyField :=
  [fNum 1 1 s.readiness.code] ++
    (if s.readiness = .rebuilding then [fNum 2 2 s.scansEnded, fNum 3 2 s.unitsInside] else []) ++
    [fNum 4 1 s.threshold, fNum 5 2 s.lowWater, fNum 6 2 s.alertMask.toNat, fSetClear 7 s.settingsHold,
      fNum 8 1 s.alerts.length, fNum 9 2 s.alertOverflow, fNum 10 4 s.nextAlert] ++
    fFlag 11 s.alertLine ++
    (allLinks.map fun l => fNum 12 1 (if (s.link l).up then 0 else 1)) ++
    [fNum 13 2 s.takes.length, fNum 14 2 (s.takesIn .recording), fNum 15 2 (s.takesIn .closed),
      fNum 16 2 (s.takesIn .complete), fNum 17 2 (s.takesIn .released),
      fNum 18 2 (Config.segmentRecords - s.freeSegments), fNum 19 2 s.freeMarks, fNum 20 2 s.lastId]

/-- QUERY_DEVICE. -/
def execQueryDevice (tag : Byte) (body : List Byte) (s : State) : Host.Outcome State Fault Refusal :=
  .next (s.request .supervisor 0x51 tag .always (parseNone body) fun _ s =>
    s.answerFields .supervisor .ok {} s.deviceFields)

/-! ### QUERY_TAKES and QUERY_TAKE (R186) -/

/-- The most entries a query gives. -/
def queryEntries : Nat := 32

/-- An entry of QUERY_TAKES. -/
def takeEntry (t : Take) : BodyField :=
  fEntry 1 [fNum 1 2 t.id, fNum 2 1 t.room.val, fNum 3 1 t.state.code, fNum 4 1 t.cls.code, fNum 5 4 t.length,
    fSetClear 6 t.hold, fNum 7 2 (t.segments.filter fun g => g.work != some .typed).length]

/-- QUERY_TAKES at the Supervisor Command Unit (R186). -/
def serveQueryTakes (a : Nat × Option Nat) (s : State) : State :=
  let hits := s.takes.filter fun t => a.2.all fun m => m.testBit t.state.code
  s.answerFields .supervisor .ok {} ((pageOf a.1 queryEntries hits).map takeEntry ++ [fNum 2 2 hits.length])

/-- QUERY_TAKES. -/
def execQueryTakes (tag : Byte) (body : List Byte) (s : State) : Host.Outcome State Fault Refusal :=
  .next (s.request .supervisor 0x52 tag .always (parseQueryTakes body) serveQueryTakes)

/-- The segments of a take in a work state, or in none. -/
def Take.countState (t : Take) (w : Option WorkState) : Nat := (t.segments.filter fun g => g.work == w).length

/-- The results of QUERY_TAKE (R186). -/
def State.takeFields (s : State) (t : Take) : List BodyField :=
  [fNum 1 2 t.id, fNum 2 1 t.room.val, fNum 3 1 t.state.code, fNum 4 1 t.cls.code, fNum 5 1 t.channels.count,
      fNum 6 2 t.overlap, ⟨7, t.stamp.bytes⟩, fNum 8 4 t.length, fNum 9 4 t.lostBlocks] ++
    (if t.state = .released then [] else [fSetClear 10 t.hold, fSetClear 11 t.cutDeferred]) ++
    (t.damage.map (fPosSv 12)) ++
    [fNum 13 2 t.damageOverflow, fNum 14 2 (t.countState none), fNum 15 2 (t.countState (some .queued)),
      fNum 16 2 (t.countState (some .assigned)), fNum 17 2 (t.countState (some .typed)), fNum 18 2 t.marks.length] ++
    (if t.state = .released then [] else [fNum 19 4 (s.chainLength t.id)])

/-- QUERY_TAKE at the Supervisor Command Unit (R186). -/
def serveQueryTake (id : Nat) (s : State) : State :=
  match s.findTake id with
  | none => s.answer .supervisor .unknownId
  | some t => s.answerFields .supervisor .ok {} (s.takeFields t)

/-- QUERY_TAKE. -/
def execQueryTake (tag : Byte) (body : List Byte) (s : State) : Host.Outcome State Fault Refusal :=
  .next (s.request .supervisor 0x53 tag .always (parseQueryTake body) serveQueryTake)

/-! ### QUERY_SEGMENTS and QUERY_MARKS (R187) -/

/-- A skip count held to its range, and the field that reports it where it was clamped. -/
def usedSkip (id w top n : Nat) : List BodyField := if top < n then [fNum id w top] else []

/-- An entry of QUERY_SEGMENTS. -/
def segmentEntry (t : Take) (g : Segment) : BodyField :=
  fEntry 1 ([fNum 1 2 g.index, fPosSv 2 g.first] ++ fPosSvOpt 3 g.last ++ fFlag 4 (segmentOpen t g) ++
    [fNum 5 1 (workCode g.work), fNum 6 1 t.cls.code] ++
    (if g.work = some .queued then [fNum 7 1 g.band, fNum 8 4 g.sequence] else []) ++ fPosSvOpt 9 g.resume ++
    (g.holder.toList.map fun h => fEntry 10 [fNum 1 1 h.1.val, fNum 2 1 h.2.code]) ++ [fNum 11 2 g.returns])

/-- QUERY_SEGMENTS at the Supervisor Command Unit (R187). -/
def serveQuerySegments (a : Nat × Nat) (s : State) : State :=
  match s.findTake a.1 with
  | none => s.answer .supervisor .unknownId
  | some t =>
    s.answerFields .supervisor .ok { clamped := decide (1023 < a.2) }
      ((pageOf (min a.2 1023) queryEntries t.segments).map (segmentEntry t) ++ [fNum 2 2 t.segments.length] ++
        usedSkip 3 2 1023 a.2)

/-- QUERY_SEGMENTS. -/
def execQuerySegments (tag : Byte) (body : List Byte) (s : State) : Host.Outcome State Fault Refusal :=
  .next (s.request .supervisor 0x54 tag .always (parseQuerySegments body) serveQuerySegments)

/-- An entry of QUERY_MARKS. -/
def markEntry (m : Mark) : BodyField :=
  fEntry 1 ([fNum 1 1 m.kind.code, fPosSv 2 m.block, fNum 3 2 m.code] ++ fOpt 4 1 (m.gap.map GapType.code))

/-- QUERY_MARKS at the Supervisor Command Unit (R187). -/
def serveQueryMarks (a : QueryMarksArgs) (s : State) : State :=
  match s.findTake a.take with
  | none => s.answer .supervisor .unknownId
  | some t =>
    let hits := t.marks.filter fun m => a.kind.all fun k => m.kind == k
    s.answerFields .supervisor .ok { clamped := decide (4095 < a.skip) }
      ((pageOf (min a.skip 4095) queryEntries hits).map markEntry ++ [fNum 2 2 hits.length] ++ usedSkip 3 2 4095 a.skip)

/-- QUERY_MARKS. -/
def execQueryMarks (tag : Byte) (body : List Byte) (s : State) : Host.Outcome State Fault Refusal :=
  .next (s.request .supervisor 0x55 tag .always (parseQueryMarks body) serveQueryMarks)

/-! ### QUERY_STATION and QUERY_READBACK (R188) -/

/-- The items of a holding, left out where absent: pin 0 or owned buffer 1, the buffer, the take and the take page (R188; DESIGN CHOICE,
log entry 68). -/
def holdingField (id : Nat) (h : Option Holding) : List BodyField :=
  h.toList.map fun h => fEntry id [fNum 1 1 (if h.owned then 1 else 0), fNum 2 1 h.buf.val, fNum 3 2 h.take, fNum 4 4 h.page]

/-- QUERY_STATION at the Supervisor Command Unit (R188). -/
def serveQueryStation (n : Nat) (s : State) : State :=
  if h : n < 8 then
    let k : StationId := ⟨n, h⟩
    s.answerFields .supervisor .ok {} (s.stationFields fPosSv k ++ holdingField 18 (s.station k).holding ++
      fOpt 19 1 ((s.station k).pendingRead.map Fate.code))
  else s.answer .supervisor .badArg

/-- QUERY_STATION. -/
def execQueryStation (tag : Byte) (body : List Byte) (s : State) : Host.Outcome State Fault Refusal :=
  .next (s.request .supervisor 0x56 tag .always (parseByte body) serveQueryStation)

/-- The results of QUERY_READBACK (R188, R110). -/
def readbackFields (x : Readback) : List BodyField :=
  [fNum 1 1 (if x.active then 1 else 0)] ++ fOpt 2 2 x.take ++ [fPosSv 3 x.cursor] ++ fPosSvOpt 4 x.endPoint ++
    [fNum 5 1 x.mask.toNat] ++ holdingField 6 x.holding ++
    (x.pendingRead.toList.map fun p => fEntry 7 [fNum 1 2 p.take, fNum 2 4 p.page, fNum 3 1 (if p.fate = .none_ then 0 else 1)]) ++
    [fSetClear 8 x.gone]

/-- QUERY_READBACK at the Supervisor Command Unit (R188). -/
def serveQueryReadback (n : Nat) (s : State) : State :=
  if h : n < 6 then s.answerFields .supervisor .ok {} (readbackFields (s.readback ⟨n, h⟩))
  else s.answer .supervisor .badArg

/-- QUERY_READBACK. -/
def execQueryReadback (tag : Byte) (body : List Byte) (s : State) : Host.Outcome State Fault Refusal :=
  .next (s.request .supervisor 0x57 tag .always (parseByte body) serveQueryReadback)

/-! ### QUERY_ROOM (R53) -/

/-- The active settings, in the order of R29. -/
def RoomSettings.fields (a : RoomSettings) : List BodyField :=
  [fNum 1 1 a.channels.count, fNum 2 1 a.timing.code, fNum 3 1 a.order.code, fNum 4 2 a.capture[0], fNum 5 2 a.capture[1],
    fNum 6 2 a.capture[2], fNum 7 2 a.capture[3], fNum 8 1 a.cls.code, fNum 9 2 a.target, fNum 10 2 a.minimum,
    fNum 11 2 a.extension, fNum 12 2 a.overlap, fNum 13 2 a.readbackFactor, fSetClear 14 a.clipAlert]

/-- The staged settings present, under the same numbers. -/
def StagedSettings.fields (g : StagedSettings) : List BodyField :=
  fOpt 4 2 g.capture[0] ++ fOpt 5 2 g.capture[1] ++ fOpt 6 2 g.capture[2] ++ fOpt 7 2 g.capture[3] ++
    fOpt 8 1 (g.cls.map Cls.code) ++ fOpt 9 2 g.target ++ fOpt 10 2 g.minimum ++ fOpt 11 2 g.extension ++
    fOpt 12 2 g.overlap ++ fOpt 13 2 g.readbackFactor

/-- The results of QUERY_ROOM (R53). -/
def State.roomFields (s : State) (r : RoomId) : List BodyField :=
  let x := s.room r
  [fNum 1 1 x.state.code] ++ fOpt 2 2 x.take ++ fOpt 3 4 ((x.take.bind s.findTake).map Take.length) ++
    fOpt 4 1 (x.dropping.map DropCause.code) ++
    [fNum 5 4 x.dropped, fNum 6 1 x.carry.length, fNum 7 2 x.lateBlocks, fNum 8 2 x.discardedBlocks, fNum 9 2 x.lostMarks] ++
    [fSetClear 10 x.clip, fEntry 11 x.active.fields, fEntry 12 x.staged.fields]

/-- The clip flag and the three counters cleared (R53). -/
def Room.clearCounters (x : Room) : Room := { x with clip := false, lateBlocks := 0, discardedBlocks := 0, lostMarks := 0 }

/-- QUERY_ROOM at the Capture Engine (R53). -/
def serveQueryRoom (a : Nat × Bool) (s : State) : State :=
  if h : a.1 < 6 then
    let r : RoomId := ⟨a.1, h⟩
    let s' := s.answerFields .supervisor .ok {} (s.roomFields r)
    if a.2 then s'.modRoom r Room.clearCounters else s'
  else s.answer .supervisor .badArg

/-- QUERY_ROOM. -/
def execQueryRoom (tag : Byte) (body : List Byte) (s : State) : Host.Outcome State Fault Refusal :=
  .next (s.request .supervisor 0x58 tag .always (parseQueryRoom body) serveQueryRoom)

/-! ### QUERY_QUEUE (R86) -/

/-- The fields of a queued segment's entry that its record gives, positions in the supervisor's form (R182; log entry 45). -/
def State.queuedFields (s : State) (x : SegRef) : List BodyField :=
  match s.lookup x with
  | .found (t, g) =>
    fFlag 6 (segmentOpen t g) ++ [fPosSv 7 g.first] ++ fPosSvOpt 8 g.last ++ fPosSvOpt 9 g.resume ++ [fNum 10 2 g.returns]
  | _ => []

/-- An entry of QUERY_QUEUE. -/
def State.queueEntry (s : State) (e : QEntry) : BodyField :=
  fEntry 6 ([fNum 1 2 e.ref.take, fNum 2 2 e.ref.index, fNum 3 1 e.cls.code, fNum 4 1 e.band, fNum 5 4 e.sequence] ++
    s.queuedFields e.ref)

/-- The queue entries of a class. -/
def State.countClass (s : State) (c : Cls) : Nat := (s.entries.filter fun e => e.cls == c).length

/-- QUERY_QUEUE at the Hand-off Scheduler (R86). -/
def serveQueryQueue (a : Nat × Option Nat) (s : State) : State :=
  if a.2 = some 0 then s.answer .supervisor .badArg
  else
    let hits := s.queue.filter fun e => a.2.all fun m => m.testBit e.cls.code
    s.answerFields .supervisor .ok { clamped := decide (1023 < a.1) }
      ([fNum 1 4 s.enqueueCounter, fNum 2 2 s.entries.length, fNum 3 2 (s.countClass .rush), fNum 4 2 (s.countClass .daily),
          fNum 5 2 (s.countClass .regular)] ++
        (pageOf (min a.1 1023) queryEntries hits).map s.queueEntry ++ usedSkip 7 2 1023 a.1)

/-- QUERY_QUEUE. -/
def execQueryQueue (tag : Byte) (body : List Byte) (s : State) : Host.Outcome State Fault Refusal :=
  .next (s.request .supervisor 0x59 tag .always (parseQueryQueue body) serveQueryQueue)

/-! ### QUERY_STORE (R134, R155, R171) -/

/-- The buffers in a state. -/
def State.buffersIn (s : State) (x : BufState) : Nat := (allBuffers.filter fun b => (s.buffer b).state == x).length

/-- The owner of a buffer: its kind, and the room or station it names. -/
def Owner.fields : Owner → List BodyField
  | .none_ => [fNum 3 1 0]
  | .room r => [fNum 3 1 1, fNum 4 1 r.val]
  | .reader (.station k) => [fNum 3 1 2, fNum 4 1 k.val]
  | .reader (.readback r) => [fNum 3 1 3, fNum 4 1 r.val]
  | .programQueue => [fNum 3 1 4]
  | .engine => [fNum 3 1 5]

/-- The items of a (take, take page). -/
def pageItems (id : Nat) (p : Option (Nat × Nat)) : List BodyField := fOpt id 2 (p.map Prod.fst) ++ fOpt (id + 1) 4 (p.map Prod.snd)

/-- The entry of a buffer that is not FREE, its own number first (R134; log entry 48). -/
def State.bufferEntry (s : State) (b : BufId) : BodyField :=
  let x := s.buffer b
  fEntry 12 ([fNum 1 1 b.val, fNum 2 1 x.state.code] ++ x.owner.fields ++ pageItems 5 x.page ++ [fNum 7 1 x.pins])

/-- The pool as QUERY_STORE reports it (R134). -/
def State.poolFields (s : State) : List BodyField :=
  [fNum 1 1 (s.buffersIn .free), fNum 2 1 (s.buffersIn .filling), fNum 3 1 (s.buffersIn .programWait),
      fNum 4 1 (s.buffersIn .programming), fNum 5 1 (s.buffersIn .cached), fNum 6 1 (s.buffersIn .readWait),
      fNum 7 1 (s.buffersIn .held), fNum 8 1 (s.buffersIn .copy),
      fNum 9 1 (allBuffers.filter fun b => (s.buffer b).state.resident).length, fNum 10 1 s.nrec] ++
    (s.dropWait.map fun r => fEntry 11 (fNum 1 1 r.val :: (fOpt 2 2 (s.room r).take ++ [fNum 3 4 (s.room r).dropped]))) ++
    ((allBuffers.filter fun b => (s.buffer b).state != .free).map s.bufferEntry)

/-- The units in a state. -/
def State.unitsIn (s : State) (x : UnitState) : Nat := (s.units.filter fun u => u.state == x).length

/-- The engine's state and progress (R147). -/
def Engine.fields (e : Engine) : List BodyField :=
  match e.work with
  | none => [fNum 1 1 0]
  | some (isRescue, w) =>
    [fNum 1 1 (if isRescue then 2 else 1), fNum 2 2 w.take, fNum 3 4 w.chain, fNum 4 2 w.source] ++ fOpt 5 2 w.dest ++
      fOpt 6 1 (w.buf.map Fin.val) ++ [fNum 7 1 w.page, fNum 8 1 w.flight.code]

/-- The unit table as QUERY_STORE reports it (R155). -/
def State.tableFields (s : State) : List BodyField :=
  (allBanks.flatMap fun b => (s.window b).toList.map fun w => fEntry 13 [fNum 1 1 b.val, fNum 2 2 w.base, fNum 3 2 w.size]) ++
    [fNum 14 2 s.unitsInside,
      fEntry 15 [fNum 1 2 (s.unitsIn .free), fNum 2 2 (s.unitsIn .opened), fNum 3 2 (s.unitsIn .full),
        fNum 4 2 (s.unitsIn .reclaim), fNum 5 2 (s.unitsIn .erasing), fNum 6 2 (s.unitsIn .retired)],
      fNum 16 2 s.freeList.length, fNum 17 2 s.lowWater, fNum 18 1 s.threshold, fNum 19 4 s.writeSeq,
      fNum 20 2 s.reclaimFifo.length, fNum 21 2 s.refreshFifo.length] ++
    (s.unitWait.map fun e => fEntry 22 [fNum 1 1 e.room.val, fNum 2 2 e.take, fNum 3 4 e.chain]) ++
    (s.rescues.map fun e => fEntry 23 [fNum 1 2 e.take, fNum 2 4 e.chain, fNum 3 2 e.unit, fNum 4 1 e.page]) ++
    [fEntry 24 s.engine.fields]

/-- A bank's state, IDLE 0 or BUSY 1; of a BUSY bank the operation in progress with the time since its issue in microseconds, a
page only where the operation names one, or the flag that says it is resetting its chip (R156, R157, R171; log entry 50). The time takes
4 bytes (DESIGN CHOICE, log entry 63). -/
def State.bankFields (s : State) (b : BankId) : List BodyField :=
  match s.bank b with
  | .idle => [fNum 1 1 0]
  | .busy op u p t =>
    let page := match op.kind with
      | .erase _ => []
      | _ => [fNum 4 1 p]
    [fNum 1 1 1, fNum 2 1 op.kind.code, fNum 3 2 u] ++ page ++ [fNum 5 1 op.cls, fNum 6 4 (s.clock - t)]
  | .resetting => fNum 1 1 1 :: fFlag 7 true

/-- A pending operation: its kind, unit or (take, take page), request number, and whether its page is held (R171). -/
def State.opFields (s : State) (op : FlashOp) : List BodyField :=
  [fNum 1 1 op.kind.code] ++
    (match op.kind with
      | .captureProgram _ t p => [fNum 3 2 t, fNum 4 4 p]
      | .copyProgram u _ _ => [fNum 2 2 u]
      | .pageRead u _ _ _ => [fNum 2 2 u]
      | .spareRead u _ => [fNum 2 2 u]
      | .erase u => [fNum 2 2 u]) ++
    [fNum 5 4 op.number] ++
    (match op.kind with
      | .captureProgram _ t p => fFlag 6 (s.isHeld t (chainIndex p))
      | _ => [])

/-- A pending list: its length and its first 8 operations (R171). -/
def State.pendingFields (s : State) (cls : Nat) : List BodyField :=
  let ops := s.flashOps.filter fun o => o.cls == cls
  fNum 1 2 ops.length :: ((ops.take 8).map fun o => fEntry 2 (s.opFields o))

/-- The sequencer as QUERY_STORE reports it (R171). -/
def State.sequencerFields (s : State) : List BodyField :=
  (allBanks.map fun b => fEntry 25 (s.bankFields b)) ++ ([1, 2, 3, 4, 5, 6].map fun c => fEntry 26 (s.pendingFields c)) ++
    [fEntry 27 [fNum 1 4 s.counters.corrected, fNum 2 4 s.counters.uncorrectable, fNum 3 4 s.counters.erasedRead,
      fNum 4 4 s.counters.programFailures, fNum 5 4 s.counters.eraseFailures, fNum 6 4 s.counters.timeouts]]

/-- A unit's entry (R135, R155). -/
def UnitEntry.fields (u : UnitEntry) : List BodyField :=
  [fNum 1 2 u.number, fNum 2 1 u.state.code] ++ fOpt 3 2 u.owner ++ fOpt 4 4 u.chain ++ fOpt 5 1 (u.role.map Role.code) ++
    fOpt 6 4 u.writeSeq ++ [fNum 7 1 u.nextPage] ++ fOpt 8 1 u.finalPage ++ [fSetClear 9 u.refreshWanted, fNum 10 1 u.inFlight]

/-- A chain index of a take: the index, the unit, its state, write sequence, next page and refresh-wanted (R155). -/
def chainEntry (u : UnitEntry) : BodyField :=
  fEntry 30 ([fNum 1 4 (u.chain.getD 0), fNum 2 2 u.number, fNum 3 1 u.state.code] ++ fOpt 4 4 u.writeSeq ++
    [fNum 5 1 u.nextPage, fSetClear 6 u.refreshWanted])

/-- The greatest skip count of a chain (R155). -/
def chainSkipTop : Nat := 262143

/-- What a query names ahead of its report: a unit's entry, and of a take the chain length and the skip count used (R155). -/
def State.namedFields (s : State) (a : QueryStoreArgs) : List BodyField :=
  ((a.unit.bind s.unit).toList.map fun u => fEntry 28 u.fields) ++
    a.take.toList.flatMap fun p => fNum 29 4 (s.chainLength p.1) :: usedSkip 31 4 chainSkipTop p.2

/-- Up to 32 chain indexes of a take after the skipped ones (R155). -/
def State.chainFields (s : State) (a : Nat × Nat) : List BodyField :=
  (pageOf (min a.2 chainSkipTop) queryEntries (sortBy (fun u => u.chain.getD 0) (s.chainUnits a.1))).map chainEntry

/-- QUERY_STORE (R134, R155, R171). A unit in no window, or a take not in the table, is answered UNKNOWN_ID (log entry
25). The chain indexes stand last, and the answer gives as many fields as a frame holds (R197; DESIGN CHOICE, log entry 29). -/
def serveQueryStore (a : QueryStoreArgs) (s : State) : State :=
  if a.unit.any (fun n => (s.unit n).isNone) ∨ a.take.any (fun p => (s.findTake p.1).isNone) then s.answer .supervisor .unknownId
  else
    s.answerFields .supervisor .ok { clamped := a.take.any fun p => decide (chainSkipTop < p.2) }
      (fitFields Config.frameBody
        (s.namedFields a ++ s.poolFields ++ s.tableFields ++ s.sequencerFields ++ a.take.toList.flatMap s.chainFields))

/-- QUERY_STORE. -/
def execQueryStore (tag : Byte) (body : List Byte) (s : State) : Host.Outcome State Fault Refusal :=
  .next (s.request .supervisor 0x5A tag .always (parseQueryStore body) serveQueryStore)

end Sys2Proof.Machine
end

