-- ==== Sys2Proof/Machine/Readbacks.lean ====
section
/-! DEFINITION. The read-back requests (chapter 6). -/

namespace Sys2Proof.Machine

/-! ### READBACK_START (R112 to R114) -/

/-- The take a READBACK_START names, or the status that refuses it (R112). -/
def State.readbackTake (s : State) (r : RoomId) (id : Option Nat) : Take ⊕ Status :=
  match id with
  | none =>
    if (s.room r).state ≠ .recording then .inr .refused
    else match (s.room r).take.bind s.findTake with
      | some t => .inl t
      | none => .inr .refused
  | some n =>
    match s.findTake n with
    | none => .inr .unknownId
    | some t =>
      if t.state = .released then .inr .gone else if t.room ≠ r then .inr .refused else .inl t

/-- The base of a read-back start, none where a mark search finds no mark (R113). -/
def startBase (t : Take) : StartForm → Option Nat
  | .fromEnd => some t.length
  | .absolute => some 0
  | .mark k n => searchMarks t k (clampCount n) .before (t.length + 1)

/-- The end point of a read-back that starts at a position (R114). -/
def endPointOf (t : Take) (start : Nat) : EndForm → Option Nat
  | .live => none
  | .now => some t.length
  | .duration cs => some (min (start + csToBlocks (min cs 1000000)) Config.greatestLength)

/-- The count a MARK start used, where it was clamped; a count with another start is ignored (R112; DESIGN CHOICE, log entry 56). -/
def startCount : StartForm → Option Nat
  | .mark _ n => if clampCount n = n then none else some (clampCount n)
  | _ => none

/-- The duration used, where it was clamped; a duration with another end is ignored (R112; DESIGN CHOICE, log entry 56). -/
def usedDuration : EndForm → Option Nat
  | .duration cs => if 1000000 < cs then some 1000000 else none
  | _ => none

/-- READBACK_START at the Read-back Unit (R112 to R114). Where a mark search finds no mark, gone keeps its value (log entry
47). An end point set to 16,777,215 is reported without a clamp indication (DESIGN CHOICE, log entry 64). -/
def serveReadbackStart (r : RoomId) (a : ReadbackStartArgs) (s : State) : State :=
  let x := s.readback r
  match s.readbackTake r a.take with
  | .inr st => s.answer (.room r) st
  | .inl t =>
    if x.active then s.answer (.room r) .refused
    else
      match startBase t a.start with
      | none => s.answer (.room r) .unknownId
      | some base =>
        let p := clampTo 0 t.length ((base : Int) + offsetBlocks a.offset)
        let e := endPointOf t p.1 a.endForm
        let mask := (a.mask.map (BitVec.ofNat 4)).getD (BitVec.ofNat 4 (2 ^ t.channels.count - 1))
        let clamped := (startCount a.start).isSome || (usedDuration a.endForm).isSome
        (s.setReadback r
          { x with
            active := true
            take := some t.id
            cursor := p.1
            endPoint := e
            mask := mask
            holding := none
            gone := false }).answerFields (.room r) .ok
          { p.2 with clamped := clamped, live := t.state == .recording }
          ([fNum 1 2 t.id, fNum 2 1 t.channels.count, fPos 3 p.1] ++ fPosOpt 4 e ++ [fPos 5 t.length] ++
            fOpt 6 1 (startCount a.start) ++ fOpt 7 4 (usedDuration a.endForm))

/-- READBACK_START. -/
def execReadbackStart (r : RoomId) (tag : Byte) (body : List Byte) (s : State) : Host.Outcome State Fault Refusal :=
  .next (s.request (.room r) 0x14 tag .readyOnly (parseReadbackStart body) (serveReadbackStart r))

/-! ### READBACK_READ and READBACK_STOP (R111, R115, R119) -/

/-- READBACK_READ at the Read-back Unit (R111, R115). -/
def serveReadbackRead (r : RoomId) (s : State) : State :=
  let x := s.readback r
  if x.active then State.settle s (s.readbackRead r)
  else if x.gone then (s.setReadback r { x with gone := false }).answer (.room r) .gone
  else s.answer (.room r) .refused

/-- READBACK_READ. -/
def execReadbackRead (r : RoomId) (tag : Byte) (body : List Byte) (s : State) : Host.Outcome State Fault Refusal :=
  .next (s.request (.room r) 0x15 tag .readyOnly (parseNone body) fun _ => serveReadbackRead r)

/-- READBACK_STOP at the Read-back Unit (R111, R119). -/
def serveReadbackStop (r : RoomId) (s : State) : State :=
  let x := s.readback r
  if x.active then State.settle s ((s.endReadback r).answerFields (.room r) .ok {} [fPos 1 x.cursor])
  else (s.setReadback r { x with gone := false }).answer (.room r) .ok

/-- READBACK_STOP. -/
def execReadbackStop (r : RoomId) (tag : Byte) (body : List Byte) (s : State) : Host.Outcome State Fault Refusal :=
  .next (s.request (.room r) 0x16 tag .readyOnly (parseNone body) fun _ => serveReadbackStop r)

end Sys2Proof.Machine
end

