-- ==== Sys2Proof/Machine/Work.lean ====
section
/-! DEFINITION. The supervisor's work commands: SET_CLASS, SET_HOLD, RELEASE_TAKE, DIRECT, RECALL and MARK_TYPED (R23 to R25, R79 to
R82, R181). -/

namespace Sys2Proof.Machine

/-! ### SET_CLASS and SET_HOLD (R23, R24, R78) -/

/-- SET_CLASS at the directory and the scheduler (R23, R78). -/
def serveSetClass (a : Nat × Cls) (s : State) : State :=
  match s.findTake a.1 with
  | none => s.answer .supervisor .unknownId
  | some t =>
    if t.state = .released then s.answer .supervisor .refused
    else if t.cls = a.2 then s.answer .supervisor .ok
    else
      let s' := s.modTake t.id fun y => { y with cls := a.2 }
      let s' := match t.growing with
        | some g => if a.2 = Cls.rush ∧ segmentOpen t g ∧ g.work = none then s'.handOver ⟨t.id, g.index⟩ else s'
        | none => s'
      State.settle s (s'.answer .supervisor .ok)

/-- SET_CLASS. -/
def execSetClass (tag : Byte) (body : List Byte) (s : State) : Host.Outcome State Fault Refusal :=
  .next (s.request .supervisor 0x48 tag .readyOnly (parseSetClass body) serveSetClass)

/-- SET_HOLD at the directory (R24). -/
def serveSetHold (a : Nat × Bool) (s : State) : State :=
  match s.findTake a.1 with
  | none => s.answer .supervisor .unknownId
  | some t =>
    if t.state = .released then s.answer .supervisor .refused
    else (s.modTake t.id fun y => { y with hold := a.2 }).answer .supervisor .ok

/-- SET_HOLD. -/
def execSetHold (tag : Byte) (body : List Byte) (s : State) : Host.Outcome State Fault Refusal :=
  .next (s.request .supervisor 0x49 tag .readyOnly (parseSetHold body) serveSetHold)

/-! ### RELEASE_TAKE (R25, R26, R105, R120, R133, R145, R154) -/

/-- Takes back what one station holds of a released take, the shadow first and then the current, with one NOTICE RECALLED
(R105). -/
def State.takeBack (take : Nat) (s : State) (k : StationId) : State :=
  let st := s.station k
  let shadow := (st.shadow.map Shadow.seg).filter fun x => x.take == take
  let current := st.current.filter fun x => x.take == take
  let taken := (shadow.toList.map fun x => (x, Slot.shadow)) ++ (current.toList.map fun x => (x, Slot.current))
  if taken = [] then s
  else
    let s := match shadow with
      | some _ => (s.loseSlot k .shadow .gone).1
      | none => s
    let r := match current with
      | some _ => s.loseSlot k .current .gone
      | none => (s, none)
    r.1.notify (.station k) noticeKind (recalledBody taken true false r.2)

/-- Ends a room's ACTIVE read-back of a released take, with gone set (R120). -/
def State.releaseEndsReadback (take : Nat) (s : State) (r : RoomId) : State :=
  let x := s.readback r
  if x.active ∧ x.take = some take then (s.endReadback r).modReadback r fun y => { y with gone := true } else s

/-- Withdraws a buffer's pending capture program and frees the buffer, where it waits with a page of a released take
(R133, R161). -/
def State.withdraw (take : Nat) (s : State) (b : BufId) : State :=
  let x := s.buffer b
  if x.state = .programWait ∧ x.page.any (fun p => p.1 == take) then
    let ops := s.flashOps.filter fun o =>
      match o.kind with
      | .captureProgram c _ _ => c != b
      | _ => true
    ({ s with flashOps := ops } : State).freeBuffer b
  else s

/-- Puts a chain unit of a released take into RECLAIM, owner and chain index kept (R145). -/
def State.reclaimChainUnit (s : State) (n : Nat) : State :=
  { s.modUnit n fun u => { u with state := .reclaim, finalPage := none, refreshWanted := false } with
    refreshFifo := s.refreshFifo.filter fun m => m != n
    reclaimFifo := s.reclaimFifo ++ [n] }

/-- The numbers of the take's chain units in ascending chain index. -/
def State.chainNumbers (s : State) (take : Nat) : List Nat :=
  (sortBy (fun u => u.chain.getD 0) (s.chainUnits take)).map UnitEntry.number

/-- Whether the engine's present work is a rescue of a unit. -/
def Engine.rescuing (e : Engine) (unit : Nat) : Bool :=
  match e with
  | .rescue w => w.source == unit
  | _ => false

/-- Removes the take's rescues that the engine is not working on, and stops the engine's work on the take, at its
completion where an operation is in flight (R154). -/
def State.stopEngineFor (s : State) (take : Nat) : State :=
  let s := { s with rescues := s.rescues.filter fun e => e.take != take || s.engine.rescuing e.unit }
  match s.engine.work with
  | some (isRescue, w) =>
    if w.take ≠ take then s
    else if w.flight = .none_ then s.stopWork w
    else { s with engine := .of isRescue { w with stopping := true } }
  | none => s

/-- Step 6 of R25: the chain is reclaimed and the engine's work on the take stops (R145, R154). -/
def State.reclaimChain (s : State) (take : Nat) : State :=
  (((s.chainNumbers take).foldl State.reclaimChainUnit s).drainReclaim).stopEngineFor take

/-- The steps of a release (R25), and the freeing of a take whose chain is empty (R26). -/
def State.releaseTake (s : State) (take : Nat) : State :=
  let chainEmpty := (s.chainUnits take).isEmpty
  let s := s.modTake take fun t =>
    { t with
      state := .released
      segments := t.segments.map fun g => if g.work = some .queued then { g with work := none } else g }
  let s := allStations.foldl (State.takeBack take) s
  let s := allRooms.foldl (State.releaseEndsReadback take) s
  let s := s.modTake take fun t => { t with segments := [], marks := [], damage := [], damageOverflow := 0 }
  let s := allBuffers.foldl (State.withdraw take) s
  let s := s.reclaimChain take
  if chainEmpty then s.freeTake take else s

/-- RELEASE_TAKE at the directory (R25). -/
def serveReleaseTake (a : Nat × Bool) (s : State) : State :=
  match s.findTake a.1 with
  | none => s.answer .supervisor .unknownId
  | some t =>
    if t.hold then s.answer .supervisor .refused
    else if t.state = .complete ∨ (t.state = .closed ∧ a.2) then
      State.settle s ((s.releaseTake t.id).answer .supervisor .ok)
    else s.answer .supervisor .refused

/-- RELEASE_TAKE. -/
def execReleaseTake (tag : Byte) (body : List Byte) (s : State) : Host.Outcome State Fault Refusal :=
  .next (s.request .supervisor 0x4A tag .readyOnly (parseReleaseTake body) serveReleaseTake)

/-! ### DIRECT (R79, R80, R104) -/

/-- The body of NOTICE DIRECTED (R104, R107). The displaced context stands in three flat fields (DESIGN CHOICE, log entry 55). -/
def directedBody (x : SegRef) (start : Nat) (displaced : Option Shadow) : List Byte :=
  fieldBytes ([fNum 1 1 0, fNum 2 2 x.take, fNum 3 2 x.index, fPos 4 start] ++
    match displaced with
    | some sh => [fNum 5 2 sh.seg.take, fNum 6 2 sh.seg.index, fPos 7 sh.cursor]
    | none => [])

/-- Sets a station's current context aside as its shadow (R80, R104). -/
def State.setShadow (s : State) (k : StationId) (cur : SegRef) : State × Shadow :=
  let st := s.station k
  let sh : Shadow := ⟨cur, st.cursor, st.state == .playing⟩
  let s := s.releaseHolding k
  let s := s.modSegment cur fun g => { g with holder := some (k, .shadow) }
  ((s.modStation k fun y => { y with shadow := some sh, stop := none }).setFate k .preempted, sh)

/-- DIRECT at the scheduler and the Station Service (R79, R80, R104). The answer names the displaced segment as one entry (DESIGN CHOICE,
log entry 55). -/
def serveDirect (a : DirectArgs) (s : State) : State :=
  if h : a.station < 8 then
    let k : StationId := ⟨a.station, h⟩
    let x : SegRef := ⟨a.take, a.index⟩
    match s.findTake a.take with
    | none => s.answer .supervisor .unknownId
    | some t =>
      match t.segment a.index with
      | none => s.answer .supervisor (if t.state = .released then .refused else .unknownId)
      | some g =>
        let st := s.station k
        if t.state = .released ∨ g.work ≠ some .queued ∨ st.state = .offline then s.answer .supervisor .refused
        else if st.shadow.isSome then s.answer .supervisor .busy
        else
          let p := startPoint t g
          let r : State × Option Shadow := match st.current with
            | some cur => let q := s.setShadow k cur; (q.1, some q.2)
            | none => (s.setFate k .preempted, none)
          let s' := (r.1.giveCurrent k x p).notify (.station k) noticeKind (directedBody x p r.2)
          State.settle s (s'.answerFields .supervisor .ok {}
            (fPosSv 1 p :: (r.2.toList.map fun sh => fEntry 2 (segmentItems sh.seg))))
  else s.answer .supervisor .badArg

/-- DIRECT. -/
def execDirect (tag : Byte) (body : List Byte) (s : State) : Host.Outcome State Fault Refusal :=
  .next (s.request .supervisor 0x4B tag .readyOnly (parseDirect body) serveDirect)

/-! ### RECALL (R82, R105) -/

/-- RECALL at the scheduler and the Station Service (R82, R74, R105). -/
def serveRecall (a : Nat × Nat) (s : State) : State :=
  let x : SegRef := ⟨a.1, a.2⟩
  match s.findTake a.1 with
  | none => s.answer .supervisor .unknownId
  | some t =>
    if t.state = .released then s.answer .supervisor .refused
    else
      match t.segment a.2 with
      | none => s.answer .supervisor .unknownId
      | some g =>
        match g.work, g.holder with
        | some .assigned, some (k, slot) =>
          let s' := (s.seize x k slot false).returnSegment x none
          State.settle s (s'.answerFields .supervisor .ok {} [fNum 1 1 k.val, fNum 2 1 slot.code])
        | _, _ => s.answer .supervisor .refused

/-- RECALL. -/
def execRecall (tag : Byte) (body : List Byte) (s : State) : Host.Outcome State Fault Refusal :=
  .next (s.request .supervisor 0x4C tag .readyOnly (parseSegment body) serveRecall)

/-! ### MARK_TYPED (R181) -/

/-- The segments of a take in a work state. -/
def Take.countWork (t : Take) (w : WorkState) : Nat := (t.segments.filter fun g => g.work == some w).length

/-- Makes every QUEUED segment of a take TYPED (R181). -/
def State.typeAllQueued (s : State) (take : Nat) : State :=
  (s.modTake take fun t =>
    { t with segments := t.segments.map fun g => if g.work = some .queued then { g with work := some .typed } else g }).checkComplete
    take

/-- MARK_TYPED at the directory (R181). An unknown segment index is found before the RECORDING state (DESIGN CHOICE, log entry 59), and with
one segment named 0 are left ASSIGNED (DESIGN CHOICE, log entry 60). -/
def serveMarkTyped (a : Nat × Option Nat) (s : State) : State :=
  let ok := fun (s : State) (typed left : Nat) => s.answerFields .supervisor .ok {} [fNum 1 2 typed, fNum 2 2 left]
  match s.findTake a.1 with
  | none => s.answer .supervisor .unknownId
  | some t =>
    match a.2 with
    | none =>
      if t.state = .released ∨ t.state = .recording then s.answer .supervisor .refused
      else ok (s.typeAllQueued t.id) (t.countWork .queued) (t.countWork .assigned)
    | some i =>
      match t.segment i with
      | none => s.answer .supervisor (if t.state = .released then .refused else .unknownId)
      | some g =>
        if t.state = .released ∨ t.state = .recording then s.answer .supervisor .refused
        else
          match g.work with
          | some .queued => ok (s.makeTyped ⟨t.id, i⟩) 1 0
          | some .typed => ok (s.checkComplete t.id) 0 0
          | _ => s.answer .supervisor .refused

/-- MARK_TYPED. -/
def execMarkTyped (tag : Byte) (body : List Byte) (s : State) : Host.Outcome State Fault Refusal :=
  .next (s.request .supervisor 0x4D tag .readyOnly (parseMarkTyped body) serveMarkTyped)

end Sys2Proof.Machine
end

