-- ==== Sys2Proof/Machine/Dispatch.lean ====
section
/-! DEFINITION. exec: one arm for each command of the opcode table. -/

namespace Sys2Proof.Machine

def exec (i : Instr) (s : State) : Host.Outcome State Fault Refusal :=
  match i with
  | .deviceReset => Sys2Proof.Machine.execDeviceReset s
  | .linkUp l => Sys2Proof.Machine.execLinkUp l s
  | .linkDown l => Sys2Proof.Machine.execLinkDown l s
  | .droppedFrame l why => Sys2Proof.Machine.execDroppedFrame l why s
  | .unknownRequestKind l kind tag => Sys2Proof.Machine.execUnknownRequestKind l kind tag s
  | .takeStart r tag body => Sys2Proof.Machine.execTakeStart r tag body s
  | .block r tag body => Sys2Proof.Machine.execBlock r tag body s
  | .mark r tag body => Sys2Proof.Machine.execMark r tag body s
  | .takeStop r tag body => Sys2Proof.Machine.execTakeStop r tag body s
  | .readbackStart r tag body => Sys2Proof.Machine.execReadbackStart r tag body s
  | .readbackRead r tag body => Sys2Proof.Machine.execReadbackRead r tag body s
  | .readbackStop r tag body => Sys2Proof.Machine.execReadbackStop r tag body s
  | .claim k tag body => Sys2Proof.Machine.execClaim k tag body s
  | .read k tag body => Sys2Proof.Machine.execRead k tag body s
  | .pause k tag body => Sys2Proof.Machine.execPause k tag body s
  | .resume k tag body => Sys2Proof.Machine.execResume k tag body s
  | .seek k tag body => Sys2Proof.Machine.execSeek k tag body s
  | .setPlayback k tag body => Sys2Proof.Machine.execSetPlayback k tag body s
  | .setStop k tag body => Sys2Proof.Machine.execSetStop k tag body s
  | .done k tag body => Sys2Proof.Machine.execDone k tag body s
  | .release k tag body => Sys2Proof.Machine.execRelease k tag body s
  | .status k tag body => Sys2Proof.Machine.execStatus k tag body s
  | .configureBank tag body => Sys2Proof.Machine.execConfigureBank tag body s
  | .rebuild tag body => Sys2Proof.Machine.execRebuild tag body s
  | .configureDevice tag body => Sys2Proof.Machine.execConfigureDevice tag body s
  | .settingsHold tag body => Sys2Proof.Machine.execSettingsHold tag body s
  | .configureRoom tag body => Sys2Proof.Machine.execConfigureRoom tag body s
  | .configureStation tag body => Sys2Proof.Machine.execConfigureStation tag body s
  | .setClass tag body => Sys2Proof.Machine.execSetClass tag body s
  | .setHold tag body => Sys2Proof.Machine.execSetHold tag body s
  | .releaseTake tag body => Sys2Proof.Machine.execReleaseTake tag body s
  | .direct tag body => Sys2Proof.Machine.execDirect tag body s
  | .recall tag body => Sys2Proof.Machine.execRecall tag body s
  | .markTyped tag body => Sys2Proof.Machine.execMarkTyped tag body s
  | .readAlerts tag body => Sys2Proof.Machine.execReadAlerts tag body s
  | .queryDevice tag body => Sys2Proof.Machine.execQueryDevice tag body s
  | .queryTakes tag body => Sys2Proof.Machine.execQueryTakes tag body s
  | .queryTake tag body => Sys2Proof.Machine.execQueryTake tag body s
  | .querySegments tag body => Sys2Proof.Machine.execQuerySegments tag body s
  | .queryMarks tag body => Sys2Proof.Machine.execQueryMarks tag body s
  | .queryStation tag body => Sys2Proof.Machine.execQueryStation tag body s
  | .queryReadback tag body => Sys2Proof.Machine.execQueryReadback tag body s
  | .queryRoom tag body => Sys2Proof.Machine.execQueryRoom tag body s
  | .queryQueue tag body => Sys2Proof.Machine.execQueryQueue tag body s
  | .queryStore tag body => Sys2Proof.Machine.execQueryStore tag body s
  | .cadenceExpiry r => Sys2Proof.Machine.execCadenceExpiry r s
  | .operationTimeout b => Sys2Proof.Machine.execOperationTimeout b s
  | .programComplete b result => Sys2Proof.Machine.execProgramComplete b result s
  | .pageReadComplete b page => Sys2Proof.Machine.execPageReadComplete b page s
  | .spareReadComplete b page => Sys2Proof.Machine.execSpareReadComplete b page s
  | .eraseComplete b result => Sys2Proof.Machine.execEraseComplete b result s
  | .chipResetReady b => Sys2Proof.Machine.execChipResetReady b s
  | .messageTransmitted l => Sys2Proof.Machine.execMessageTransmitted l s

end Sys2Proof.Machine
end

