-- ==== Sys2Proof/WellFormed.lean ====
section
/-! DEFINITION. Which terms of Instr are commands the part can be given: bodies that fit a frame, request kinds that are unknown where
the row says so, and code words of the right size. -/

namespace Sys2Proof

/-- A body fits a frame: its length field is at most 2,057 (R194, R197). -/
def bodyFits (body : List Byte) : Bool := decide (body.length ≤ 2052)

/-- What a decode may find in a code word of `dataBytes` data bytes: 1 to 4 corrected symbols, and `dataBytes` + 9 bytes where
the word written back is not the one programmed (R165, R167). -/
def CodeWordRead.wf (dataBytes : Nat) : CodeWordRead → Bool
  | .clean => true
  | .corrected n => decide (1 ≤ n ∧ n ≤ 4)
  | .miscorrected n w => decide (1 ≤ n ∧ n ≤ 4 ∧ w.length = dataBytes + 9)
  | .uncorrectable => true

/-- A page as read: at most its 2048 data bytes and 64 spare bytes, three code words of a sector, and one of sector 3, tag and
mark slots (R156, R165). -/
def PageRead.wf (x : PageRead) : Bool :=
  decide (x.data.length ≤ 2048 ∧ x.spare.length ≤ 64) && x.w0.wf 512 && x.w1.wf 512 && x.w2.wf 512 && x.w3.wf 535

/-- A spare area as read, and code word 3. -/
def SpareRead.wf (x : SpareRead) : Bool := decide (x.spare.length ≤ 64) && x.w3.wf 535

/-- Whether a request's body keeps the field encoding for its arguments, so that step 3 of R194 passes it. BLOCK has a fixed
layout, which R34 checks later. True for a command that is no request. -/
def Instr.bodyCoded (i : Instr) : Bool :=
  match i with
  | .deviceReset => true
  | .linkUp _ => true
  | .linkDown _ => true
  | .droppedFrame _ _ => true
  | .unknownRequestKind _ _ _ => true
  | .takeStart _ _ b => (parseTakeStart b).isSome
  | .block _ _ _ => true
  | .mark _ _ b => (parseMark b).isSome
  | .takeStop _ _ b => (parseNone b).isSome
  | .readbackStart _ _ b => (parseReadbackStart b).isSome
  | .readbackRead _ _ b => (parseNone b).isSome
  | .readbackStop _ _ b => (parseNone b).isSome
  | .claim _ _ b => (parseClaim b).isSome
  | .read _ _ b => (parseNone b).isSome
  | .pause _ _ b => (parseNone b).isSome
  | .resume _ _ b => (parseNone b).isSome
  | .seek _ _ b => (parseSeek b).isSome
  | .setPlayback _ _ b => (parseSetPlayback b).isSome
  | .setStop _ _ b => (parseSetStop b).isSome
  | .done _ _ b => (parseSegment b).isSome
  | .release _ _ b => (parseRelease b).isSome
  | .status _ _ b => (parseNone b).isSome
  | .configureBank _ b => (parseConfigureBank b).isSome
  | .rebuild _ b => (parseNone b).isSome
  | .configureDevice _ b => (parseConfigureDevice b).isSome
  | .settingsHold _ b => (parseSettingsHold b).isSome
  | .configureRoom _ b => (parseConfigureRoom b).isSome
  | .configureStation _ b => (parseConfigureStation b).isSome
  | .setClass _ b => (parseSetClass b).isSome
  | .setHold _ b => (parseSetHold b).isSome
  | .releaseTake _ b => (parseReleaseTake b).isSome
  | .direct _ b => (parseDirect b).isSome
  | .recall _ b => (parseSegment b).isSome
  | .markTyped _ b => (parseMarkTyped b).isSome
  | .readAlerts _ b => (parseByte b).isSome
  | .queryDevice _ b => (parseNone b).isSome
  | .queryTakes _ b => (parseQueryTakes b).isSome
  | .queryTake _ b => (parseQueryTake b).isSome
  | .querySegments _ b => (parseQuerySegments b).isSome
  | .queryMarks _ b => (parseQueryMarks b).isSome
  | .queryStation _ b => (parseByte b).isSome
  | .queryReadback _ b => (parseByte b).isSome
  | .queryRoom _ b => (parseQueryRoom b).isSome
  | .queryQueue _ b => (parseQueryQueue b).isSome
  | .queryStore _ b => (parseQueryStore b).isSome
  | .cadenceExpiry _ => true
  | .operationTimeout _ => true
  | .programComplete _ _ => true
  | .pageReadComplete _ _ => true
  | .spareReadComplete _ _ => true
  | .eraseComplete _ _ => true
  | .chipResetReady _ => true
  | .messageTransmitted _ => true

/-- The well-formed commands. -/
def Instr.wf (i : Instr) : Bool :=
  match i with
  | .unknownRequestKind l kind tag => (requestOfKind l kind tag []).isNone
  | .pageReadComplete _ p => p.wf
  | .spareReadComplete _ p => p.wf
  | other =>
    match requestParts other with
    | some (_, _, _, body) => bodyFits body
    | none => true

end Sys2Proof
end

