-- ==== Sys2Proof/Safety.lean ====
section
/-! DEFINITION. The terms the claims about the part use: a link that can take a request, the answer to it, and the invariants of a
safe run. -/

namespace Sys2Proof.Machine

/-! ### Requests and answers -/

/-- A link can take a request: it is UP and none is outstanding (R193, R194). -/
abbrev State.canTake (s : State) (l : LinkId) : Prop := (s.link l).up = true ∧ (s.link l).outstanding = none

/-- A room or station request, or a work command, that a link brings reaches its block: the link can take it, and the part is
READY (R172). -/
abbrev State.canServe (s : State) (l : LinkId) : Prop := s.canTake l ∧ s.readiness = .ready

/-- The state with one more message to send on a link (R193). -/
def State.queued (s : State) (l : LinkId) (m : Message) : State :=
  s.setLink l { s.link l with txq := (s.link l).txq ++ [m] }

/-- The state in which the Link Interface has answered a request frame itself: one more response with an empty body, and
nothing else (R194 steps 1 to 4). -/
def State.replied (s : State) (l : LinkId) (kind : Nat) (tag : Byte) (st : Status) : State :=
  s.queued l ⟨.response, kind, tag, st, {}, []⟩

/-- The state in which a request taken on a link has been answered at once: the response is the last message to send, and
nothing is outstanding (R194). -/
def State.answered (s : State) (l : LinkId) (kind : Nat) (tag : Byte) (st : Status) (ind : Indications) (body : List Byte) :
    State :=
  s.setLink l
    { s.link l with
      rx := .hunt
      outstanding := none
      txq := (s.link l).txq ++ [⟨.response, kind, tag, st, ind, body⟩] }

/-- The state in which a request has been taken and not yet answered (R194). -/
def State.taken (s : State) (l : LinkId) (kind : Nat) (tag : Byte) : State :=
  s.setLink l { s.link l with rx := .hunt, outstanding := some ⟨kind, tag⟩ }

/-- No pending flash operation is eligible (R159). -/
abbrev State.settled (s : State) : Prop := s.eligible [] s.flashOps = []

/-! ### Buffers let go -/

/-- No room and no engine waits for a buffer (R131). -/
abbrev State.noneWaits (s : State) : Prop :=
  s.dropWait = [] ∧ (s.engine.work.all fun p => p.2.dest.isNone || p.2.buf.isSome) = true

/-- The record of a FREE buffer (R122). -/
abbrev freeRecord : Buffer := ⟨.free, none, 0, .none_, none⟩

/-- The state in which a reader has let go of what it held while none waits for a buffer: an owned buffer is FREE, and so is a
CACHED one that loses its last pin; any other has one pin less (R103, R119, R128). -/
def State.withoutHolding (s : State) (h : Option Holding) : State :=
  match h with
  | none => s
  | some h =>
    let x := s.buffer h.buf
    s.setBuffer h.buf
      (if h.owned = true ∨ x.state = .cached ∧ x.pins ≤ 1 then freeRecord else { x with pins := x.pins - 1 })

/-! ### Invariants -/

/-- Both byte memories are in canonical form. -/
abbrev State.memoryForm (s : State) : Prop :=
  Memory.wf ramUnlisted s.ram = true ∧ Memory.wf flashUnlisted s.flash = true

/-- The alert list, its overflow count and the next alert number stay in their bounds (R189). -/
abbrev State.alertLimits (s : State) : Prop :=
  s.alerts.length ≤ Config.alertRecords ∧ s.alertOverflow ≤ Config.max16 ∧ s.nextAlert ≤ Config.max32

/-- The device settings stay in their ranges (R183). -/
abbrev State.deviceRanges (s : State) : Prop := 1 ≤ s.threshold ∧ s.threshold ≤ 4 ∧ s.lowWater ≤ 32767

/-- The rebuild's own store is present exactly while the readiness state is REBUILDING (R172, R173). -/
abbrev State.rebuildAgrees (s : State) : Prop := s.rebuild ≠ none ↔ s.readiness = .rebuilding

/-- One take record follows another of the same take: what is fixed for the life of the take is the same, and the length
has not fallen (R2, R5). -/
abbrev Take.follows (b a : Take) : Prop :=
  b.id = a.id ∧ b.room = a.room ∧ b.channels = a.channels ∧ b.overlap = a.overlap ∧ b.stamp = a.stamp ∧ a.length ≤ b.length

end Sys2Proof.Machine
end

