-- ==== Sys2Proof/Certificates/Slice0/Obligations.lean ====
section
/-! DEFINITION. The statements for the provers: from each command's effect to what every step keeps. -/

open Sys2Proof Sys2Proof.Machine

/-! ### Steps -/

/-- The command at the front of the queue runs, with the queue's rest. That the commands of all masters wait in one queue, first
in, first out, filled from outside, is the model's choice (log entries 4 and 28). -/
def Obligations.StepRunsFront : Prop :=
  ∀ (c : Instr) (rest : List Instr) (s : State), s.pending = c :: rest → step s = exec c { s with pending := rest }

/-- With no command waiting the model's clock counts one microsecond and nothing else changes: the model's choice (log
entry 3). -/
def Obligations.StepIdles : Prop :=
  ∀ s : State, s.pending = [] → step s = .next { s with clock := s.clock + 1 }

/-! ### Frames, links and admission (chapter 12) -/

/-- A request's frame, after any bytes that are no start byte, decodes to the request and leaves the bytes that follow. The
model's choice in it: frames that arrive whole (log entry 1). -/
def Obligations.FramesDecodeToTheirRequests : Prop :=
  ∀ (c : Instr) (l : LinkId) (frame before after : List Byte), c.wf = true → encodeRequest c = some (l, frame) →
    (∀ b ∈ before, b ≠ 0xA5) → decodeFrame l (before ++ frame ++ after) = some (c, after)

/-- The frames the receiver drops, each with the byte at which it goes on, and the frame of an unknown request kind. The model's
choice in it: frames that arrive whole (log entry 1). -/
def Obligations.BadFramesAreDropped : Prop :=
  ∀ (l : LinkId) (after : List Byte),
    (∀ lo hi : Byte, lo.toNat + 256 * hi.toNat < 5 ∨ 2057 < lo.toNat + 256 * hi.toNat →
      decodeFrame l (0xA5 :: lo :: hi :: after) = some (.droppedFrame l .badLength, after)) ∧
    (∀ (content : List Byte) (e : Byte), 5 ≤ content.length → content.length ≤ 2057 → e ≠ 0xC3 →
      decodeFrame l (0xA5 :: (toLE 2 content.length ++ content ++ e :: after)) = some (.droppedFrame l .badEndByte, after)) ∧
    (∀ (type kind tag st ind : Byte) (body : List Byte), body.length ≤ 2052 → type ≠ 0 →
      decodeFrame l (frameBytes type kind tag st ind body ++ after) = some (.droppedFrame l .notRequest, after)) ∧
    (∀ (kind tag st ind : Byte) (body : List Byte), body.length ≤ 2052 → requestOfKind l kind tag body = none →
      decodeFrame l (frameBytes 0 kind tag st ind body ++ after) = some (.unknownRequestKind l kind tag, after))

/-- A carrier comes: the link is UP with nothing received, outstanding or to send; a room in LINK_DOWN becomes IDLE, a station
becomes IDLE with its settings, last completed segment and pending read kept. A carrier is lost: the link takes its reset state.
The supervisor link changes nothing else. A room enters LINK_DOWN, its take, where it records one, stopped as by TAKE_STOP; its
read-back ends with its page let go, and ROOM_LOST is raised. A station lets go of its page and loses its current segment and then
its shadow, each returned with no resume point, and STATION_LOST names them. A page is let go here while no room and no engine waits
for a buffer. The model's choice in it: the issue of flash work at the event's end (log entry 5), the cursor of a station or context
with nothing current (log entry 40), the take stopped before the read-back ends (log entry 65). -/
def Obligations.LinksComeAndGo : Prop :=
  (∀ (l : LinkId) (s : State), (s.link l).up = false →
    exec (.linkUp l) s = .next (
      match l with
      | .room r => (s.setLink l ⟨true, .hunt, none, []⟩).setRoom r
          { s.room r with state := if (s.room r).state = .linkDown then .idle else (s.room r).state }
      | .station k => (s.setLink l ⟨true, .hunt, none, []⟩).setStation k
          { s.station k with state := .idle, current := none, cursor := 0, stop := none, shadow := none, holding := none }
      | .supervisor => s.setLink l ⟨true, .hunt, none, []⟩)) ∧
  (∀ s : State, s.supervisorLink.up = true →
    exec (.linkDown .supervisor) s = .next (s.setLink .supervisor ⟨false, .hunt, none, []⟩).issue) ∧
  (∀ (r : RoomId) (s : State), ((s.readback r).holding ≠ none → s.noneWaits) →
    s.dropReadback r = (s.withoutHolding (s.readback r).holding).setReadback r
      { s.readback r with
        active := false
        take := none
        cursor := 0
        endPoint := none
        holding := none
        pendingRead := (s.readback r).pendingRead.map fun p => { p with fate := .discard }
        gone := false }) ∧
  (∀ (r : RoomId) (s : State), (s.link (.room r)).up = true →
    let u := s.setLink (.room r) ⟨false, .hunt, none, []⟩
    ((s.room r).state ≠ .recording →
      exec (.linkDown (.room r)) s = .next (State.settle s
        (((u.setRoom r { s.room r with state := .linkDown }).dropReadback r).raise (.roomLost r none)))) ∧
    ∀ id t, (s.room r).state = .recording → (s.room r).take = some id → s.findTake id = some t →
      exec (.linkDown (.room r)) s = .next (State.settle s
        (((u.stopRoom r .linkDown).dropReadback r).raise (.roomLost r (some (id, t.length)))))) ∧
  (∀ (r : RoomId) (s : State), (s.room r).take ≠ none →
    s.stopRoom r .idle = ((s.stopRoom r .linkDown).setRoom r { (s.stopRoom r .linkDown).room r with state := .idle }).blockBoundary r ∧
    ((s.stopRoom r .linkDown).room r).state = .linkDown ∧ ((s.stopRoom r .linkDown).room r).take = none) ∧
  (∀ (k : StationId) (s : State), (s.link (.station k)).up = true → ((s.station k).holding ≠ none → s.noneWaits) →
    exec (.linkDown (.station k)) s = .next (State.settle s
      ((((((s.withoutHolding (s.station k).holding).setLink (.station k) ⟨false, .hunt, none, []⟩).returnOpt (s.station k).current).returnOpt
        ((s.station k).shadow.map Shadow.seg)).setStation k
          { s.station k with
            state := .offline
            current := none
            cursor := 0
            stop := none
            shadow := none
            holding := none
            pendingRead := (s.station k).pendingRead.map fun _ => .discard }).raise
        (.stationLost k ((s.station k).current.toList ++ ((s.station k).shadow.map Shadow.seg).toList)))))

/-- A dropped frame leaves the outstanding request and every other state; an unknown kind is answered BAD_ARG at once; the first
message of a transmit queue is the one sent. -/
def Obligations.FramesAndMessages : Prop :=
  (∀ (l : LinkId) (why : FrameFault) (s : State), (s.link l).rx = .hunt → exec (.droppedFrame l why) s = .next s) ∧
  (∀ (l : LinkId) (kind tag : Byte) (s : State), (s.link l).up = true →
    exec (.unknownRequestKind l kind tag) s = .next (s.replied l kind.toNat tag .badArg)) ∧
  (∀ (l : LinkId) (m : Message) (rest : List Message) (s : State), (s.link l).txq = m :: rest →
    exec (.messageTransmitted l) s = .next (s.setLink l { s.link l with txq := rest }))

/-- The requests that do not reach their block, whatever the block would do: one that finds a request outstanding is answered
BUSY, whatever its body; one whose body breaks the field encoding BAD_ARG; outside READY a room's, a station's and the
supervisor's work commands, and in REBUILDING its other configuration commands but CONFIGURE_BANK and REBUILD, NOT_READY.
Nothing else changes. The model's choice in it: the numbering of request fields (log entry 12). -/
def Obligations.RequestsAnsweredAtTheLink : Prop :=
  ∀ (l : LinkId) (kind tag : Byte) (body : List Byte) (c : Instr) (s : State), requestOfKind l kind tag body = some c →
    ((s.link l).up = true → (s.link l).outstanding ≠ none → exec c s = .next (s.replied l kind.toNat tag .busy)) ∧
    (s.canTake l → c.bodyCoded = false → exec c s = .next (s.replied l kind.toNat tag .badArg)) ∧
    (s.canTake l → c.bodyCoded = true →
      (s.readiness ≠ .ready ∧ (l ≠ .supervisor ∨ 0x48 ≤ kind.toNat ∧ kind.toNat ≤ 0x4D) ∨
        s.readiness = .rebuilding ∧ l = .supervisor ∧ 0x42 ≤ kind.toNat ∧ kind.toNat ≤ 0x45) →
      exec c s = .next (s.replied l kind.toNat tag .notReady))

/-! ### Invariants of every step -/

/-- Every step keeps the canonical form of the two memories, the bounds of the alert list and the ranges of the device
settings. -/
def Obligations.StepKeepsForms : Prop :=
  ∀ s t : State, s.memoryForm → s.alertLimits → s.deviceRanges → step s = .next t →
    t.memoryForm ∧ t.alertLimits ∧ t.deviceRanges

/-- The reset state has those forms, and its rebuild store agrees with its readiness state. -/
def Obligations.ResetHasForms : Prop :=
  State.reset.memoryForm ∧ State.reset.alertLimits ∧ State.reset.deviceRanges ∧ State.reset.rebuildAgrees

/-- Readiness moves only as the spec gives: from NOT_READY by REBUILD, from REBUILDING to READY at the end of a spare read, and
back to NOT_READY by a device reset alone. -/
def Obligations.ReadinessMoves : Prop :=
  ∀ s t : State, s.rebuildAgrees → step s = .next t →
    t.rebuildAgrees ∧
    (s.readiness = .ready → t.readiness = .ready ∨ t.readiness = .notReady ∧ s.pending.head? = some .deviceReset) ∧
    (s.readiness = .notReady → t.readiness = .notReady ∨
      t.readiness = .rebuilding ∧ (∃ tag body, s.pending.head? = some (.rebuild tag body)) ∧ ∃ b w, s.windows[(b : BankId)] = some w) ∧
    (s.readiness = .rebuilding → t.readiness = .rebuilding ∨
      t.readiness = .ready ∧ (∃ b, (∃ p, s.pending.head? = some (.spareReadComplete b p)) ∨ s.pending.head? = some (.operationTimeout b)) ∨
      t.readiness = .notReady ∧ s.pending.head? = some .deviceReset)

/-- Outside a rebuild, every take record after a step is that of a take before it, with the same id, room, channels, overlap and
stamp and a length that has not fallen; or it is the new record of a TAKE_START, of length 0, with an id no record held. -/
def Obligations.TakesKeepTheirIdentity : Prop :=
  ∀ s t : State, s.rebuild = none → step s = .next t →
    ∀ b ∈ t.takes, (∃ a ∈ s.takes, b.follows a) ∨
      (∃ r tag body, s.pending.head? = some (.takeStart r tag body) ∧ b.room = r) ∧ b.length = 0 ∧ 1 ≤ b.id ∧ b.id ≤ 65535 ∧
        ∀ a ∈ s.takes, a.id ≠ b.id

/-! ### Device reset -/

/-- What DEVICE_RESET leaves, block by block, from every state. -/
def Obligations.DeviceResetValues : Prop :=
  ∀ s : State, ∃ t, exec .deviceReset s = .next t ∧
    t.roomLinks = Vector.replicate 6 ⟨false, .hunt, none, []⟩ ∧ t.stationLinks = Vector.replicate 8 ⟨false, .hunt, none, []⟩ ∧
    t.supervisorLink = ⟨false, .hunt, none, []⟩ ∧
    t.rooms = Vector.replicate 6
      { state := .linkDown, take := none, dropping := none, dropped := 0, rescueWaiting := false, filling := none, slot := 0,
        filledRun := none, call := none, callCounter := 0, cadence := false, carry := [], lateBlocks := 0, discardedBlocks := 0,
        lostMarks := 0, clip := false,
        active := ⟨.one, .pushed, .little, Vector.replicate 4 256, .regular, 300, 120, 60, 500, 256, true⟩,
        staged := ⟨Vector.replicate 4 none, none, none, none, none, none, none⟩ } ∧
    t.takes = [] ∧ t.lastId = 0 ∧ t.enqueueCounter = 0 ∧ t.queue = [] ∧
    t.stations = Vector.replicate 8
      { state := .offline, current := none, cursor := 0, stop := none, shadow := none, holding := none, pendingRead := none,
        lastCompleted := none, mask := 0b1111, factor := 256, order := .little, cueLead := 50, skipBack := 100, accepted := 0b111 } ∧
    t.readbacks = Vector.replicate 6
      { active := false, take := none, cursor := 0, endPoint := none, mask := 0b1111, holding := none, pendingRead := none,
        gone := false } ∧
    t.buffers = Vector.replicate 48 ⟨.free, none, 0, .none_, none⟩ ∧ t.dropWait = [] ∧ t.ram = s.ram ∧
    t.windows = Vector.replicate 4 none ∧ t.units = [] ∧ t.freeList = [] ∧ t.reclaimFifo = [] ∧ t.refreshFifo = [] ∧
    t.unitWait = [] ∧ t.rescues = [] ∧ t.engine = .idle ∧ t.writeSeq = 0 ∧
    t.banks = Vector.replicate 4 .resetting ∧ t.flashOps = [] ∧ t.requestNumber = 0 ∧ t.counters = ⟨0, 0, 0, 0, 0, 0⟩ ∧
    t.readiness = .notReady ∧ t.rebuild = none ∧ t.threshold = 3 ∧ t.lowWater = 64 ∧ t.alertMask = 0 ∧ t.settingsHold = false ∧
    t.alerts = [] ∧ t.alertOverflow = 0 ∧ t.nextAlert = 0 ∧ t.alertLine = false

/-- A device reset leaves every byte of flash as it was, but for the pages being programmed and the units being erased. -/
def Obligations.DeviceResetKeepsFlash : Prop :=
  ∀ (s : State) (a : Nat), s.memoryForm →
    (∀ (b : BankId) (op : FlashOp) (u p i : Nat), s.bank b = .busy op u p i →
      (op.kind.isProgram = true → ∀ c x, s.bankOf u = some (c, x) → a < flashAddr c x p ∨ flashAddr c x p + 2112 ≤ a) ∧
      (∀ v, op.kind = .erase v → ∀ c x, s.bankOf u = some (c, x) →
        a < flashAddr c x 0 ∨ flashAddr c x 0 + 64 * 2112 ≤ a)) →
    ∃ t, exec .deviceReset s = .next t ∧ Memory.read flashUnlisted t.flash a = Memory.read flashUnlisted s.flash a

/-! ### The hand-off queue (chapter 4) -/

/-- The hand-off queue holds the QUEUED segments' entries, each once, in the order of their keys: by class, RUSH before DAILY before
REGULAR, then by band, then by sequence. -/
def Obligations.QueueIsInKeyOrder : Prop :=
  let rank : Cls → Nat := fun c => match c with
    | .rush => 0
    | .daily => 1
    | .regular => 2
  ∀ s : State, s.queue.Perm s.entries ∧ s.queue.Pairwise fun a b =>
    rank a.cls < rank b.cls ∨ rank a.cls = rank b.cls ∧ (a.band < b.band ∨ a.band = b.band ∧ a.sequence ≤ b.sequence)

/-- An enqueue gives the segment its band and the counter's value, a full counter first renumbering the queue; a return ends the
assignment, counts, keeps or replaces the resume point and enqueues in band 0. Renumbering keeps the queue's order. SET_CLASS to RUSH
of a take in another class hands over the growing segment, in band 1, where it is open and has no work state. The model's choice in
it: the numbering of request fields (log entry 12), RUSH_READY and the issue of flash work at the event's end (log entries 5 and
6). -/
def Obligations.EnqueueAndReturn : Prop :=
  (∀ (s : State) (x : SegRef) (band : Nat) (g : Segment), s.segment x = some g → s.enqueueCounter < 4294967295 →
    (s.enqueue x band).segment x = some { g with work := some .queued, band := band, sequence := s.enqueueCounter } ∧
    (s.enqueue x band).enqueueCounter = s.enqueueCounter + 1) ∧
  (∀ (s : State) (x : SegRef) (p : Option Nat) (g : Segment), s.segment x = some g → s.enqueueCounter < 4294967295 →
    (s.returnSegment x p).segment x = some
      { g with
        work := some .queued
        band := 0
        sequence := s.enqueueCounter
        holder := none
        resume := if p.isSome then p else g.resume
        returns := min (g.returns + 1) 65535 }) ∧
  (∀ (s : State) (x : SegRef) (band : Nat) (p : Option Nat), s.enqueueCounter = 4294967295 → s.entries.length < 4294967295 →
    s.enqueue x band = s.renumberQueue.enqueue x band ∧ s.returnSegment x p = s.renumberQueue.returnSegment x p) ∧
  (∀ s : State, s.renumberQueue.enqueueCounter = s.entries.length ∧
    s.renumberQueue.queue.map QEntry.ref = s.queue.map QEntry.ref) ∧
  ∀ (tag : Byte) (body : List Byte) (id : Nat) (t : Take) (g : Segment) (s : State),
    let u := s.modTake id fun y => { y with cls := .rush }
    s.canServe .supervisor → parseSetClass body = some (id, .rush) → s.findTake id = some t → t.state ≠ .released → t.cls ≠ .rush →
    t.growing = some g →
    exec (.setClass tag body) s = .next (State.settle s
      ((if t.state = .recording ∧ g.last = none ∧ g.work = none then u.enqueue ⟨id, g.index⟩ 1 else u).answered .supervisor 0x48 tag
        .ok {} []))

/-- What a claim receives: nothing exactly where no entry is eligible; else an eligible entry of the most urgent class
eligible, which is the successor of the last completed segment where that is eligible in that class, and else the first. -/
def Obligations.ClaimChoice : Prop :=
  ∀ (s : State) (f : BitVec 3) (last : Option SegRef),
    (s.chooseEntry f last = none ↔ ∀ d ∈ s.entries, f.getLsbD (classRank d.cls) = false) ∧
    ∀ e, s.chooseEntry f last = some e →
      e ∈ s.entries ∧ f.getLsbD (classRank e.cls) = true ∧
      (∀ d ∈ s.entries, f.getLsbD (classRank d.cls) = true → classRank e.cls ≤ classRank d.cls) ∧
      ((∃ x, last = some x ∧ e.ref = ⟨x.take, x.index + 1⟩) ∨
        (∀ d ∈ s.entries, f.getLsbD (classRank d.cls) = true → d.before e = false) ∧
          ∀ x, last = some x → ∀ d ∈ s.entries, f.getLsbD (classRank d.cls) = true → d.cls = e.cls →
            d.ref ≠ ⟨x.take, x.index + 1⟩)

/-! ### Stations (chapters 3 and 5) -/

/-- CLAIM with a class set that names no class is answered BAD_ARG. CLAIM of an IDLE station gives it the chosen segment, PAUSED at
its start point; with no eligible entry it is answered EMPTY. The model's choice in it: the numbering of request fields (log entry
12), the numbering of answer and notice fields (log entry 13). -/
def Obligations.ClaimGivesASegment : Prop :=
  ∀ (k : StationId) (tag : Byte) (body : List Byte) (own : Option Nat) (s : State),
    s.canServe (.station k) → parseClaim body = some own →
    (own = some 0 → exec (.claim k tag body) s = .next (s.answered (.station k) 0x20 tag .badArg {} [])) ∧
    (own ≠ some 0 → (s.station k).state = .idle →
      let pick := s.chooseEntry (claimFilter (s.station k).accepted own) (s.station k).lastCompleted
      (pick = none → exec (.claim k tag body) s = .next (s.answered (.station k) 0x20 tag .empty {} [])) ∧
      ∀ (e : QEntry) (t : Take) (g : Segment), pick = some e → s.findTake e.ref.take = some t → t.state ≠ .released →
        t.segment e.ref.index = some g →
        exec (.claim k tag body) s = .next
          (((s.modSegment e.ref fun y => { y with work := some .assigned, holder := some (k, .current) }).setStation k
            { s.station k with
              state := .paused
              current := some e.ref
              cursor := startPoint t g
              stop := none
              shadow := none
              holding := none }).answered (.station k) 0x20 tag .ok { live := segmentOpen t g }
            (fieldBytes (claimItems t g (startPoint t g)))))

/-- READ of a PLAYING station at a block inside the window: the block is served from the page held, or from a resident page,
which the station then holds with a pin, having let go of the page it held before; the cursor goes one block on. A page is let go here
while no room and no engine waits for a buffer. The model's choice in it: the issue of flash work at the event's end (log entry 5). -/
def Obligations.ReadServesTheBlock : Prop :=
  ∀ (k : StationId) (tag : Byte) (body : List Byte) (x : SegRef) (t : Take) (g : Segment) (b : BufId) (s : State),
    let st := s.station k
    let tp := takePage t.channels st.cursor
    let formed := fun (u : State) => u.formBlock b t.channels (blockInPage t.channels st.cursor) st.mask st.factor
    let served := fun (u v : State) => (v.answered (.station k) 0x21 tag .ok
      { damaged := (formed u).damaged, live := segmentOpen t g } (servedBody st.cursor st.order (formed u))).issue
    s.canServe (.station k) → parseNone body = some () → st.state = .playing → st.current = some x →
    s.findTake x.take = some t → t.state ≠ .released → t.segment x.index = some g →
    st.stop ≠ some st.cursor → st.cursor < (windowOf t g).atEnd →
    ((∃ owned, st.holding = some ⟨owned, b, t.id, tp⟩) →
      exec (.read k tag body) s = .next (served s (s.setStation k { st with cursor := st.cursor + 1 }))) ∧
    ((∀ h, st.holding = some h → h.take = t.id → h.page ≠ tp) → (st.holding ≠ none → s.noneWaits) →
      let u := s.withoutHolding st.holding
      u.resident t.id tp = some b →
      exec (.read k tag body) s = .next (served u
        ((u.setBuffer b { u.buffer b with pins := (u.buffer b).pins + 1 }).setStation k
          { st with cursor := st.cursor + 1, holding := some ⟨false, b, t.id, tp⟩ })))

/-- The READs of a PLAYING station that are not served at once. At the stop point the station pauses and lets go of its page; at the
at-end position the answer is AT_EDGE where the segment is open and END where it is closed. Of a page neither held nor resident, the
page held before is let go, a flash read is requested in class 3 into a FREE buffer and the READ is not yet answered; it is answered BUSY
while a read is pending, and WAIT_STORE where too few buffers are FREE. A page is let go here while no room and no engine waits for a
buffer. The model's choice in it: the numbering of answer and notice fields (log entry 13), the buffer granted (log entry 7), the issue
of flash work at the event's end (log entry 5). -/
def Obligations.ReadWithoutABlock : Prop :=
  (∀ (k : StationId) (tag : Byte) (body : List Byte) (s : State),
    let st := s.station k
    s.canServe (.station k) → parseNone body = some () → st.state = .playing →
    (st.stop = some st.cursor → (st.holding ≠ none → s.noneWaits) →
      exec (.read k tag body) s = .next
        ((((s.withoutHolding st.holding).setStation k { st with stop := none, state := .paused, holding := none }).answered (.station k)
          0x21 tag .stopped {} (fieldBytes [fPos 1 st.cursor])).issue)) ∧
    ∀ (x : SegRef) (t : Take) (g : Segment), st.current = some x → s.findTake x.take = some t → t.state ≠ .released →
      t.segment x.index = some g → st.stop ≠ some st.cursor → (windowOf t g).atEnd ≤ st.cursor →
      exec (.read k tag body) s = .next
        ((s.answered (.station k) 0x21 tag (if segmentOpen t g then .atEdge else .end_) {}
          (fieldBytes [fPos 1 (windowOf t g).atEnd])).issue)) ∧
  ∀ (k : StationId) (tag : Byte) (body : List Byte) (x : SegRef) (t : Take) (g : Segment) (s : State),
    let st := s.station k
    let tp := takePage t.channels st.cursor
    let v := s.withoutHolding st.holding
    let u := v.setStation k { st with holding := none }
    s.canServe (.station k) → parseNone body = some () → st.state = .playing → st.current = some x →
    s.findTake x.take = some t → t.state ≠ .released → t.segment x.index = some g →
    st.stop ≠ some st.cursor → st.cursor < (windowOf t g).atEnd →
    (∀ h, st.holding = some h → h.take = t.id → h.page ≠ tp) → (st.holding ≠ none → s.noneWaits) → v.resident t.id tp = none →
    (st.pendingRead ≠ none →
      exec (.read k tag body) s = .next
        ((u.answered (.station k) 0x21 tag .busy {} (fieldBytes [fPos 1 st.cursor])).issue)) ∧
    (st.pendingRead = none → v.freeBuffers ≤ s.nrec + 4 →
      exec (.read k tag body) s = .next
        ((u.answered (.station k) 0x21 tag .waitStore {} (fieldBytes [fPos 1 st.cursor])).issue)) ∧
    ∀ (b : BufId) (e : UnitEntry), st.pendingRead = none → s.nrec + 4 < v.freeBuffers → v.firstFree = some b →
      s.chainUnit t.id (tp / 64) = some e → s.requestNumber ≤ 4294967295 →
      exec (.read k tag body) s = .next
        (({ ((v.setBuffer b ⟨.readWait, some (t.id, tp), 0, .reader (.station k), none⟩).modUnit e.number fun y =>
              { y with inFlight := y.inFlight + 1 }).setStation k { st with holding := none, pendingRead := some .none_ } with
            flashOps := s.flashOps ++ [⟨3, s.requestNumber, .pageRead e.number (tp % 64) b (.reader (.station k))⟩]
            requestNumber := s.requestNumber + 1 } : State).taken (.station k) 0x21 tag).issue

/-- PAUSE of a PLAYING station, which lets go of its page, PAUSE of a PAUSED one, and RESUME, with its skip-back held at the lead-in.
A page is let go here while no room and no engine waits for a buffer. The model's choice in it: the numbering of answer and notice
fields (log entry 13), the issue of flash work at the event's end (log entry 5). -/
def Obligations.PauseAndResume : Prop :=
  ∀ (k : StationId) (tag : Byte) (body : List Byte) (s : State),
    let st := s.station k
    s.canServe (.station k) → parseNone body = some () →
    (st.state = .playing → (st.holding ≠ none → s.noneWaits) →
      exec (.pause k tag body) s = .next
        ((((s.withoutHolding st.holding).setStation k { st with state := .paused, holding := none }).answered (.station k) 0x22 tag .ok {}
          (fieldBytes [fPos 1 st.cursor])).issue)) ∧
    (st.state = .paused →
      exec (.pause k tag body) s = .next (s.answered (.station k) 0x22 tag .ok {} (fieldBytes [fPos 1 st.cursor]))) ∧
    ∀ (x : SegRef) (t : Take) (g : Segment), st.state = .paused → st.current = some x → s.findTake x.take = some t →
      t.state ≠ .released → t.segment x.index = some g →
      let c := max (windowOf t g).lo (st.cursor - csToBlocks st.skipBack)
      exec (.resume k tag body) s = .next
        ((s.setStation k { st with state := .playing, cursor := c }).answered (.station k) 0x23 tag .ok {}
          (fieldBytes [fPos 1 c]))

/-- SEEK sets the cursor to the cue's target held to the window, in PAUSED and PLAYING alike, and changes nothing else; a mark
search that finds no mark changes nothing. The model's choice in it: the numbering of request fields (log entry 12), the
numbering of answer and notice fields (log entry 13). -/
def Obligations.SeekSetsTheCursor : Prop :=
  ∀ (k : StationId) (tag : Byte) (body : List Byte) (a : SeekArgs) (x : SegRef) (t : Take) (g : Segment) (s : State),
    let st := s.station k
    s.canServe (.station k) → parseSeek body = some a → (st.state = .paused ∨ st.state = .playing) → st.current = some x →
    s.findTake x.take = some t → t.state ≠ .released → t.segment x.index = some g →
    (cueBase t g st.cursor a.form = none →
      exec (.seek k tag body) s = .next (s.answered (.station k) 0x24 tag .unknownId {} [])) ∧
    ∀ base, cueBase t g st.cursor a.form = some base →
      let p := cueTarget base a.offset st.cueLead a.form
      let lo := (windowOf t g).lo
      let hi := (windowOf t g).atEnd
      let c := if p < lo then lo else if (hi : Int) < p then hi else p.toNat
      exec (.seek k tag body) s = .next
        ((s.setStation k { st with cursor := c }).answered (.station k) 0x24 tag .ok
          { clamped := (clampedCount a.form).isSome, clampedLow := decide (p < lo), clampedHigh := decide (lo ≤ p ∧ (hi : Int) < p) }
          (fieldBytes (fPos 1 c :: fOpt 2 1 (clampedCount a.form))))

/-- SET_PLAYBACK enters the settings it carries, each held to its range; SET_STOP clears the stop point or sets it within the
window. The model's choice in it: the values a clamped answer gives (log entry 46), the numbering of request fields (log entry 12), the
numbering of answer and notice fields (log entry 13). -/
def Obligations.SetPlaybackAndStop : Prop :=
  ∀ (k : StationId) (tag : Byte) (body : List Byte) (s : State),
    let st := s.station k
    s.canServe (.station k) →
    (∀ a, parseSetPlayback body = some a → st.state ≠ .offline → ∃ u,
      exec (.setPlayback k tag body) s = .next (u.answered (.station k) 0x25 tag .ok
        { clamped := above 4095 a.factor || above 1000 a.cueLead || above 1000 a.skipBack }
        (if above 4095 a.factor || above 1000 a.cueLead || above 1000 a.skipBack then
          fieldBytes (fOpt 2 2 (a.factor.map (min 4095)) ++ fOpt 4 2 (a.cueLead.map (min 1000)) ++
            fOpt 5 2 (a.skipBack.map (min 1000)))
        else [])) ∧
      u = s.setStation k
        { st with
          mask := (a.mask.map (BitVec.ofNat 4)).getD st.mask
          factor := (a.factor.map (min 4095)).getD st.factor
          order := a.order.getD st.order
          cueLead := (a.cueLead.map (min 1000)).getD st.cueLead
          skipBack := (a.skipBack.map (min 1000)).getD st.skipBack }) ∧
    (parseSetStop body = some none → (st.state = .paused ∨ st.state = .playing) →
      exec (.setStop k tag body) s = .next
        ((s.setStation k { st with stop := none }).answered (.station k) 0x26 tag .ok {} [])) ∧
    ∀ (cs : Nat) (x : SegRef) (t : Take) (g : Segment), parseSetStop body = some (some cs) →
      (st.state = .paused ∨ st.state = .playing) → st.current = some x → s.findTake x.take = some t →
      t.state ≠ .released → t.segment x.index = some g → (windowOf t g).lo ≤ (windowOf t g).atEnd →
      let p := min (max (csToBlocks cs) (windowOf t g).lo) (windowOf t g).atEnd
      exec (.setStop k tag body) s = .next
        ((s.setStation k { st with stop := some p }).answered (.station k) 0x26 tag .ok
          { clampedLow := decide (csToBlocks cs < (windowOf t g).lo), clampedHigh := decide ((windowOf t g).atEnd < csToBlocks cs) }
          (fieldBytes [fPos 1 p]))

/-- DONE of the current segment, closed, makes it TYPED and the station's last completed segment, and the station lets go of its
page. With no shadow the station becomes IDLE; a shadow is restored as current, PAUSED, its cursor held to its window. The model's
choice in it: the numbering of request fields (log entry 12), the numbering of answer and notice fields (log entry 13), their flags
(log entry 14), the context restored as an entry (log entry 55), the issue of flash work at the event's end (log entry 5), the cursor of an
IDLE station (log entry 40). -/
def Obligations.DoneTypesTheSegment : Prop :=
  ∀ (k : StationId) (tag : Byte) (body : List Byte) (x : SegRef) (t : Take) (g : Segment) (s : State),
    let st := s.station k
    let v := (s.makeTyped x).withoutHolding st.holding
    s.canServe (.station k) → parseSegment body = some (x.take, x.index) → (st.state = .paused ∨ st.state = .playing) →
    st.current = some x → s.findTake x.take = some t → t.state ≠ .released → t.segment x.index = some g →
    segmentOpen t g = false → (st.holding ≠ none → s.noneWaits) →
    (st.shadow = none →
      exec (.done k tag body) s = .next
        (((v.setStation k
          { st with state := .idle, current := none, cursor := 0, stop := none, holding := none, lastCompleted := some x }).answered
          (.station k) 0x27 tag .ok {} []).issue)) ∧
    ∀ (sh : Shadow) (t' : Take) (g' : Segment), st.shadow = some sh → (s.makeTyped x).findTake sh.seg.take = some t' →
      t'.state ≠ .released → t'.segment sh.seg.index = some g' →
      let c := min (max sh.cursor (windowOf t' g').lo) (windowOf t' g').atEnd
      exec (.done k tag body) s = .next (State.settle s
        ((((v.modSegment sh.seg fun y => { y with holder := some (k, .current) }).setStation k
          { st with
            state := .paused
            current := some sh.seg
            cursor := c
            stop := none
            shadow := none
            holding := none
            lastCompleted := some x }).answered (.station k) 0x27 tag .ok {}
          (fieldBytes [fEntry 1 (restoredItems ⟨sh.seg, c, sh.wasPlaying⟩)]))))

/-- RELEASE of the current segment: the station lets go of its page, and the segment returns with the typed-to position held between
its first block and its at-end position as its resume point. With no shadow the station becomes IDLE; a shadow is restored as
current, PAUSED, its cursor held to its window. The model's choice in it: the numbering of request fields (log entry 12), the
numbering of answer and notice fields (log entry 13), their flags (log entry 14), the context restored as an entry (log entry 55), the
issue of flash work at the event's end (log entry 5), the cursor of an IDLE station (log entry 40). -/
def Obligations.ReleaseReturnsTheSegment : Prop :=
  ∀ (k : StationId) (tag : Byte) (body : List Byte) (a : ReleaseArgs) (t : Take) (g : Segment) (s : State),
    let st := s.station k
    let x : SegRef := ⟨a.take, a.index⟩
    s.canServe (.station k) → parseRelease body = some a → (st.state = .paused ∨ st.state = .playing) →
    st.current = some x → s.findTake a.take = some t → t.state ≠ .released → t.segment a.index = some g →
    (st.holding ≠ none → s.noneWaits) → g.first ≤ (windowOf t g).atEnd →
    let p := a.typedTo.map fun cs => min (max (csToBlocks cs) g.first) (windowOf t g).atEnd
    let clamped := a.typedTo.any fun cs => decide (csToBlocks cs < g.first ∨ (windowOf t g).atEnd < csToBlocks cs)
    let v := (s.withoutHolding st.holding).returnSegment x p
    (st.shadow = none →
      exec (.release k tag body) s = .next (State.settle s
        ((v.setStation k { st with state := .idle, current := none, cursor := 0, stop := none, holding := none }).answered
          (.station k) 0x28 tag .ok { clamped := clamped } (fieldBytes (if clamped then fPosOpt 2 p else []))))) ∧
    ∀ (sh : Shadow) (t' : Take) (g' : Segment), st.shadow = some sh → v.findTake sh.seg.take = some t' →
      t'.state ≠ .released → t'.segment sh.seg.index = some g' →
      let c := min (max sh.cursor (windowOf t' g').lo) (windowOf t' g').atEnd
      exec (.release k tag body) s = .next (State.settle s
        (((v.modSegment sh.seg fun y => { y with holder := some (k, .current) }).setStation k
          { st with
            state := .paused
            current := some sh.seg
            cursor := c
            stop := none
            shadow := none
            holding := none }).answered (.station k) 0x28 tag .ok { clamped := clamped }
          (fieldBytes (fEntry 1 (restoredItems ⟨sh.seg, c, sh.wasPlaying⟩) :: if clamped then fPosOpt 2 p else []))))

/-- The station requests refused for the station's state: in IDLE all but CLAIM, SET_PLAYBACK and STATUS; CLAIM and READ in PAUSED;
CLAIM and RESUME in PLAYING; DONE and RELEASE of a segment that is not the current one; DONE of a segment that is open; and every one in
OFFLINE, which in a station whose link is UP is a state no run reaches. Nothing else changes. A CLAIM with a class set that names no class
is not among them: it is BAD_ARG in every state. The model's choice in it: OFFLINE with the link UP (log entry 52), the numbering of
request fields (log entry 12). -/
def Obligations.StationRefusals : Prop :=
  ∀ (k : StationId) (kind tag : Byte) (body : List Byte) (c : Instr) (s : State),
    let st := s.station k
    requestOfKind (.station k) kind tag body = some c → c.bodyCoded = true → s.canServe (.station k) →
    (kind = 0x20 → parseClaim body ≠ some (some 0)) →
    (st.state = .offline ∨
      st.state = .idle ∧ kind ∉ [0x20, 0x25, 0x29] ∨
      st.state = .paused ∧ kind ∈ [0x20, 0x21] ∨
      st.state = .playing ∧ kind ∈ [0x20, 0x23] ∨
      (kind = 0x27 ∧ ∀ x, parseSegment body = some x → st.current ≠ some ⟨x.1, x.2⟩) ∨
      (kind = 0x27 ∧ ∃ x t g, parseSegment body = some x ∧ s.findTake x.1 = some t ∧ t.segment x.2 = some g ∧ segmentOpen t g = true) ∨
      (kind = 0x28 ∧ ∀ a, parseRelease body = some a → st.current ≠ some ⟨a.take, a.index⟩)) →
    exec c s = .next (s.answered (.station k) kind.toNat tag .refused {} [])

/-- A pin removed from a buffer: the buffer stays while it is not CACHED or other pins hold it; a CACHED buffer with no pin left
becomes FREE where no room and no engine waits for one, and where a room waits it becomes that room's FILLING buffer. -/
def Obligations.LastPinFreesABuffer : Prop :=
  ∀ (s : State) (b : BufId),
    let x := s.buffer b
    (x.state ≠ .cached ∨ 1 < x.pins → s.unpin b = s.setBuffer b { x with pins := x.pins - 1 }) ∧
    (x.state = .cached → x.pins = 1 → s.dropWait = [] → (∀ z w, s.engine.work = some (z, w) → w.dest = none ∨ w.buf ≠ none) →
      s.unpin b = s.setBuffer b ⟨.free, none, 0, .none_, none⟩) ∧
    ∀ (r : RoomId) (rest : List RoomId) (id : Nat) (t : Take), x.state = .cached → x.pins = 1 → s.dropWait = r :: rest →
      (s.room r).take = some id → s.findTake id = some t → (s.room r).rescueWaiting = false → (s.room r).dropped = 0 →
      s.unpin b =
        (({ s with dropWait := rest }).setBuffer b ⟨.filling, some (t.id, takePage t.channels t.length), 0, .room r, none⟩).setRoom r
          { s.room r with filling := some b, slot := 0, dropping := none, dropped := 0 }

/-! ### Read-back (chapter 6) -/

/-- READBACK_START of an IDLE context starts at the base and offset held to the take, with the end point of its end form; it is refused
while ACTIVE, and a mark search that finds no mark starts nothing. The model's choice in it: gone kept where a mark search finds no mark
(log entry 47), a mark kind, count or duration that its form does not use (log entry 56), no clamp indication for the end point (log entry
64), the numbering of request fields (log entry 12), the numbering of answer and notice fields (log entry 13). -/
def Obligations.ReadbackStarts : Prop :=
  ∀ (r : RoomId) (tag : Byte) (body : List Byte) (a : ReadbackStartArgs) (t : Take) (s : State),
    let x := s.readback r
    s.canServe (.room r) → parseReadbackStart body = some a →
    (a.take = none ∧ (s.room r).state = .recording ∧ (∃ id, (s.room r).take = some id ∧ s.findTake id = some t) ∨
      (∃ id, a.take = some id ∧ s.findTake id = some t ∧ t.state ≠ .released ∧ t.room = r)) →
    (x.active = true → exec (.readbackStart r tag body) s = .next (s.answered (.room r) 0x14 tag .refused {} [])) ∧
    (x.active = false → startBase t a.start = none →
      exec (.readbackStart r tag body) s = .next (s.answered (.room r) 0x14 tag .unknownId {} [])) ∧
    ∀ base, x.active = false → startBase t a.start = some base →
      let p := (base : Int) + offsetBlocks a.offset
      let c := if p < 0 then 0 else if (t.length : Int) < p then t.length else p.toNat
      let e := endPointOf t c a.endForm
      exec (.readbackStart r tag body) s = .next
        ((s.setReadback r
          { x with
            active := true
            take := some t.id
            cursor := c
            endPoint := e
            mask := (a.mask.map (BitVec.ofNat 4)).getD (BitVec.ofNat 4 (2 ^ t.channels.count - 1))
            holding := none
            gone := false }).answered (.room r) 0x14 tag .ok
          { clamped := (startCount a.start).isSome || (usedDuration a.endForm).isSome
            clampedLow := decide (p < 0)
            clampedHigh := decide ((t.length : Int) < p)
            live := t.state == .recording }
          (fieldBytes ([fNum 1 2 t.id, fNum 2 1 t.channels.count, fPos 3 c] ++ fPosOpt 4 e ++ [fPos 5 t.length] ++
            fOpt 6 1 (startCount a.start) ++ fOpt 7 4 (usedDuration a.endForm))))

/-- READBACK_READ of an ACTIVE context inside its take: the block of the page held is served, or of a resident page, which is then held
with a pin; a page neither held nor resident is requested in class 1 and the READ answered BUSY at once, or WAIT_STORE where too few
buffers are FREE; while that read, or one to be discarded, is pending the READ is answered BUSY. The page of another read-back position
is let go before, here while no room and no engine waits for a buffer. The model's choice in it: the numbering of answer and notice fields
(log entry 13), the buffer granted (log entry 7), the issue of flash work at the event's end (log entry 5). -/
def Obligations.ReadbackReads : Prop :=
  ∀ (r : RoomId) (tag : Byte) (body : List Byte) (id : Nat) (t : Take) (s : State),
    let x := s.readback r
    let tp := takePage t.channels x.cursor
    let answered := fun (u : State) (st : Status) =>
      (u.answered (.room r) 0x15 tag st {} (fieldBytes [fPos 1 x.cursor])).issue
    let served := fun (u : State) (b : BufId) (h : Holding) =>
      let y := u.formBlock b t.channels (blockInPage t.channels x.cursor) x.mask (s.room r).active.readbackFactor
      ((u.setReadback r { x with cursor := x.cursor + 1, holding := some h }).answered (.room r) 0x15 tag .ok
        { damaged := y.damaged, live := t.state == .recording } (servedBody x.cursor (s.room r).active.order y)).issue
    s.canServe (.room r) → parseNone body = some () → x.active = true → x.take = some id → s.findTake id = some t →
    x.endPoint ≠ some x.cursor → x.cursor < t.length →
    (∀ p, x.pendingRead = some p → p.fate = .none_ → exec (.readbackRead r tag body) s = .next (answered s .busy)) ∧
    ((∀ p, x.pendingRead = some p → p.fate ≠ .none_) →
      (∀ b owned, x.holding = some ⟨owned, b, t.id, tp⟩ →
        exec (.readbackRead r tag body) s = .next (served s b ⟨owned, b, t.id, tp⟩)) ∧
      ((∀ h, x.holding = some h → h.take = t.id → h.page ≠ tp) → (x.holding ≠ none → s.noneWaits) →
        let v := s.withoutHolding x.holding
        let u := v.setReadback r { x with holding := none }
        (∀ b, v.resident t.id tp = some b → exec (.readbackRead r tag body) s = .next
          (served (v.setBuffer b { v.buffer b with pins := (v.buffer b).pins + 1 }) b ⟨false, b, t.id, tp⟩)) ∧
        (v.resident t.id tp = none →
          (x.pendingRead ≠ none → exec (.readbackRead r tag body) s = .next (answered u .busy)) ∧
          (x.pendingRead = none → v.freeBuffers ≤ s.nrec → exec (.readbackRead r tag body) s = .next (answered u .waitStore)) ∧
          ∀ (b : BufId) (e : UnitEntry), x.pendingRead = none → s.nrec < v.freeBuffers → v.firstFree = some b →
            s.chainUnit t.id (tp / 64) = some e → s.requestNumber ≤ 4294967295 →
            exec (.readbackRead r tag body) s = .next (answered
              { ((v.setBuffer b ⟨.readWait, some (t.id, tp), 0, .reader (.readback r), none⟩).modUnit e.number fun y =>
                    { y with inFlight := y.inFlight + 1 }).setReadback r { x with holding := none, pendingRead := some ⟨t.id, tp, .none_⟩ }
                with
                flashOps := s.flashOps ++ [⟨1, s.requestNumber, .pageRead e.number (tp % 64) b (.reader (.readback r))⟩]
                requestNumber := s.requestNumber + 1 } .busy))))

/-- How a read-back ends, with its page let go: STOPPED at its end point; END at the length of a take no longer RECORDING, the end
point kept; GONE once after its take was released; and by READBACK_STOP. AT_EDGE ends nothing. A page is let go here while no room
and no engine waits for a buffer. The model's choice in it: the numbering of answer and notice fields (log entry 13), the issue of
flash work at the event's end (log entry 5). -/
def Obligations.ReadbackEnds : Prop :=
  ∀ (r : RoomId) (tag : Byte) (body : List Byte) (s : State),
    let x := s.readback r
    let v := s.withoutHolding x.holding
    let rest : Readback := { x with active := false, take := none, holding := none }
    s.canServe (.room r) → parseNone body = some () → (x.holding ≠ none → s.noneWaits) →
    (x.active = true → x.endPoint = some x.cursor →
      exec (.readbackRead r tag body) s = .next
        (((v.setReadback r { rest with endPoint := none }).answered (.room r) 0x15 tag .stopped {}
          (fieldBytes [fPos 1 x.cursor])).issue)) ∧
    (∀ id t, x.active = true → x.endPoint ≠ some x.cursor → x.take = some id → s.findTake id = some t → t.length ≤ x.cursor →
      exec (.readbackRead r tag body) s = .next
        (if t.state = .recording then (s.answered (.room r) 0x15 tag .atEdge {} (fieldBytes [fPos 1 t.length])).issue
        else ((v.setReadback r rest).answered (.room r) 0x15 tag .end_ {} (fieldBytes [fPos 1 t.length])).issue)) ∧
    (x.active = false →
      exec (.readbackRead r tag body) s = .next
        (if x.gone then (s.setReadback r { x with gone := false }).answered (.room r) 0x15 tag .gone {} []
        else s.answered (.room r) 0x15 tag .refused {} [])) ∧
    (x.active = true →
      exec (.readbackStop r tag body) s = .next
        (((v.setReadback r
          { rest with endPoint := none, pendingRead := x.pendingRead.map fun p => { p with fate := .discard } }).answered (.room r)
          0x16 tag .ok {} (fieldBytes [fPos 1 x.cursor])).issue)) ∧
    (x.active = false →
      exec (.readbackStop r tag body) s = .next
        ((s.setReadback r { x with gone := false }).answered (.room r) 0x16 tag .ok {} []))

/-! ### Alerts (chapter 11) -/

/-- ALERT is asserted exactly while the list holds a record whose kind is not in the mask; raising an alert into a full list leaves
it as it was, the first alert raised after a device reset asserts it, and a device reset releases it. -/
def Obligations.AlertLine : Prop :=
  (∀ s : State, s.alertLine = true ↔ ∃ a ∈ s.alerts, s.alertMask.getLsbD a.alert.kind.code = false) ∧
  (∀ (s : State) (a : Alert), s.alerts.length = 32 → (s.raise a).alertLine = s.alertLine) ∧
  State.reset.alertLine = false ∧ (∀ a : Alert, (State.reset.raise a).alertLine = true) ∧
  ∀ s : State, ∃ t, exec .deviceReset s = .next t ∧ t.alertLine = false

/-- An alert raised takes the next number; it is appended where fewer than 32 records are listed, and dropped and counted
otherwise. -/
def Obligations.RaisedAlerts : Prop :=
  ∀ (s : State) (a : Alert),
    s.raise a = { s with
      alerts := if s.alerts.length < 32 then s.alerts ++ [⟨s.nextAlert, a⟩] else s.alerts
      alertOverflow := if s.alerts.length < 32 then s.alertOverflow else min (s.alertOverflow + 1) 65535
      nextAlert := (s.nextAlert + 1) % 4294967296 }

/-- READ_ALERTS removes and gives the oldest records, up to its count held to 1 to 8, with the number left, the overflow count
as it stood and the line after the removal; the overflow count becomes 0. An empty list is answered EMPTY. The model's choice in
it: EMPTY without CLAMPED where the count was out of range too (log entry 39), the numbering of request fields (log entry 12), the
numbering of answer and notice fields (log entry 13), the line as a flag field (log entry 14). -/
def Obligations.ReadAlerts : Prop :=
  ∀ (tag : Byte) (body : List Byte) (count : Nat) (s : State), s.canTake .supervisor → parseByte body = some count →
    let n := if count < 1 then 1 else if 8 < count then 8 else count
    let u : State := { s with alerts := s.alerts.drop n, alertOverflow := 0 }
    exec (.readAlerts tag body) s = .next
      (if s.alerts = [] then
        ({ s with alertOverflow := 0 } : State).answered .supervisor 0x50 tag .empty {} (fieldBytes [fNum 3 2 s.alertOverflow])
      else u.answered .supervisor 0x50 tag .ok { clamped := n != count }
        (fieldBytes (((s.alerts.take n).map fun a => fEntry 1 a.fields) ++ [fNum 2 1 (s.alerts.drop n).length, fNum 3 2 s.alertOverflow] ++
          fFlag 4 u.alertLine ++ if n = count then [] else [fNum 5 1 n])))

/-! ### Configuration (chapter 11; R29 to R31, R136) -/

/-- CONFIGURE_BANK: a bank number above 3, and a window that is not legal or overlaps another bank's, are answered BAD_ARG in every
readiness state; a request that passes is refused outside NOT_READY; with no window the bank's window goes with its units; and a legal
window brings its units in RECLAIM, the window the bank had, if any, going first with its units. The model's choice in it: BAD_ARG ahead
of REFUSED (log entry 49), the numbering of request fields (log entry 12), the numbering of answer and notice fields (log entry 13). -/
def Obligations.ConfigureBank : Prop :=
  (∀ (tag : Byte) (body : List Byte) (n : Nat) (w : Option (Nat × Nat)) (s : State),
    s.canTake .supervisor → parseConfigureBank body = some ⟨n, w⟩ → 3 < n →
    exec (.configureBank tag body) s = .next (s.answered .supervisor 0x40 tag .badArg {} [])) ∧
  ∀ (tag : Byte) (body : List Byte) (b : BankId) (w : Option (Nat × Nat)) (s : State),
    s.canTake .supervisor → parseConfigureBank body = some ⟨b.val, w⟩ →
    let fits := ∀ v, w = some v → (v.2 = 2048 ∨ v.2 = 4096 ∨ v.2 = 8192) ∧ v.1 + v.2 ≤ 32768 ∧
      ∀ (c : BankId) (z : Window), c ≠ b → s.windows[c] = some z → z.base + z.size ≤ v.1 ∨ v.1 + v.2 ≤ z.base
    let stays := fun (n : Nat) => s.windows[b].all fun old => decide (n < old.base ∨ old.base + old.size ≤ n)
    (¬ fits →
      exec (.configureBank tag body) s = .next (s.answered .supervisor 0x40 tag .badArg {} [])) ∧
    (fits → s.readiness ≠ .notReady →
      exec (.configureBank tag body) s = .next (s.answered .supervisor 0x40 tag .refused {} [])) ∧
    (fits → s.readiness = .notReady → w = none → ∃ u : State,
      exec (.configureBank tag body) s = .next
        (u.answered .supervisor 0x40 tag .ok {} (fieldBytes [fNum 3 2 u.unitsInside])) ∧
      u = { s with
        windows := s.windows.set b none
        units := s.units.filter fun y => stays y.number
        reclaimFifo := s.reclaimFifo.filter stays }) ∧
    (fits → s.readiness = .notReady → ∀ v, w = some v → ∃ u : State,
      exec (.configureBank tag body) s = .next
        (u.answered .supervisor 0x40 tag .ok {} (fieldBytes [fNum 1 2 v.1, fNum 2 2 v.2, fNum 3 2 u.unitsInside])) ∧
      u = { s with
        windows := s.windows.set b (some ⟨v.1, v.2⟩)
        units := (s.units.filter fun y => stays y.number && decide (y.number < v.1)) ++
          ((List.range v.2).map fun i => ⟨v.1 + i, .reclaim, none, none, none, none, 0, none, false, 0⟩) ++
          s.units.filter fun y => stays y.number && decide (v.1 + v.2 ≤ y.number)
        reclaimFifo := s.reclaimFifo.filter stays ++ (List.range v.2).map fun i => v.1 + i })

/-- REBUILD in NOT_READY with a window: REBUILDING, the scan of the first unit of each window begun with a spare read of its
page 0 in class 6, and the answer gives the number of units inside all windows. In every other case it is refused. The model's
choice in it: the order in which the banks' scans begin (log entry 51), the numbering of answer and notice fields (log entry 13), the
issue of flash work at the event's end (log entry 5). -/
def Obligations.RebuildBegins : Prop :=
  ∀ (tag : Byte) (body : List Byte) (s : State), s.canTake .supervisor → parseNone body = some () →
    let bases := ([0, 1, 2, 3] : List BankId).filterMap fun b => s.windows[b].map Window.base
    (s.readiness ≠ .notReady ∨ bases = [] →
      exec (.rebuild tag body) s = .next (s.answered .supervisor 0x41 tag .refused {} [])) ∧
    (s.readiness = .notReady → bases ≠ [] → s.requestNumber ≤ 4294967292 →
      exec (.rebuild tag body) s = .next
        ((({ s with
            readiness := .rebuilding
            rebuild := some ⟨bases.map fun n => ⟨n, none, [], none⟩, none, none⟩
            flashOps := s.flashOps ++ bases.zipIdx.map fun p => ⟨6, s.requestNumber + p.2, .spareRead p.1 0⟩
            requestNumber := s.requestNumber + bases.length } : State).answered .supervisor 0x41 tag .ok {}
          (fieldBytes [fNum 1 2 s.unitsInside])).issue))

/-- CONFIGURE_DEVICE enters the settings it carries, held to their ranges, and answers with all three; SETTINGS_HOLD SET sets
the hold alone, and CLEAR, from a hold that was set, applies the staged settings of every room outside RECORDING. The model's
choice in it: the numbering of request fields (log entry 12), the numbering of answer and notice fields (log entry 13). -/
def Obligations.DeviceSettings : Prop :=
  ∀ (tag : Byte) (body : List Byte) (s : State), s.canTake .supervisor → s.readiness ≠ .rebuilding →
    (∀ a, parseConfigureDevice body = some a → ∃ u : State,
      exec (.configureDevice tag body) s = .next (u.answered .supervisor 0x42 tag .ok
        { clamped := a.threshold.any (fun n => decide (n < 1 ∨ 4 < n)) || a.lowWater.any fun n => decide (32767 < n) }
        (fieldBytes [fNum 1 1 u.threshold, fNum 2 2 u.lowWater, fNum 3 2 u.alertMask.toNat])) ∧
      u = { s with
        threshold := (a.threshold.map fun n => min (max n 1) 4).getD s.threshold
        lowWater := (a.lowWater.map fun n => min n 32767).getD s.lowWater
        alertMask := (a.mask.map (BitVec.ofNat 14)).getD s.alertMask }) ∧
    (parseSettingsHold body = some true →
      exec (.settingsHold tag body) s = .next
        (({ s with settingsHold := true } : State).answered .supervisor 0x43 tag .ok {} (fieldBytes [fSetClear 1 true]))) ∧
    (parseSettingsHold body = some false → s.settingsHold = false →
      exec (.settingsHold tag body) s = .next (s.answered .supervisor 0x43 tag .ok {}
        (fieldBytes [fSetClear 1 false, fNum 2 1 0, fNum 3 1 (s.stagedRooms true)]))) ∧
    (parseSettingsHold body = some false → s.settingsHold = true → ∃ u : State,
      exec (.settingsHold tag body) s = .next (u.answered .supervisor 0x43 tag .ok {}
        (fieldBytes [fSetClear 1 false, fNum 2 1 (s.stagedRooms false), fNum 3 1 (u.stagedRooms true)])) ∧
      u = { s with
        settingsHold := false
        rooms := s.rooms.map fun x => if x.state = .recording then x else x.applyStaged })

/-- CONFIGURE_ROOM: a room number above 5 and a channel count that is none of the three are answered BAD_ARG; idle settings are refused
in RECORDING; else idle settings and the clip alert enter the active settings, the other settings carried are staged, held to their
ranges, and they enter the active settings at once where the room is not RECORDING and the hold is clear. At a block boundary with the
hold clear the settings staged become active and none is staged; with the hold set nothing changes. The model's choice in it: BAD_ARG
ahead of REFUSED (log entry 54), the values a clamped answer gives (log entry 53), the hold that counts is the one at the boundary (log
entry 61), the numbering of request fields (log entry 12), the numbering of answer and notice fields (log entry 13). -/
def Obligations.ConfigureRoom : Prop :=
  (∀ (tag : Byte) (body : List Byte) (a : ConfigureRoomArgs) (s : State),
    s.canTake .supervisor → s.readiness ≠ .rebuilding → parseConfigureRoom body = some a →
    5 < a.room ∨ a.channels.any (fun n => n ∉ [1, 2, 4]) = true →
    exec (.configureRoom tag body) s = .next (s.answered .supervisor 0x44 tag .badArg {} [])) ∧
  (∀ (tag : Byte) (body : List Byte) (a : ConfigureRoomArgs) (r : RoomId) (s : State),
    s.canTake .supervisor → s.readiness ≠ .rebuilding → parseConfigureRoom body = some a → a.room = r.val →
    a.channels.all (· ∈ [1, 2, 4]) = true →
    let x := s.room r
    let idle := a.channels ≠ none ∨ a.timing ≠ none ∨ a.order ≠ none
    let c := { a with
      capture0 := a.capture0.map fun n => min n 4095
      capture1 := a.capture1.map fun n => min n 4095
      capture2 := a.capture2.map fun n => min n 4095
      capture3 := a.capture3.map fun n => min n 4095
      target := a.target.map fun n => min (max n 10) 3600
      minimum := a.minimum.map fun n => min (max n 5) 3600
      extension := a.extension.map fun n => min n 900
      overlap := a.overlap.map fun n => min n 1000
      readbackFactor := a.readbackFactor.map fun n => min n 4095 }
    let y := { x with
      active := { x.active with
        channels := match a.channels with
          | some 1 => .one
          | some 2 => .two
          | some 4 => .four
          | _ => x.active.channels
        timing := a.timing.getD x.active.timing
        order := a.order.getD x.active.order
        clipAlert := a.clipAlert.getD x.active.clipAlert }
      staged :=
        { capture := #v[if c.capture0.isSome then c.capture0 else x.staged.capture[0],
            if c.capture1.isSome then c.capture1 else x.staged.capture[1], if c.capture2.isSome then c.capture2 else x.staged.capture[2],
            if c.capture3.isSome then c.capture3 else x.staged.capture[3]]
          cls := if a.cls.isSome then a.cls else x.staged.cls
          target := if c.target.isSome then c.target else x.staged.target
          minimum := if c.minimum.isSome then c.minimum else x.staged.minimum
          extension := if c.extension.isSome then c.extension else x.staged.extension
          overlap := if c.overlap.isSome then c.overlap else x.staged.overlap
          readbackFactor := if c.readbackFactor.isSome then c.readbackFactor else x.staged.readbackFactor } }
    (x.state = .recording → idle →
      exec (.configureRoom tag body) s = .next (s.answered .supervisor 0x44 tag .refused {} [])) ∧
    ((x.state = .recording → ¬ idle) →
      exec (.configureRoom tag body) s = .next
        ((s.setRoom r (if x.state = .recording ∨ s.settingsHold then y else y.applyStaged)).answered .supervisor 0x44 tag .ok
          { clamped := decide (c ≠ a) } (if c ≠ a then
            fieldBytes (fOpt 5 2 c.capture0 ++ fOpt 6 2 c.capture1 ++ fOpt 7 2 c.capture2 ++ fOpt 8 2 c.capture3 ++ fOpt 10 2 c.target ++
              fOpt 11 2 c.minimum ++ fOpt 12 2 c.extension ++ fOpt 13 2 c.overlap ++ fOpt 14 2 c.readbackFactor)
          else [])))) ∧
  ∀ (s : State) (r : RoomId),
    (s.settingsHold = true → s.blockBoundary r = s) ∧
    (s.settingsHold = false → s.blockBoundary r = s.setRoom r (s.room r).applyStaged) ∧
    ∀ y : Room, ∃ x, y.applyStaged = x ∧ x = { y with active := x.active, staged := .absent } ∧
      let a := y.active
      let g := y.staged
      x.active.channels = a.channels ∧ x.active.timing = a.timing ∧ x.active.order = a.order ∧
      (∀ j : Fin 4, x.active.capture[j] = g.capture[j].getD a.capture[j]) ∧ x.active.cls = g.cls.getD a.cls ∧
      x.active.target = g.target.getD a.target ∧ x.active.minimum = g.minimum.getD a.minimum ∧
      x.active.extension = g.extension.getD a.extension ∧ x.active.overlap = g.overlap.getD a.overlap ∧
      x.active.readbackFactor = g.readbackFactor.getD a.readbackFactor ∧ x.active.clipAlert = a.clipAlert

/-- CONFIGURE_STATION sets the accepted classes of a station, and is BAD_ARG for a station number above 7; SET_HOLD sets or clears a
take's legal hold; SET_CLASS to a take's own class changes nothing, and to another class than RUSH changes the class of the take and so of
its segments; both are answered UNKNOWN_ID for a take that is not in the table. The model's choice in it: the numbering of request fields
(log entry 12), the issue of flash work at the event's end (log entry 5). -/
def Obligations.StationClassesHoldsAndClasses : Prop :=
  ∀ (tag : Byte) (body : List Byte) (s : State), s.canTake .supervisor →
    (∀ (k : StationId) (m : Nat), s.readiness ≠ .rebuilding → parseConfigureStation body = some (k.val, m) →
      exec (.configureStation tag body) s = .next
        ((s.setStation k { s.station k with accepted := BitVec.ofNat 3 m }).answered .supervisor 0x45 tag .ok {} [])) ∧
    (∀ n m, s.readiness ≠ .rebuilding → parseConfigureStation body = some (n, m) → 7 < n →
      exec (.configureStation tag body) s = .next (s.answered .supervisor 0x45 tag .badArg {} [])) ∧
    (∀ (id : Nat) (h : Bool), s.readiness = .ready → parseSetHold body = some (id, h) → s.findTake id = none →
      exec (.setHold tag body) s = .next (s.answered .supervisor 0x49 tag .unknownId {} [])) ∧
    (∀ (id : Nat) (c : Cls), s.readiness = .ready → parseSetClass body = some (id, c) → s.findTake id = none →
      exec (.setClass tag body) s = .next (s.answered .supervisor 0x48 tag .unknownId {} [])) ∧
    (∀ (id : Nat) (h : Bool) (t : Take), s.readiness = .ready → parseSetHold body = some (id, h) → s.findTake id = some t →
      exec (.setHold tag body) s = .next
        (if t.state = .released then s.answered .supervisor 0x49 tag .refused {} []
        else (s.modTake id fun y => { y with hold := h }).answered .supervisor 0x49 tag .ok {} [])) ∧
    (∀ (id : Nat) (c : Cls) (t : Take), s.readiness = .ready → parseSetClass body = some (id, c) → s.findTake id = some t →
      (t.state = .released → exec (.setClass tag body) s = .next (s.answered .supervisor 0x48 tag .refused {} [])) ∧
      (t.state ≠ .released → t.cls = c → exec (.setClass tag body) s = .next (s.answered .supervisor 0x48 tag .ok {} [])) ∧
      (t.state ≠ .released → t.cls ≠ c → c ≠ .rush →
        exec (.setClass tag body) s = .next
          (((s.modTake id fun y => { y with cls := c }).answered .supervisor 0x48 tag .ok {} []).issue)))

/-! ### Work commands (chapters 1, 4 and 11) -/

/-- DIRECT to a station number above 7 is BAD_ARG; of a take not in the table, or a segment the take does not have, UNKNOWN_ID; of a
segment not QUEUED, of a released take, or to an OFFLINE station, it is refused; to a station with a shadow it is answered BUSY; else it
gives the station the segment as CLAIM would, with a NOTICE, a read pending taking fate PREEMPTED; the context that the station had, if
any, is set aside as its shadow, its page let go, here while no room and no engine waits for a buffer. The model's choice in it: REFUSED
for every segment of a released take (log entry 37), the segments named flat or as an entry (log entry 55), the numbering of request fields
(log entry 12), the numbering of answer and notice fields (log entry 13), the issue of flash work at the event's end (log entry 5). -/
def Obligations.DirectGivesASegment : Prop :=
  (∀ (tag : Byte) (body : List Byte) (a : DirectArgs) (s : State), s.canServe .supervisor → parseDirect body = some a →
    (7 < a.station → exec (.direct tag body) s = .next (s.answered .supervisor 0x4B tag .badArg {} [])) ∧
    (a.station ≤ 7 → s.findTake a.take = none →
      exec (.direct tag body) s = .next (s.answered .supervisor 0x4B tag .unknownId {} [])) ∧
    ∀ t, a.station ≤ 7 → s.findTake a.take = some t →
      (t.state = .released → exec (.direct tag body) s = .next (s.answered .supervisor 0x4B tag .refused {} [])) ∧
      (t.state ≠ .released → t.segment a.index = none →
        exec (.direct tag body) s = .next (s.answered .supervisor 0x4B tag .unknownId {} []))) ∧
  ∀ (tag : Byte) (body : List Byte) (k : StationId) (x : SegRef) (t : Take) (g : Segment) (s : State),
    let st := s.station k
    s.canServe .supervisor → parseDirect body = some ⟨x.take, x.index, k.val⟩ → s.findTake x.take = some t →
    t.state ≠ .released → t.segment x.index = some g →
    let preempted := st.pendingRead.map fun f => if f = .none_ then .preempted else f
    (g.work ≠ some .queued ∨ st.state = .offline →
      exec (.direct tag body) s = .next (s.answered .supervisor 0x4B tag .refused {} [])) ∧
    (g.work = some .queued → st.state ≠ .offline → st.shadow ≠ none →
      exec (.direct tag body) s = .next (s.answered .supervisor 0x4B tag .busy {} [])) ∧
    (g.work = some .queued → st.state ≠ .offline → st.shadow = none → st.current = none → (s.link (.station k)).up = true →
      let p := startPoint t g
      let u := s.modSegment x fun y => { y with work := some .assigned, holder := some (k, .current) }
      let v := u.setStation k { st with state := .paused, current := some x, cursor := p, stop := none, pendingRead := preempted }
      exec (.direct tag body) s = .next
        (((v.queued (.station k) ⟨.unsolicited, 0x2F, 0, .ok, {},
            fieldBytes [fNum 1 1 0, fNum 2 2 x.take, fNum 3 2 x.index, fPos 4 p]⟩).answered .supervisor 0x4B tag .ok {}
          (fieldBytes [fPosSv 1 p])).issue)) ∧
    ∀ cur, g.work = some .queued → st.state ≠ .offline → st.shadow = none → st.current = some cur →
      (st.holding ≠ none → s.noneWaits) → (s.link (.station k)).up = true →
      let p := startPoint t g
      let u := ((s.withoutHolding st.holding).modSegment cur fun y => { y with holder := some (k, .shadow) }).modSegment x fun y =>
        { y with work := some .assigned, holder := some (k, .current) }
      let v := u.setStation k
        { st with
          state := .paused
          current := some x
          cursor := p
          stop := none
          shadow := some ⟨cur, st.cursor, st.state == .playing⟩
          holding := none
          pendingRead := preempted }
      exec (.direct tag body) s = .next
        (((v.queued (.station k) ⟨.unsolicited, 0x2F, 0, .ok, {},
            fieldBytes [fNum 1 1 0, fNum 2 2 x.take, fNum 3 2 x.index, fPos 4 p, fNum 5 2 cur.take, fNum 6 2 cur.index,
              fPos 7 st.cursor]⟩).answered .supervisor 0x4B tag .ok {}
          (fieldBytes [fPosSv 1 p, fEntry 2 (segmentItems cur)])).issue)

/-- RECALL of a segment that a station holds as current: the station lets go of its page, a read pending for it takes fate RECALLED, and
it becomes IDLE, or takes its shadow back as current, PAUSED; of one that it holds as shadow, its shadow alone becomes absent. The station
is told, and the segment returns with its resume point kept. A segment not ASSIGNED, and one of a released take, is refused; a take not in
the table and a segment the take does not have are UNKNOWN_ID. The model's choice in it: REFUSED for every segment of a released take (log
entry 37), the segments and contexts named as entries (log entry 55), the numbering of request fields (log entry 12), the numbering of
answer and notice fields (log entry 13), their flags (log entry 14), the issue of flash work at the event's end (log entry 5), the cursor
of an IDLE station (log entry 40). -/
def Obligations.RecallReturnsASegment : Prop :=
  (∀ (tag : Byte) (body : List Byte) (id i : Nat) (s : State), s.canServe .supervisor → parseSegment body = some (id, i) →
    (s.findTake id = none → exec (.recall tag body) s = .next (s.answered .supervisor 0x4C tag .unknownId {} [])) ∧
    ∀ t, s.findTake id = some t →
      (t.state = .released → exec (.recall tag body) s = .next (s.answered .supervisor 0x4C tag .refused {} [])) ∧
      (t.state ≠ .released → t.segment i = none →
        exec (.recall tag body) s = .next (s.answered .supervisor 0x4C tag .unknownId {} []))) ∧
  ∀ (tag : Byte) (body : List Byte) (x : SegRef) (t : Take) (g : Segment) (s : State),
    s.canServe .supervisor → parseSegment body = some (x.take, x.index) → s.findTake x.take = some t → t.state ≠ .released →
    t.segment x.index = some g →
    (g.work ≠ some .assigned → exec (.recall tag body) s = .next (s.answered .supervisor 0x4C tag .refused {} [])) ∧
    ∀ k slot, g.work = some .assigned → g.holder = some (k, slot) → (s.link (.station k)).up = true →
      let st := s.station k
      let told := fun (u : State) (items : List BodyField) => u.queued (.station k) ⟨.unsolicited, 0x2F, 0, .ok, {},
        fieldBytes ([fNum 1 1 1, fEntry 2 [fNum 1 2 x.take, fNum 2 2 x.index, fNum 3 1 (if slot = .current then 0 else 1)]] ++ items)⟩
      let done := fun (u : State) => State.settle s
        ((u.returnSegment x none).answered .supervisor 0x4C tag .ok {}
          (fieldBytes [fNum 1 1 k.val, fNum 2 1 (if slot = .current then 0 else 1)]))
      let left : Station :=
        { st with
          stop := none
          holding := none
          pendingRead := st.pendingRead.map fun f => if f = .none_ then .recalled else f }
      (slot = .shadow → exec (.recall tag body) s = .next (done (told (s.setStation k { st with shadow := none }) []))) ∧
      (slot = .current → (st.holding ≠ none → s.noneWaits) → st.shadow = none →
        exec (.recall tag body) s = .next (done (told
          ((s.withoutHolding st.holding).setStation k { left with state := .idle, current := none, cursor := 0 }) []))) ∧
      ∀ (sh : Shadow) (t' : Take) (g' : Segment), slot = .current → (st.holding ≠ none → s.noneWaits) → st.shadow = some sh →
        s.findTake sh.seg.take = some t' → t'.state ≠ .released → t'.segment sh.seg.index = some g' →
        let c := min (max sh.cursor (windowOf t' g').lo) (windowOf t' g').atEnd
        exec (.recall tag body) s = .next (done (told
          (((s.withoutHolding st.holding).modSegment sh.seg fun y => { y with holder := some (k, .current) }).setStation k
            { left with state := .paused, current := some sh.seg, cursor := c, shadow := none })
          [fEntry 5 (restoredItems ⟨sh.seg, c, sh.wasPlaying⟩)]))

/-- A segment made TYPED has no holder, and its take becomes COMPLETE with its last, and not before. MARK_TYPED of a take neither
RECORDING nor RELEASED: a QUEUED segment becomes TYPED, a TYPED one stays so, an ASSIGNED one is refused; with ALL every QUEUED segment
becomes TYPED, and the answer counts them and the ASSIGNED ones left. A take not in the table, and a segment the take does not have, are
UNKNOWN_ID, and a released take is refused. The model's choice in it: the order of UNKNOWN_ID and REFUSED (log entries 37 and 59), the
number left ASSIGNED with one segment named (log entry 60), the numbering of request fields (log entry 12), the numbering of answer and
notice fields (log entry 13). -/
def Obligations.MarkTyped : Prop :=
  (∀ (s : State) (x : SegRef) (t : Take) (g : Segment), s.findTake x.take = some t → t.segment x.index = some g →
    (s.makeTyped x).segment x = some { g with work := some .typed, holder := none } ∧
    ∃ u, (s.makeTyped x).findTake x.take = some u ∧
      u.state = if t.state = .closed ∧ ∀ h ∈ t.segments, h.index = x.index ∨ h.work = some .typed then .complete else t.state) ∧
  ∀ (tag : Byte) (body : List Byte) (id : Nat) (t : Take) (s : State),
    let ok := fun (u : State) (typed left : Nat) =>
      u.answered .supervisor 0x4D tag .ok {} (fieldBytes [fNum 1 2 typed, fNum 2 2 left])
    s.canServe .supervisor →
    (∀ i, s.findTake id = none → parseMarkTyped body = some (id, i) →
      exec (.markTyped tag body) s = .next (s.answered .supervisor 0x4D tag .unknownId {} [])) ∧
    (∀ i, s.findTake id = some t → t.state = .released → parseMarkTyped body = some (id, i) →
      exec (.markTyped tag body) s = .next (s.answered .supervisor 0x4D tag .refused {} [])) ∧
    (∀ i, s.findTake id = some t → t.state ≠ .released → parseMarkTyped body = some (id, some i) → t.segment i = none →
      exec (.markTyped tag body) s = .next (s.answered .supervisor 0x4D tag .unknownId {} [])) ∧
    (s.findTake id = some t → t.state ≠ .released → ∀ i g, parseMarkTyped body = some (id, some i) → t.segment i = some g →
      (t.state = .recording ∨ g.work = some .assigned →
        exec (.markTyped tag body) s = .next (s.answered .supervisor 0x4D tag .refused {} [])) ∧
      (t.state ≠ .recording → g.work = some .queued → exec (.markTyped tag body) s = .next (ok (s.makeTyped ⟨id, i⟩) 1 0)) ∧
      (t.state ≠ .recording → g.work = some .typed → exec (.markTyped tag body) s = .next (ok (s.checkComplete id) 0 0))) ∧
    (s.findTake id = some t → t.state ≠ .released → parseMarkTyped body = some (id, none) →
      exec (.markTyped tag body) s = .next
        (if t.state = .recording then s.answered .supervisor 0x4D tag .refused {} []
        else
          ok ((s.modTake id fun y =>
              { y with segments := y.segments.map fun g => if g.work = some .queued then { g with work := some .typed } else g }
            ).checkComplete id)
            (t.segments.filter fun g => g.work == some .queued).length
            (t.segments.filter fun g => g.work == some .assigned).length))

/-- RELEASE_TAKE of a take not in the table is UNKNOWN_ID; it is refused while the legal hold is set, in RECORDING, and in CLOSED without
FORCE. A COMPLETE take with no chain unit that nothing holds is freed at once, with the last completed references to it. A COMPLETE take,
or a CLOSED one with FORCE, that has one chain unit is RELEASED, its queued segments leaving the queue, its segments, marks and damage
list freed, and its unit erased. What a release takes back first: of a station that holds a segment of the take as current, the segment,
with a notice, a read pending for it taking fate GONE; of a room's read-back of the take, the read-back, GONE once; of a page of the take
that waits to be programmed, its request, its buffer becoming FREE; it does so station by station, room by room and buffer by buffer, then
puts the units of the chain to be erased in ascending chain index, stops the engine's work on the take, and frees the record where the
chain is empty. The model's choice in it: the numbering of request fields (log entry 12), the numbering of answer and notice fields (log
entry 13), their flags (log entry 14), a segment named as an entry (log entry 55), the order of the steps (log entry 22), the issue of
flash work at the event's end (log entry 5), the cursor of an IDLE station (log entry 40). -/
def Obligations.ReleaseTake : Prop :=
  (∀ (tag : Byte) (body : List Byte) (id : Nat) (force : Bool) (s : State),
    s.canServe .supervisor → parseReleaseTake body = some (id, force) → s.findTake id = none →
    exec (.releaseTake tag body) s = .next (s.answered .supervisor 0x4A tag .unknownId {} [])) ∧
  (∀ (id : Nat) (s : State),
    let a := s.modTake id fun y =>
      { y with
        state := .released
        segments := y.segments.map fun g => if g.work = some .queued then { g with work := none } else g }
    let b := (List.finRange 6).foldl (State.releaseEndsReadback id) ((List.finRange 8).foldl (State.takeBack id) a)
    let c := b.modTake id fun y => { y with segments := [], marks := [], damage := [], damageOverflow := 0 }
    let d := ((List.finRange 48).foldl (State.withdraw id) c).reclaimChain id
    s.releaseTake id =
      if s.chainUnits id = [] then
        { d with
          takes := d.takes.filter fun y => y.id != id
          stations := d.stations.map fun y => { y with lastCompleted := y.lastCompleted.filter fun x => x.take != id } }
      else d) ∧
  (∀ (id : Nat) (s : State), s.readiness = .ready → (s.units.map UnitEntry.number).Nodup → s.reclaimFifo = [] →
    (∀ u ∈ s.chainUnits id, u.inFlight = 0) → (∀ y, s.engine.work = some y → y.2.take ≠ id) →
    s.requestNumber + (s.chainUnits id).length ≤ 4294967296 →
    ∃ us : List UnitEntry, us.Perm (s.chainUnits id) ∧ us.Pairwise (fun a b => a.chain.getD 0 ≤ b.chain.getD 0) ∧
      s.reclaimChain id = { s with
        units := s.units.map fun y =>
          if y ∈ s.chainUnits id then { y with state := .erasing, finalPage := none, refreshWanted := false } else y
        refreshFifo := s.refreshFifo.filter fun m => decide (m ∉ us.map UnitEntry.number)
        rescues := s.rescues.filter fun e => e.take != id || s.engine.rescuing e.unit
        flashOps := s.flashOps ++ us.zipIdx.map fun p => ⟨5, s.requestNumber + p.2, .erase p.1.number⟩
        requestNumber := s.requestNumber + us.length }) ∧
  (∀ (tag : Byte) (body : List Byte) (id : Nat) (force : Bool) (t : Take) (s : State),
    s.canServe .supervisor → parseReleaseTake body = some (id, force) → s.findTake id = some t →
    (t.hold = true ∨ t.state = .recording ∨ t.state = .released ∨ t.state = .closed ∧ force = false →
      exec (.releaseTake tag body) s = .next (s.answered .supervisor 0x4A tag .refused {} [])) ∧
    (t.hold = false → (t.state = .complete ∨ t.state = .closed ∧ force = true) →
      exec (.releaseTake tag body) s = .next (State.settle s ((s.releaseTake id).answered .supervisor 0x4A tag .ok {} []))) ∧
    (t.hold = false → t.state = .complete → s.chainUnits id = [] → s.reclaimFifo = [] →
      (∀ k : StationId, (∀ x, (s.station k).current = some x → x.take ≠ id) ∧ ∀ sh, (s.station k).shadow = some sh → sh.seg.take ≠ id) →
      (∀ r : RoomId, (s.readback r).active = true → (s.readback r).take ≠ some id) →
      (∀ b : BufId, (s.buffer b).state = .programWait → ∀ p, (s.buffer b).page = some p → p.1 ≠ id) →
      s.engine = .idle →
      exec (.releaseTake tag body) s = .next
        ((({ s with
            takes := s.takes.filter fun y => y.id != id
            rescues := s.rescues.filter fun e => e.take != id
            stations := s.stations.map fun y =>
              { y with lastCompleted := y.lastCompleted.filter fun x => x.take != id } } : State).answered .supervisor 0x4A tag .ok {}
          []).issue)) ∧
    (∀ u, t.hold = false → (t.state = .complete ∨ t.state = .closed ∧ force = true) → s.chainUnits id = [u] → s.unit u.number = some u →
      u.inFlight = 0 → s.reclaimFifo = [] → s.requestNumber ≤ 4294967295 →
      (∀ k : StationId, (∀ x, (s.station k).current = some x → x.take ≠ id) ∧ ∀ sh, (s.station k).shadow = some sh → sh.seg.take ≠ id) →
      (∀ r : RoomId, (s.readback r).active = true → (s.readback r).take ≠ some id) →
      (∀ b : BufId, (s.buffer b).state = .programWait → ∀ p, (s.buffer b).page = some p → p.1 ≠ id) →
      (∀ y, s.engine.work = some y → y.2.take ≠ id) →
      exec (.releaseTake tag body) s = .next (State.settle s
        (({ (s.modTake id fun y =>
              { y with state := .released, segments := [], marks := [], damage := [], damageOverflow := 0 }).modUnit u.number fun y =>
              { y with state := .erasing, finalPage := none, refreshWanted := false } with
            refreshFifo := s.refreshFifo.filter fun m => m != u.number
            rescues := s.rescues.filter fun e => e.take != id || s.engine.rescuing e.unit
            flashOps := s.flashOps ++ [⟨5, s.requestNumber, .erase u.number⟩]
            requestNumber := s.requestNumber + 1 } : State).answered .supervisor 0x4A tag .ok {} [])))) ∧
  (∀ (s : State) (k : StationId) (id : Nat),
    let st := s.station k
    ((∀ x, st.current = some x → x.take ≠ id) → (∀ sh, st.shadow = some sh → sh.seg.take ≠ id) → State.takeBack id s k = s) ∧
    ∀ x, st.current = some x → x.take = id → st.shadow = none → (st.holding ≠ none → s.noneWaits) → (s.link (.station k)).up = true →
      State.takeBack id s k =
        ((s.withoutHolding st.holding).setStation k
          { st with
            state := .idle
            current := none
            cursor := 0
            stop := none
            holding := none
            pendingRead := st.pendingRead.map fun f => if f = .none_ then .gone else f }).queued (.station k)
          ⟨.unsolicited, 0x2F, 0, .ok, {}, fieldBytes [fNum 1 1 1, fEntry 2 [fNum 1 2 x.take, fNum 2 2 x.index, fNum 3 1 0], ⟨3, []⟩]⟩) ∧
  (∀ (s : State) (r : RoomId) (id : Nat),
    let x := s.readback r
    (x.active = false ∨ x.take ≠ some id → State.releaseEndsReadback id s r = s) ∧
    (x.active = true → x.take = some id → (x.holding ≠ none → s.noneWaits) →
      State.releaseEndsReadback id s r = (s.withoutHolding x.holding).setReadback r
        { x with
          active := false
          take := none
          endPoint := none
          holding := none
          pendingRead := x.pendingRead.map fun p => { p with fate := .discard }
          gone := true })) ∧
  ∀ (s : State) (b : BufId) (id tp : Nat), (s.buffer b).state = .programWait → (s.buffer b).page = some (id, tp) → s.noneWaits →
    State.withdraw id s b =
      { s.setBuffer b freeRecord with
        flashOps := s.flashOps.filter fun o => match o.kind with
          | .captureProgram c _ _ => c != b
          | _ => true }

/-! ### Queries (chapters 2, 4, 7, 8, 9 and 11) -/

/-- STATUS of a station that is not OFFLINE, and every query of the supervisor, is answered with what it asks for and changes nothing
else, but that a QUERY_ROOM with clear clears the room's clip flag and its three counters; QUERY_QUEUE with a class set that names no
class is answered BAD_ARG. A station number above 7 and a room number above 5 are BAD_ARG, and a take not in the table, or a unit in no
window, UNKNOWN_ID. QUERY_STORE gives as many of its fields, in their order, as a frame's body of 2,052 bytes holds, the chain indexes
standing last. The model's choice in it: that order and limit (log entry 29), the kind of a holding (log entry 68), contexts named as
entries (log entry 55), the engine's flight and the time since issue (log entries 62 and 63), the numbering of request fields (log entry
12), the numbering of answer and notice fields (log entry 13), their flags (log entry 14), QUERY_STORE naming a unit and a take (log entry
25), positions in QUERY_QUEUE (log entry 45), the entries of buffers and banks (log entries 48 and 50). -/
def Obligations.ReportsAndQueries : Prop :=
  (∀ (tag : Byte) (body : List Byte) (s : State), s.canTake .supervisor →
    (∀ n, parseByte body = some n → 7 < n →
      exec (.queryStation tag body) s = .next (s.answered .supervisor 0x56 tag .badArg {} [])) ∧
    (∀ n, parseByte body = some n → 5 < n →
      exec (.queryReadback tag body) s = .next (s.answered .supervisor 0x57 tag .badArg {} [])) ∧
    (∀ n clear, parseQueryRoom body = some (n, clear) → 5 < n →
      exec (.queryRoom tag body) s = .next (s.answered .supervisor 0x58 tag .badArg {} [])) ∧
    (∀ id, parseQueryTake body = some id → s.findTake id = none →
      exec (.queryTake tag body) s = .next (s.answered .supervisor 0x53 tag .unknownId {} [])) ∧
    (∀ id skip, parseQuerySegments body = some (id, skip) → s.findTake id = none →
      exec (.querySegments tag body) s = .next (s.answered .supervisor 0x54 tag .unknownId {} [])) ∧
    (∀ a, parseQueryMarks body = some a → s.findTake a.take = none →
      exec (.queryMarks tag body) s = .next (s.answered .supervisor 0x55 tag .unknownId {} [])) ∧
    ∀ a, parseQueryStore body = some a → (∃ n, a.unit = some n ∧ s.unit n = none) ∨ (∃ p, a.take = some p ∧ s.findTake p.1 = none) →
      exec (.queryStore tag body) s = .next (s.answered .supervisor 0x5A tag .unknownId {} [])) ∧
  ((∀ (k : StationId) (tag : Byte) (body : List Byte) (s : State), s.canServe (.station k) → parseNone body = some () →
    (s.station k).state ≠ .offline →
    exec (.status k tag body) s = .next (s.answered (.station k) 0x29 tag .ok {} (fieldBytes (s.stationFields fPos k)))) ∧
  ∀ (k : StationId) (tag : Byte) (body : List Byte) (s : State), s.canTake .supervisor → parseByte body = some k.val →
    exec (.queryStation tag body) s = .next (s.answered .supervisor 0x56 tag .ok {}
      (fieldBytes (s.stationFields fPosSv k ++ holdingField 18 (s.station k).holding ++
        fOpt 19 1 ((s.station k).pendingRead.map Fate.code))))) ∧
  (∀ (tag : Byte) (body : List Byte) (s : State), s.canTake .supervisor →
    (parseNone body = some () →
      exec (.queryDevice tag body) s = .next (s.answered .supervisor 0x51 tag .ok {}
        (fieldBytes s.deviceFields))) ∧
    (∀ skip states, parseQueryTakes body = some (skip, states) →
      let hits := s.takes.filter fun t => states.all fun m => m.testBit t.state.code
      exec (.queryTakes tag body) s = .next (s.answered .supervisor 0x52 tag .ok {}
        (fieldBytes (((hits.drop skip).take 32).map takeEntry ++ [fNum 2 2 hits.length])))) ∧
    (∀ id, parseQueryTake body = some id → ∀ t, s.findTake id = some t →
      exec (.queryTake tag body) s = .next (s.answered .supervisor 0x53 tag .ok {} (fieldBytes (s.takeFields t)))) ∧
    (∀ id skip, parseQuerySegments body = some (id, skip) → ∀ t, s.findTake id = some t →
      exec (.querySegments tag body) s = .next (s.answered .supervisor 0x54 tag .ok { clamped := decide (1023 < skip) }
        (fieldBytes (((t.segments.drop (min skip 1023)).take 32).map (segmentEntry t) ++ [fNum 2 2 t.segments.length] ++
          if 1023 < skip then [fNum 3 2 1023] else [])))) ∧
    (∀ a, parseQueryMarks body = some a → ∀ t, s.findTake a.take = some t →
      let hits := t.marks.filter fun m => a.kind.all fun k => m.kind == k
      exec (.queryMarks tag body) s = .next (s.answered .supervisor 0x55 tag .ok { clamped := decide (4095 < a.skip) }
        (fieldBytes (((hits.drop (min a.skip 4095)).take 32).map markEntry ++ [fNum 2 2 hits.length] ++
          if 4095 < a.skip then [fNum 3 2 4095] else []))))) ∧
  ∀ (tag : Byte) (body : List Byte) (s : State), s.canTake .supervisor →
    (∀ r : RoomId, parseByte body = some r.val →
      exec (.queryReadback tag body) s = .next (s.answered .supervisor 0x57 tag .ok {} (fieldBytes (readbackFields (s.readback r))))) ∧
    (∀ (r : RoomId) (clear : Bool), parseQueryRoom body = some (r.val, clear) →
      exec (.queryRoom tag body) s = .next
        ((if clear then s.setRoom r { s.room r with clip := false, lateBlocks := 0, discardedBlocks := 0, lostMarks := 0 } else s
          ).answered .supervisor 0x58 tag .ok {} (fieldBytes (s.roomFields r)))) ∧
    (∀ skip, parseQueryQueue body = some (skip, some 0) →
      exec (.queryQueue tag body) s = .next (s.answered .supervisor 0x59 tag .badArg {} [])) ∧
    (∀ skip classes, parseQueryQueue body = some (skip, classes) → classes ≠ some 0 →
      let hits := s.queue.filter fun e => classes.all fun m => m.testBit e.cls.code
      exec (.queryQueue tag body) s = .next (s.answered .supervisor 0x59 tag .ok { clamped := decide (1023 < skip) }
        (fieldBytes ([fNum 1 4 s.enqueueCounter, fNum 2 2 s.entries.length, fNum 3 2 (s.countClass .rush),
            fNum 4 2 (s.countClass .daily), fNum 5 2 (s.countClass .regular)] ++
          ((hits.drop (min skip 1023)).take 32).map s.queueEntry ++ if 1023 < skip then [fNum 7 2 1023] else [])))) ∧
    (∀ a, parseQueryStore body = some a → (∀ n, a.unit = some n → s.unit n ≠ none) →
      (∀ p, a.take = some p → s.findTake p.1 ≠ none) →
      exec (.queryStore tag body) s = .next (s.answered .supervisor 0x5A tag .ok
        { clamped := a.take.any fun p => decide (262143 < p.2) }
        (fieldBytes (fitFields 2052
          (s.namedFields a ++ s.poolFields ++ s.tableFields ++ s.sequencerFields ++ a.take.toList.flatMap s.chainFields))))) ∧
  ∀ (n : Nat) (fs : List BodyField),
    let kept := fitFields n fs
    kept = fs.take kept.length ∧ (fieldBytes kept).length ≤ n ∧
    ∀ k, k ≤ fs.length → (fieldBytes (fs.take k)).length ≤ n → k ≤ kept.length

/-! ### Positions and samples (chapters 2 and 3) -/

/-- The scaling stage: the product rounded to the nearest integer with halves toward positive infinity, limited to 16 bits, an
output counted as saturated exactly where a limit changed it; unity passes every sample. At capture it acts on each channel's
samples with that channel's factor, and on playback and read-back on the sum of the selected channels. -/
def Obligations.ScalingStage : Prop :=
  (∀ (x : Int) (f : Nat),
    let y := (x * f + 128).fdiv 256
    (2 * y - 1) * 256 ≤ 2 * (x * f) ∧ 2 * (x * f) < (2 * y + 1) * 256 ∧
    ((scale x f).1.toInt = if 32767 < y then 32767 else if y < -32768 then -32768 else y) ∧
    ((scale x f).2 = true ↔ 32767 < y ∨ y < -32768)) ∧
  (∀ (f : Nat) (xs : List Int), scaleAll f xs = (xs.map fun x => (scale x f).1, (xs.filter fun x => (scale x f).2).length)) ∧
  (∀ w : Sample, scale w.toInt 256 = (w, false)) ∧
  (∀ (a : RoomSettings) (n j : Nat) (bs : List Byte), j < 4 →
    captureBytes a (n + 1) j bs =
      (sampleBytes .little (scaleAll a.capture[j]! ((samplesOf a.order (bs.take 512)).map BitVec.toInt)).1 ++
          (captureBytes a n (j + 1) (bs.drop 512)).1,
        (scaleAll a.capture[j]! ((samplesOf a.order (bs.take 512)).map BitVec.toInt)).2 +
          (captureBytes a n (j + 1) (bs.drop 512)).2)) ∧
  ∀ (s : State) (b : BufId) (c : Channels) (k : Nat) (mask : BitVec 4) (f : Nat),
    let sums := ((selectedSectors c k mask).map (s.sectorSamples b)).foldl addRuns (List.replicate 256 0)
    (s.formBlock b c k mask f).samples = (scaleAll f sums).1 ∧ (s.formBlock b c k mask f).saturated = (scaleAll f sums).2

/-- Centiseconds and blocks: a time converts to the block that contains it; a block reports as its start rounded to the nearest
centisecond; converted back that gives the block, or the block before it exactly where the index leaves 1 or 2 by 5. A block has
its own place: take page and place in the page, chain index and page of the unit. -/
def Obligations.Positions : Prop :=
  (∀ cs : Nat, 16 * csToBlocks cs ≤ 5 * cs ∧ 5 * cs < 16 * (csToBlocks cs + 1)) ∧
  (∀ cs : Int, offsetBlocks (-cs) = -offsetBlocks cs ∧ (0 ≤ cs → offsetBlocks cs = csToBlocks cs.toNat)) ∧
  (∀ b : Nat, 2 * 16 * b < 2 * 5 * blocksToCs b + 5 ∧ 2 * 5 * blocksToCs b < 2 * 16 * b + 5) ∧
  (∀ b : Nat, csToBlocks (blocksToCs b) = if b % 5 = 1 ∨ b % 5 = 2 then b - 1 else b) ∧
  ∀ (c : Channels) (b : Nat),
    takePage c b * c.bpp + blockInPage c b = b ∧ blockInPage c b < c.bpp ∧ c.bpp * c.count = 4 ∧
    (chainIndex (takePage c b) * 64 + pageInUnit (takePage c b)) = takePage c b ∧ pageInUnit (takePage c b) < 64 ∧
    ∀ j, j < c.count → sectorOf c (blockInPage c b) j < 4

/-! ### Takes (chapters 1 and 2) -/

/-- The id of a new take: the first candidate after the last assigned id, 65535 being followed by 1, that no record holds; it is
found within 256 steps, becomes the last assigned id, and two records never share an id. -/
def Obligations.NewTakeId : Prop :=
  ∀ s : State, s.takes.length < 256 → s.lastId ≤ 65535 →
    let cand := fun k => (s.lastId + k) % 65535 + 1
    (∃ k, k < 256 ∧ s.newTakeId = cand k ∧ (∀ t ∈ s.takes, t.id ≠ cand k) ∧ ∀ j, j < k → ∃ t ∈ s.takes, t.id = cand j) ∧
    ∀ (r : RoomId) (a : RoomSettings) (x : TakeStartArgs),
      let u := s.createTake (newTake s.newTakeId r a x)
      u.lastId = s.newTakeId ∧ (u.takes.map Take.id).Perm (s.newTakeId :: s.takes.map Take.id) ∧
      ((s.takes.map Take.id).Nodup → (u.takes.map Take.id).Nodup)

/-- TAKE_START of a room that is not RECORDING, a record of each table being free and the class not RUSH: the take's record with its
segment 0, the answer with the take's id and, of a paced room, the first BLOCK_CALL. Where a buffer is FREE it becomes the room's FILLING
buffer; where none is, the room is in DROPPING for NO_BUFFER at once, stands last in the drop-wait list, and the answer gives the cause.
The model's choice in it: the numbering of request fields (log entry 12), the numbering of answer and notice fields (log entry 13), the
buffer granted (log entry 7), the issue of flash work at the event's end (log entry 5). -/
def Obligations.TakeStartBeginsATake : Prop :=
  ∀ (r : RoomId) (tag : Byte) (body : List Byte) (a : TakeStartArgs) (s : State),
    let x := s.room r
    let id := s.newTakeId
    let cls := a.cls.getD x.active.cls
    let paced : Bool := x.active.timing == .paced
    s.canServe (.room r) → parseTakeStart body = some a → x.state ≠ .recording → s.takes.length < 256 → 0 < s.freeSegments →
    cls ≠ .rush →
    let t : Take := ⟨id, r, .recording, cls, x.active.channels, csToBlocks x.active.overlap, a.stamp, 0, 0, false, false, [], 0,
      [⟨0, 0, none, none, 1, 0, none, none, 0⟩], []⟩
    let room := fun (filling : Option BufId) =>
      { x with
        state := .recording
        take := some id
        dropping := if filling = none then some .noBuffer else none
        dropped := 0
        rescueWaiting := false
        filling := filling
        slot := 0
        filledRun := none
        call := if paced then some ⟨0, true⟩ else none
        callCounter := if paced then 1 else x.callCounter
        cadence := if paced then true else x.cadence
        carry := [] }
    let u := ({ s with takes := insertTake t s.takes, lastId := id } : State).setRoom r (room s.firstFree)
    let z := match s.firstFree with
      | some b => u.setBuffer b ⟨.filling, some (id, 0), 0, .room r, none⟩
      | none => { u with dropWait := s.dropWait ++ [r] }
    let v := z.answered (.room r) 0x10 tag .ok {} (fieldBytes (fNum 1 2 id :: if s.firstFree = none then [fNum 2 1 0] else []))
    exec (.takeStart r tag body) s = .next
      (if paced then v.queued (.room r) ⟨.unsolicited, 0x1F, 0, .ok, {}, toLE 4 0 ++ toLE 4 0⟩ else v).issue

/-- A take that starts in class RUSH has its segment 0 QUEUED in band 1 at once, and where the queue held no RUSH entry
RUSH_READY is raised. A TAKE_START is refused in RECORDING and answered FULL, with an alert, where a table is full: nothing else
changes. The model's choice in it: the numbering of request fields (log entry 12), the issue of flash work at the event's end
(log entry 5). -/
def Obligations.TakeStartRushOrRefused : Prop :=
  ∀ (r : RoomId) (tag : Byte) (body : List Byte) (a : TakeStartArgs) (s : State),
    let x := s.room r
    s.canServe (.room r) → parseTakeStart body = some a →
    (x.state = .recording → exec (.takeStart r tag body) s = .next (s.answered (.room r) 0x10 tag .refused {} [])) ∧
    (x.state ≠ .recording → 256 ≤ s.takes.length →
      exec (.takeStart r tag body) s = .next ((s.raise (.takesFull (some r) none)).answered (.room r) 0x10 tag .full {} [])) ∧
    (x.state ≠ .recording → s.takes.length < 256 → s.freeSegments = 0 →
      exec (.takeStart r tag body) s = .next
        ((s.raise (.segmentsFull (some r) none none none)).answered (.room r) 0x10 tag .full {} [])) ∧
    (x.state ≠ .recording → s.takes.length < 256 → 0 < s.freeSegments → a.cls.getD x.active.cls = .rush →
      s.enqueueCounter < 4294967295 → ∃ u, exec (.takeStart r tag body) s = .next u ∧
        u.segment ⟨s.newTakeId, 0⟩ = some ⟨0, 0, none, some .queued, 1, s.enqueueCounter, none, none, 0⟩ ∧
        u.enqueueCounter = s.enqueueCounter + 1 ∧
        (s.rushCount = 0 → ∃ v : State, u = (v.raise (.rushReady s.newTakeId 0 s.idleRushStations)).issue ∧ v.alerts = s.alerts) ∧
        (s.rushCount ≠ 0 → ∃ v : State, u = v.issue ∧ v.alerts = s.alerts))

/-! ### Blocks (chapter 2) -/

/-- BLOCK of a recording room, pushed or the answer to its open call, that neither fills its page nor makes a cut, its unit being there or
granted: a silence run before it is reported as a gap, its samples are scaled into the FILLING buffer, the take grows by one block, the
slot goes on, saturations set the clip flag and raise CLIP once, and the block boundary is reached. With the block that brings the take to
its greatest length the take is stopped as by TAKE_STOP, after the answer. The model's choice in it: the issue of flash work at the
event's end (log entry 5). -/
def Obligations.BlockIsStored : Prop :=
  ∀ (r : RoomId) (tag : Byte) (body bytes : List Byte) (n id : Nat) (t : Take) (b : BufId) (s : State),
    let x := s.room r
    let tp := takePage t.channels t.length
    s.canServe (.room r) → parseBlock x.active.channels body = some (n, bytes) → x.state = .recording →
    (x.active.timing = .pushed ∨ x.call = some ⟨n, true⟩) → x.dropping = none → x.take = some id → s.findTake id = some t →
    x.filling = some b →
    (opensChain t x.slot = true → s.chainUnit t.id (chainIndex tp) ≠ none ∨ 2 < s.freeList.length ∧ s.writeSeq < 4294967295) →
    x.slot + 1 ≠ t.channels.bpp → t.length + 1 ≤ 16777215 →
    (∀ g, t.length + 1 < 16777215 → t.growing = some g →
      t.length + 1 - g.first < secToBlocks x.active.target + secToBlocks x.active.extension) →
    let p := s.reportFilledRun r
    let q := if opensChain t x.slot then (p.ensureUnit t.id tp).2 else p
    let out := captureBytes x.active t.channels.count 0 bytes
    let u := (q.writeBuf b (x.slot * t.channels.count * 512) out.1).modTake id fun y => { y with length := y.length + 1 }
    let v := (u.setRoom r
      { p.room r with
        call := if x.active.timing = .paced then some ⟨n, false⟩ else x.call
        clip := x.clip || out.2 != 0
        slot := x.slot + 1 }).blockBoundary r
    let w := if out.2 ≠ 0 ∧ x.clip = false ∧ x.active.clipAlert = true then v.raise (.clip r id t.length) else v
    let z := w.answered (.room r) 0x11 tag .ok {} (toLE 4 t.length ++ toLE 2 out.2)
    exec (.block r tag body) s = .next (if t.length + 1 = 16777215 then State.settle s (z.stopRoom r .idle) else z.issue)

/-- A BLOCK that fills its page, likewise: the page's tag and its mark slots (the stamp, in take page 0) are completed, the page
waits to be programmed in class 2, the marks placed leave the carry list, and a FREE buffer becomes FILLING for the next page; where none
is FREE, the room enters DROPPING for NO_BUFFER and stands last in the drop-wait list. The model's choice in it: the buffer granted (log
entry 7), the issue of flash work at the event's end (log entry 5). -/
def Obligations.BlockHandsItsPageOff : Prop :=
  ∀ (r : RoomId) (tag : Byte) (body bytes : List Byte) (n id : Nat) (t : Take) (b : BufId) (s : State),
    let x := s.room r
    let tp := takePage t.channels t.length
    s.canServe (.room r) → parseBlock x.active.channels body = some (n, bytes) → x.state = .recording →
    (x.active.timing = .pushed ∨ x.call = some ⟨n, true⟩) → x.dropping = none → x.take = some id → s.findTake id = some t →
    x.filling = some b → (s.buffer b).state = .filling →
    (opensChain t x.slot = true → s.chainUnit t.id (chainIndex tp) ≠ none ∨ 2 < s.freeList.length ∧ s.writeSeq < 4294967295) →
    x.slot + 1 = t.channels.bpp → t.length + 1 ≤ 16777215 → s.requestNumber ≤ 4294967295 →
    (∀ g, t.length + 1 < 16777215 → t.growing = some g →
      t.length + 1 - g.first < secToBlocks x.active.target + secToBlocks x.active.extension) →
    let p := s.reportFilledRun r
    let q := if opensChain t x.slot then (p.ensureUnit t.id tp).2 else p
    let cs := (p.room r).carry
    let out := captureBytes x.active t.channels.count 0 bytes
    let spare := (Tag.bytes ⟨id, t.room, t.cls, t.channels, chainIndex tp, t.channels.bpp, 0⟩) ++
      if tp = 0 then stampSlots t.stamp else slotBytes cs[0]? ++ slotBytes cs[1]?
    let u := (((q.writeBuf b (x.slot * t.channels.count * 512) out.1).writeBuf b 2048 spare).modTake id fun y =>
      { y with length := y.length + 1 }).setBuffer b { s.buffer b with state := .programWait, owner := .programQueue }
    let y : Room := { p.room r with
      call := if x.active.timing = .paced then some (Call.mk n false) else x.call
      clip := x.clip || out.2 != 0
      carry := if tp = 0 then cs else cs.drop 2
      slot := 0 }
    let v := match s.firstFree with
      | some b' => (u.setBuffer b' ⟨.filling, some (id, takePage t.channels (t.length + 1)), 0, .room r, none⟩).setRoom r
          { y with filling := some b' }
      | none => { u.setRoom r { y with filling := none, dropping := some .noBuffer, dropped := 0 } with dropWait := s.dropWait ++ [r] }
    let w : State := { v.blockBoundary r with
      flashOps := s.flashOps ++ [⟨2, s.requestNumber, .captureProgram b id tp⟩]
      requestNumber := s.requestNumber + 1 }
    let a := if out.2 ≠ 0 ∧ x.clip = false ∧ x.active.clipAlert = true then w.raise (.clip r id t.length) else w
    let z := a.answered (.room r) 0x11 tag .ok {} (toLE 4 t.length ++ toLE 2 out.2)
    exec (.block r tag body) s = .next (if t.length + 1 = 16777215 then State.settle s (z.stopRoom r .idle) else z.issue)

/-- The blocks not stored: of a wrong length (BAD_ARG), in no take (discarded and REFUSED), answering no open call of a paced
room (LATE), in DROPPING (counted), and the one that finds no unit for the chain index it opens, with which DROPPING begins. The
model's choice in it: the dropped count stops at its greatest value (log entry 44), the issue of flash work at the event's end (log
entry 5). -/
def Obligations.BlockIsNotStored : Prop :=
  ∀ (r : RoomId) (tag : Byte) (body : List Byte) (s : State),
    let x := s.room r
    let closed := fun n => if x.active.timing = .paced then some (Call.mk n false) else x.call
    s.canServe (.room r) →
    (body.length ≠ 4 + 512 * x.active.channels.count →
      exec (.block r tag body) s = .next (s.answered (.room r) 0x11 tag .badArg {} [])) ∧
    ∀ n bytes, parseBlock x.active.channels body = some (n, bytes) →
      (x.state ≠ .recording →
        exec (.block r tag body) s = .next
          ((s.setRoom r { x with discardedBlocks := min (x.discardedBlocks + 1) 65535 }).answered (.room r) 0x11 tag .refused {}
            [])) ∧
      (x.state = .recording → x.active.timing = .paced → x.call ≠ some ⟨n, true⟩ →
        exec (.block r tag body) s = .next
          ((s.setRoom r { x with lateBlocks := min (x.lateBlocks + 1) 65535 }).answered (.room r) 0x11 tag .late {} [])) ∧
      (∀ c, x.state = .recording → (x.active.timing = .pushed ∨ x.call = some ⟨n, true⟩) → x.dropping = some c →
        exec (.block r tag body) s = .next
          ((((s.setRoom r { x with call := closed n, dropped := min (x.dropped + 1) 4294967295 }).blockBoundary r).answered
            (.room r) 0x11 tag .waitStore {} (toLE 1 c.code ++ toLE 4 (min (x.dropped + 1) 4294967295))).issue)) ∧
      (∀ id t b, x.state = .recording → (x.active.timing = .pushed ∨ x.call = some ⟨n, true⟩) → x.dropping = none →
        x.take = some id → s.findTake id = some t → x.filling = some b → x.filledRun = none → opensChain t x.slot = true →
        s.chainUnit t.id (chainIndex (takePage t.channels t.length)) = none → s.freeList.length ≤ 2 →
        exec (.block r tag body) s = .next
          (((({ s with unitWait := s.unitWait ++ [⟨r, id, chainIndex (takePage t.channels t.length)⟩] } : State).setRoom r
            { x with call := closed n, dropping := some .noUnit, dropped := 1 }).blockBoundary r).answered (.room r) 0x11 tag
            .waitStore {} (toLE 1 1 ++ toLE 4 1)).issue)

/-- Units granted. A chain index that holds a unit is granted no other. For a chain index of a take that has none: the head of the free
list, while more than two units are FREE; it becomes OPEN with the next write sequence, and STORE_LOW is raised as the free count comes
down to the low-water mark. The destination of a refresh is granted so too, and that of a rescue from any FREE unit. The IDLE engine takes
the first rescue before the head of the refresh FIFO, and with its destination and a buffer reads the first page; a rescue for which no
unit is FREE waits, with an alert, its recording room told; a refresh for which too few are FREE is abandoned, with an alert. The model's
choice in it: the buffer granted (log entry 7). -/
def Obligations.GrantsForCapture : Prop :=
  (∀ (s : State) (take tp : Nat), s.chainUnit take (tp / 64) ≠ none → s.ensureUnit take tp = (true, s)) ∧
  (∀ (s : State) (take tp n : Nat) (rest : List Nat), s.chainUnit take (tp / 64) = none → s.freeList = n :: rest →
    s.writeSeq < 4294967295 →
    (rest.length < 2 → s.ensureUnit take tp = (false, s)) ∧
    (2 ≤ rest.length →
      let u : State := { s.modUnit n fun y =>
          { y with
            state := .opened
            owner := some take
            chain := some (tp / 64)
            role := some .chain
            writeSeq := some s.writeSeq
            nextPage := 0
            finalPage := none
            refreshWanted := false
            inFlight := 0 } with
        freeList := rest
        writeSeq := s.writeSeq + 1 }
      s.ensureUnit take tp = (true, if rest.length = s.lowWater then u.raise (.storeLow rest.length s.lowWater) else u))) ∧
  ∀ (s : State), s.readiness = .ready → s.engine = .idle →
    let granted := fun (n take chain : Nat) (rest : List Nat) =>
      let u : State := { s.modUnit n fun y =>
          { y with
            state := .opened
            owner := some take
            chain := some chain
            role := some .destination
            writeSeq := some s.writeSeq
            nextPage := 0
            finalPage := none
            refreshWanted := false
            inFlight := 0 } with
        freeList := rest
        writeSeq := s.writeSeq + 1 }
      if rest.length = s.lowWater then u.raise (.storeLow rest.length s.lowWater) else u
    let reads := fun (u : State) (cls : Nat) (w : Work) (b : BufId) =>
      ({ (u.setBuffer b ⟨.copy, none, 0, .engine, none⟩).modUnit w.source fun y => { y with inFlight := y.inFlight + 1 } with
          flashOps := s.flashOps ++ [⟨cls, s.requestNumber, .pageRead w.source 0 b .engine⟩]
          requestNumber := s.requestNumber + 1 } : State)
    (∀ e more n rest b, s.rescues = e :: more → s.freeList = n :: rest → s.writeSeq < 4294967295 → e.page ≠ 0 →
      s.firstFree = some b → s.requestNumber ≤ 4294967295 →
      let w : Work := ⟨e.take, e.chain, e.unit, some n, some b, 0, .read, 0, false, false⟩
      s.engineNext = { reads (granted n e.take e.chain rest) 2 w b with engine := .rescue w }) ∧
    (∀ e more t, s.rescues = e :: more → s.freeList = [] → s.findTake e.take = some t → (s.room t.room).filledRun = none →
      let x := s.room t.room
      let v := ({ s with engine := .rescue ⟨e.take, e.chain, e.unit, none, none, 0, .none_, 0, false, false⟩ } : State).raise
        (.rescueWait e.take e.chain t.room)
      s.engineNext =
        if t.state ≠ .recording then v
        else v.setRoom t.room (if x.dropping.isSome then { x with rescueWaiting := true }
          else { x with dropping := some .noUnit, dropped := 0, rescueWaiting := true })) ∧
    ∀ n more e id c, s.rescues = [] → s.refreshFifo = n :: more → s.unit n = some e → e.owner = some id → e.chain = some c →
      (∀ d rest b, s.freeList = d :: rest → 2 ≤ rest.length → s.writeSeq < 4294967295 → s.firstFree = some b →
        s.nrec + 8 < s.freeBuffers → s.requestNumber ≤ 4294967295 →
        let w : Work := ⟨id, c, n, some d, some b, 0, .read, 0, false, false⟩
        s.engineNext = { reads (granted d id c rest) 4 w b with engine := .refresh w, refreshFifo := more }) ∧
      (more = [] → s.freeList.length ≤ 2 →
        s.engineNext = ({ s.modUnit n fun y => { y with refreshWanted := false } with refreshFifo := [] } : State).raise
          (.refreshAbandoned id c n))

/-- CADENCE_EXPIRY of a running timer: after an answered call the next call is sent; an open call of a room in DROPPING is
counted as dropped; else a silence block takes its place, its unit being there or granted, and the filled run begins or grows: the page
goes on, or is handed off and the next buffer taken, or a cut is made at the take's length; where no buffer is FREE for the next page, the
filled run is reported and DROPPING for NO_BUFFER begins; where the block opens a chain index for which no unit is had, the filled run is
reported and DROPPING begins. With the block that brings the take to its greatest length the take is stopped as by TAKE_STOP, and no call
follows. A timer that does not run changes nothing: the model's choice (log entry 2). The model's choice in it too: the dropped count stops
at its greatest value (log entry 44), the buffer granted (log entry 7), the issue of flash work at the event's end (log entry 5). -/
def Obligations.CadenceExpiry : Prop :=
  ∀ (r : RoomId) (s : State),
    let x := s.room r
    let next := fun (y : Room) => { y with call := some ⟨x.callCounter, true⟩, callCounter := (x.callCounter + 1) % 4294967296 }
    let called := fun (length : Nat) (u : State) =>
      u.queued (.room r) ⟨.unsolicited, 0x1F, 0, .ok, {}, toLE 4 x.callCounter ++ toLE 4 length⟩
    (x.cadence = false → exec (.cadenceExpiry r) s = .next s) ∧
    ∀ id t, x.cadence = true → x.state = .recording → (s.link (.room r)).up = true → x.take = some id → s.findTake id = some t →
      ((∀ c, x.call = some c → c.isOpen = false) →
        exec (.cadenceExpiry r) s = .next (called t.length (s.setRoom r (next x))).issue) ∧
      (∀ n c, x.call = some ⟨n, true⟩ → x.dropping = some c →
        exec (.cadenceExpiry r) s = .next (called t.length
          (((s.setRoom r { x with dropped := min (x.dropped + 1) 4294967295 }).blockBoundary r).modRoom r next)).issue) ∧
      (∀ n b, x.call = some ⟨n, true⟩ → x.dropping = none → x.filling = some b → opensChain t x.slot = true →
        s.chainUnit t.id (chainIndex (takePage t.channels t.length)) = none → s.freeList.length ≤ 2 →
        let v := s.reportFilledRun r
        exec (.cadenceExpiry r) s = .next (State.settle s (called t.length
          (((({ v with unitWait := s.unitWait ++ [⟨r, id, chainIndex (takePage t.channels t.length)⟩] } : State).setRoom r
            { v.room r with dropping := some .noUnit, dropped := 1 }).blockBoundary r).modRoom r next)))) ∧
      ∀ n b, x.call = some ⟨n, true⟩ → x.dropping = none → x.filling = some b →
        let tp := takePage t.channels t.length
        (opensChain t x.slot = true → s.chainUnit t.id (chainIndex tp) ≠ none ∨ 2 < s.freeList.length ∧ s.writeSeq < 4294967295) →
        t.length + 1 ≤ 16777215 →
        let q := if opensChain t x.slot then (s.ensureUnit t.id tp).2 else s
        let silent := q.writeBuf b (x.slot * t.channels.count * 512) (List.replicate (t.channels.count * 512) 0)
        let longer := fun (y : Take) => { y with length := y.length + 1 }
        let run := some (match x.filledRun with
          | none => ⟨t.length, 1⟩
          | some run => ⟨run.first, run.count + 1⟩)
        let noCut := ∀ g, t.length + 1 < 16777215 → t.growing = some g →
          t.length + 1 - g.first < secToBlocks x.active.target + secToBlocks x.active.extension
        let ends := fun (u : State) =>
          if t.length + 1 = 16777215 then State.settle s (u.stopRoom r .idle) else (called (t.length + 1) (u.modRoom r next)).issue
        (x.slot + 1 ≠ t.channels.bpp → noCut →
          exec (.cadenceExpiry r) s = .next
            (ends (((silent.modTake id longer).setRoom r { x with filledRun := run, slot := x.slot + 1 }).blockBoundary r))) ∧
        (∀ g, x.slot + 1 ≠ t.channels.bpp → t.length + 1 < 16777215 → t.growing = some g →
          secToBlocks x.active.target + secToBlocks x.active.extension ≤ t.length + 1 - g.first →
          let z := ((silent.setRoom r { x with filledRun := run }).modTake id longer).cutAt id (t.length + 1)
          exec (.cadenceExpiry r) s = .next (State.settle s (called (t.length + 1)
            (((z.setRoom r { z.room r with slot := x.slot + 1 }).blockBoundary r).modRoom r next)))) ∧
        (x.slot + 1 = t.channels.bpp → noCut → (s.buffer b).state = .filling → s.requestNumber ≤ 4294967295 →
          let spare := (Tag.bytes ⟨id, t.room, t.cls, t.channels, chainIndex tp, t.channels.bpp, 0⟩) ++
            if tp = 0 then stampSlots t.stamp else slotBytes x.carry[0]? ++ slotBytes x.carry[1]?
          let h : State := { (((silent.writeBuf b 2048 spare).modTake id longer).setBuffer b
              { s.buffer b with state := .programWait, owner := .programQueue }).setRoom r
            { x with
              filledRun := run
              carry := if tp = 0 then x.carry else x.carry.drop 2
              filling := none
              slot := 0 } with
            flashOps := s.flashOps ++ [⟨2, s.requestNumber, .captureProgram b id tp⟩]
            requestNumber := s.requestNumber + 1 }
          let v := h.reportFilledRun r
          exec (.cadenceExpiry r) s = .next (ends (State.blockBoundary (match s.firstFree with
            | some b' => (h.setBuffer b' ⟨.filling, some (id, takePage t.channels (t.length + 1)), 0, .room r, none⟩).setRoom r
                { h.room r with filling := some b' }
            | none => { v.setRoom r { v.room r with dropping := some .noBuffer, dropped := 0 } with dropWait := s.dropWait ++ [r] }) r)))

/-- MARK of a recording room: refused outside RECORDING; BAD_ARG for the two kinds the part places itself; with too few records
left, or a carry list of 7, counted lost and answered FULL; else it is placed at its block, back-dated no further than the
take's start, carried, and, where it makes no cut, nothing else changes. The model's choice in it: REFUSED ahead of the kind's check
and BAD_ARG for the part's own kinds (log entry 38), FULL without CLAMPED (log entry 39), the numbering of request fields (log entry
12), the numbering of answer and notice fields (log entry 13), the issue of flash work at the event's end (log entry 5). -/
def Obligations.MarksOfARoom : Prop :=
  ∀ (r : RoomId) (tag : Byte) (body : List Byte) (a : MarkArgs) (s : State),
    let x := s.room r
    s.canServe (.room r) → parseMark body = some a →
    (x.state ≠ .recording → exec (.mark r tag body) s = .next (s.answered (.room r) 0x12 tag .refused {} [])) ∧
    (x.state = .recording → a.kind = .gap ∨ a.kind = .cut →
      exec (.mark r tag body) s = .next (s.answered (.room r) 0x12 tag .badArg {} [])) ∧
    ∀ id t, x.state = .recording → a.kind ≠ .gap → a.kind ≠ .cut → x.take = some id → s.findTake id = some t →
      (7 ≤ x.carry.length ∨ s.freeMarks ≤ 16 →
        exec (.mark r tag body) s = .next
          (((s.setRoom r { x with lostMarks := min (x.lostMarks + 1) 65535 }).raise (.markLost id (some r) 1)).answered (.room r)
            0x12 tag .full {} [])) ∧
      (x.carry.length < 7 → 16 < s.freeMarks →
        (∀ g, t.growing = some g → (a.kind = .speaker → t.length - g.first < secToBlocks x.active.target) ∧
          (a.kind = .break_ → t.length - g.first < secToBlocks x.active.minimum)) →
        let back := a.back.map (min 1000)
        let clamped := a.back.any fun n => decide (1000 < n)
        let m : Mark := ⟨a.kind, t.length - csToBlocks (back.getD 0), a.code, none⟩
        exec (.mark r tag body) s = .next
          ((((s.modTake id fun y => { y with marks := insertMark m y.marks }).setRoom r { x with carry := x.carry ++ [m] }).answered
            (.room r) 0x12 tag .ok { clamped := clamped }
            (fieldBytes (fPos 1 m.block :: if clamped then [fNum 2 2 1000] else []))).issue))

/-- A cut of the growing segment at a block, records being free: it is closed at the block before and, if it had no work state, QUEUED;
the next segment begins at the block, QUEUED too where the class is RUSH; a CUT mark stands there and is carried; a station that holds the
segment as current or shadow has its cursor and stop point bounded and is told. In a full carry list a CUT or GAP mark takes the place of
the oldest mark that is not a CUT; where all are CUT marks a CUT takes the place of the oldest and a GAP is not carried; the mark that
goes is counted lost. With a record lacking the cut is deferred, with one alert. A BLOCK that brings the growing length to target and
extension makes a cut at the take's length, and a SPEAKER or BREAK mark past the segment's first block makes one at its block. A gap is
reported with its GAP marks, each carried, or counted lost where no record is free (of the room: log entry 17): the filled run as it ends,
and the blocks dropped as a room leaves DROPPING. The model's choice in it: the table named where both are full (log entry 21), the
numbering of request fields (log entry 12), the numbering of answer and notice fields (log entry 13), RUSH_READY and the issue of flash
work at the event's end (log entries 5 and 6). -/
def Obligations.Cuts : Prop :=
  (∀ (s : State) (t : Take) (g : Segment) (b : Nat), s.findTake t.id = some t → t.growing = some g →
    (s.freeSegments = 0 ∨ s.freeMarks = 0 → t.cutDeferred = true → s.cutAt t.id b = s) ∧
    (s.freeSegments = 0 ∨ s.freeMarks = 0 → t.cutDeferred = false →
      s.cutAt t.id b = (s.modTake t.id fun y => { y with cutDeferred := true }).raise
        (.segmentsFull none (some t.id) (some g.index) (some (if s.freeSegments = 0 then .segment else .mark)))) ∧
    (0 < s.freeSegments → 0 < s.freeMarks → (∀ h ∈ t.segments, h.index ≤ g.index) →
      (∀ h ∈ t.segments, h.index = g.index → h = g) → s.enqueueCounter < 4294967294 →
      let old : SegRef := ⟨t.id, g.index⟩
      let n := if g.work = none then s.enqueueCounter + 1 else s.enqueueCounter
      let bound := fun m => min m b
      let cs := (s.room t.room).carry
      let m : Mark := ⟨.cut, b, g.index + 1, none⟩
      let told := fun (k : StationId) (slot cursor : Nat) =>
        { s.link (.station k) with
          txq := (s.link (.station k)).txq ++ [⟨.unsolicited, 0x2F, 0, .ok, {}, fieldBytes [fNum 1 1 2, fNum 2 2 t.id,
            fNum 3 2 g.index, fNum 4 1 slot, fPos 5 (b - 1), fPos 6 (bound cursor)]⟩] }
      let u := s.cutAt t.id b
      u.segment old = some (if g.work = none then
          { g with last := some (b - 1), work := some .queued, band := 1, sequence := s.enqueueCounter }
        else { g with last := some (b - 1) }) ∧
      u.segment ⟨t.id, g.index + 1⟩ = some (if t.cls = .rush then ⟨g.index + 1, b, none, some .queued, 1, n, none, none, 0⟩
        else ⟨g.index + 1, b, none, none, 1, 0, none, none, 0⟩) ∧
      u.enqueueCounter = (if t.cls = .rush then n + 1 else n) ∧
      (∃ v, u.findTake t.id = some v ∧ v.cutDeferred = false ∧ v.marks = insertMark ⟨.cut, b, g.index + 1, none⟩ t.marks ∧
        v.length = t.length ∧ v.state = t.state) ∧
      (cs.length < 8 → u.room t.room = { s.room t.room with carry := cs ++ [m] } ∧ u.alerts = s.alerts) ∧
      (∀ before y after, 8 ≤ cs.length → cs = before ++ y :: after →
        (y.kind ≠ .cut ∧ (∀ z ∈ before, z.kind = .cut) ∨ before = [] ∧ ∀ z ∈ cs, z.kind = .cut) →
        u.room t.room = { s.room t.room with
          carry := before ++ after ++ [m]
          lostMarks := min ((s.room t.room).lostMarks + 1) 65535 } ∧
        u.alerts = (s.raise (.markLost t.id (some t.room) 1)).alerts) ∧
      ∀ k : StationId,
        ((s.station k).current = some old →
          u.station k = { s.station k with cursor := bound (s.station k).cursor, stop := (s.station k).stop.map bound } ∧
          ((s.link (.station k)).up = true → u.link (.station k) = told k 0 (s.station k).cursor)) ∧
        (∀ sh, (s.station k).current ≠ some old → (s.station k).shadow = some sh → sh.seg = old →
          u.station k = { s.station k with shadow := some { sh with cursor := bound sh.cursor } } ∧
          ((s.link (.station k)).up = true → u.link (.station k) = told k 1 sh.cursor)) ∧
        ((s.station k).current ≠ some old → (∀ sh, (s.station k).shadow = some sh → sh.seg ≠ old) →
          u.station k = s.station k ∧ u.link (.station k) = s.link (.station k)))) ∧
  (∀ (r : RoomId) (tag : Byte) (body : List Byte) (a : MarkArgs) (id : Nat) (t : Take) (g : Segment) (s : State),
    let x := s.room r
    let back := a.back.map (min 1000)
    let clamped := a.back.any fun n => decide (1000 < n)
    let m : Mark := ⟨a.kind, t.length - csToBlocks (back.getD 0), a.code, none⟩
    let u := (s.modTake id fun y => { y with marks := insertMark m y.marks }).setRoom r { x with carry := x.carry ++ [m] }
    s.canServe (.room r) → parseMark body = some a → x.state = .recording → x.take = some id → s.findTake id = some t →
    t.growing = some g → x.carry.length < 7 → 16 < s.freeMarks →
    (a.kind = .speaker ∧ secToBlocks x.active.target ≤ t.length - g.first ∨
      a.kind = .break_ ∧ secToBlocks x.active.minimum ≤ t.length - g.first) →
    exec (.mark r tag body) s = .next (State.settle s
      ((if g.first < m.block then u.cutAt id m.block else u).answered (.room r) 0x12 tag .ok { clamped := clamped }
        (fieldBytes (fPos 1 m.block :: if clamped then [fNum 2 2 1000] else []))))) ∧
  (∀ (r : RoomId) (tag : Byte) (body bytes : List Byte) (n id : Nat) (t : Take) (g : Segment) (b : BufId) (s : State),
    let x := s.room r
    s.canServe (.room r) → parseBlock x.active.channels body = some (n, bytes) → x.state = .recording →
    (x.active.timing = .pushed ∨ x.call = some ⟨n, true⟩) → x.dropping = none → x.take = some id → s.findTake id = some t →
    x.filling = some b → x.filledRun = none →
    (opensChain t x.slot = true → s.chainUnit t.id (chainIndex (takePage t.channels t.length)) ≠ none) →
    x.slot + 1 ≠ t.channels.bpp → t.length + 1 < 16777215 → t.growing = some g →
    secToBlocks x.active.target + secToBlocks x.active.extension ≤ t.length + 1 - g.first →
    let out := captureBytes x.active t.channels.count 0 bytes
    let y := { x with
      call := if x.active.timing = .paced then some (Call.mk n false) else x.call
      clip := x.clip || out.2 != 0 }
    let v := (s.writeBuf b (x.slot * t.channels.count * 512) out.1).setRoom r y
    let w := if out.2 ≠ 0 ∧ x.clip = false ∧ x.active.clipAlert = true then v.raise (.clip r id t.length) else v
    let z := (w.modTake id fun y => { y with length := y.length + 1 }).cutAt id (t.length + 1)
    exec (.block r tag body) s = .next (State.settle s
      (((z.setRoom r { z.room r with slot := x.slot + 1 }).blockBoundary r).answered (.room r) 0x11 tag .ok {}
        (toLE 4 t.length ++ toLE 2 out.2)))) ∧
  (∀ (s : State) (r : RoomId) (t : Take), s.findTake t.id = some t →
    let x := s.room r
    (∀ run, x.take = some t.id → x.filledRun = some run →
      s.reportFilledRun r = (s.setRoom r { x with filledRun := none }).reportGap r t.id .filled run.first run.count) ∧
    (x.take = some t.id →
      let u := s.setRoom r { x with dropping := none, dropped := 0 }
      s.leaveDropping r = if x.dropped = 0 then u else u.reportGap r t.id .lost t.length x.dropped) ∧
    (∀ (y : GapType) (first n : Nat),
      let u := match y with
        | .lost => s.modTake t.id fun z => { z with lostBlocks := min (z.lostBlocks + n) 4294967295 }
        | .filled => s
      let m : Mark := ⟨.gap, first, n, some y⟩
      s.reportGap r t.id y first n = (u.placeGapMarks r t.id y first (gapCodes n)).raise (.gap r t.id y first n) ∧
      (∀ c rest, s.placeGapMarks r t.id y first (c :: rest) =
        (s.placeGapMarks r t.id y first [c]).placeGapMarks r t.id y (if y = .filled then first + c else first) rest) ∧
      (0 < s.freeMarks → x.carry.length < 8 → s.placeGapMarks r t.id y first [n] =
        (s.modTake t.id fun z => { z with marks := insertMark m z.marks }).setRoom r { x with carry := x.carry ++ [m] }) ∧
      (∀ before z after, 0 < s.freeMarks → 8 ≤ x.carry.length → x.carry = before ++ z :: after → z.kind ≠ .cut →
        (∀ w ∈ before, w.kind = .cut) → s.placeGapMarks r t.id y first [n] =
          ((s.modTake t.id fun z => { z with marks := insertMark m z.marks }).setRoom r
            { x with carry := before ++ after ++ [m], lostMarks := min (x.lostMarks + 1) 65535 }).raise (.markLost t.id (some r) 1)) ∧
      (0 < s.freeMarks → 8 ≤ x.carry.length → (∀ w ∈ x.carry, w.kind = .cut) → s.placeGapMarks r t.id y first [n] =
        ((s.modTake t.id fun z => { z with marks := insertMark m z.marks }).setRoom r
          { x with lostMarks := min (x.lostMarks + 1) 65535 }).raise (.markLost t.id (some r) 1)) ∧
      (s.freeMarks = 0 → s.placeGapMarks r t.id y first [n] =
        (s.setRoom r { x with lostMarks := min (x.lostMarks + 1) 65535 }).raise (.markLost t.id (some r) 1)))) ∧
  ∀ n, 1 ≤ n →
    (gapCodes n).sum = n ∧ (∀ c ∈ gapCodes n, 1 ≤ c ∧ c ≤ 65535) ∧ ∀ c ∈ (gapCodes n).dropLast, c = 65535

/-- TAKE_STOP is refused outside RECORDING. In RECORDING the timer and the call end, the filled run is reported, the room leaves the
waiting lists and DROPPING, the directory stops the take, its pages are flushed, its last unit is told, and the room is IDLE at a block
boundary; the answer has the take's id and its length. Of a take whose FILLING buffer holds a part of a page, with no mark left to carry:
the growing segment is closed and QUEUED, the take CLOSED, the page completed with zeros and handed off with its count of valid blocks,
its unit told that it is the last, and the room IDLE. The empty segment of a take of length 0 is kept, TYPED, its take COMPLETE; an empty
segment that a cut left is deleted with its CUT mark. With no FILLING buffer, marks left to carry go into a tail page, one or two at a
time, where a buffer is FREE and the unit is there; with no FREE buffer they are counted lost, with an alert, and no unit is taken. A
FILLING buffer with nothing in it and nothing to carry is given back. The model's choice in it: the numbering of answer and notice fields
(log entry 13), the buffer granted (log entry 7), the unit of a tail page (log entry 18), the last unit told before the room is IDLE (log
entry 70), the issue of flash work at the event's end (log entry 5). -/
def Obligations.TakeStopClosesTheTake : Prop :=
  (∀ (r : RoomId) (tag : Byte) (body : List Byte) (id : Nat) (t : Take) (s : State),
    let x := s.room r
    s.canServe (.room r) → parseNone body = some () → x.state = .recording → x.take = some id → s.findTake id = some t →
    let a := ((s.taken (.room r) 0x13 tag).setRoom r { x with cadence := false, call := none }).reportFilledRun r
    let b := ({ a with
      dropWait := a.dropWait.filter fun q => q != r
      unitWait := a.unitWait.filter fun q => q.room != r } : State).leaveDropping r
    let c := (b.setRoom r { b.room r with rescueWaiting := false }).stopTake id
    ∃ v, c.findTake id = some v ∧ v.length = t.length ∧
      let f := c.flushPages r v
      let g := if f.2 = 0 then f.1 else f.1.setFinalPage id (f.2 - 1)
      let h := (g.setRoom r { g.room r with state := .idle, take := none, filling := none, slot := 0 }).blockBoundary r
      exec (.takeStop r tag body) s = .next (State.settle s
        (h.answer (.room r) .ok {} (fieldBytes [fNum 1 2 id, fNum 2 4 t.length])))) ∧
  (∀ (r : RoomId) (tag : Byte) (body : List Byte) (s : State),
    let x := s.room r
    s.canServe (.room r) → parseNone body = some () →
    (x.state ≠ .recording → exec (.takeStop r tag body) s = .next (s.answered (.room r) 0x13 tag .refused {} [])) ∧
    ∀ (id : Nat) (t : Take) (g : Segment) (b : BufId) (e : UnitEntry),
      let tp := takePage t.channels t.length
      let from_ := x.slot * t.channels.count * 512
      x.state = .recording → x.take = some id → s.findTake id = some t → t.room = r → t.growing = some g → g.first < t.length →
      (∀ h ∈ t.segments, h.index = g.index → h = g) → g.work = none →
      x.filledRun = none → x.dropped = 0 → x.carry = [] → x.filling = some b → 0 < x.slot → x.slot < t.channels.bpp →
      s.chainUnit id (chainIndex tp) = some e → e.nextPage ≤ pageInUnit tp → e.nextPage < 64 → e.state = .opened →
      s.enqueueCounter < 4294967295 → s.requestNumber ≤ 4294967295 →
      (∀ k : StationId, (s.station k).current ≠ some ⟨id, g.index⟩ ∧ ∀ sh, (s.station k).shadow = some sh → sh.seg ≠ ⟨id, g.index⟩) →
      let spare := (Tag.bytes ⟨id, r, t.cls, t.channels, chainIndex tp, x.slot, 0⟩) ++
        if tp = 0 then stampSlots t.stamp else List.replicate 12 0
      let u := ((s.writeBuf b from_ (List.replicate (2048 - from_) 0)).writeBuf b 2048 spare).modTake id fun y =>
        { y.modSegment g.index (fun h =>
            { h with last := some (t.length - 1), work := some .queued, band := 1, sequence := s.enqueueCounter }) with
          state := .closed
          cutDeferred := false }
      let v := (((u.setBuffer b { s.buffer b with state := .programWait, owner := .programQueue }).modUnit e.number fun y =>
          { y with finalPage := some (pageInUnit tp) }).setRoom r
        { x with
          state := .idle
          take := none
          dropping := none
          rescueWaiting := false
          filling := none
          slot := 0
          call := none
          cadence := false }).blockBoundary r
      let w : State := { v with
        enqueueCounter := s.enqueueCounter + 1
        flashOps := s.flashOps ++ [⟨2, s.requestNumber, .captureProgram b id tp⟩]
        requestNumber := s.requestNumber + 1
        dropWait := s.dropWait.filter fun q => q != r
        unitWait := s.unitWait.filter fun q => q.room != r }
      exec (.takeStop r tag body) s = .next (State.settle s
        (w.answered (.room r) 0x13 tag .ok {} (fieldBytes [fNum 1 2 id, fNum 2 4 t.length])))) ∧
  (∀ (s : State) (t : Take) (g : Segment), s.findTake t.id = some t → t.growing = some g → g.first = t.length → g.work ≠ some .assigned →
    (t.length = 0 → t.segments = [g] → (∀ y ∈ s.takes, y.id = t.id → y = t) →
      s.stopTake t.id = s.modTake t.id fun y =>
        { y with
          segments := y.segments.map fun h => if h.index = g.index then { h with work := some .typed, holder := none } else h
          state := .complete
          cutDeferred := false }) ∧
    (0 < t.length → ∃ u v, s.stopTake t.id = u ∧ u.findTake t.id = some v ∧ v.segments = t.segments.filter (fun h => h.index != g.index) ∧
      v.marks = removeFirst (fun m => m.kind == .cut && m.code == g.index) t.marks ∧
      v.state = (if (∀ h ∈ t.segments, h.index ≠ g.index → h.work = some .typed) then .complete else .closed) ∧
      (u.room t.room).carry = removeFirst (fun m => m.kind == .cut && m.code == g.index) (s.room t.room).carry)) ∧
  ∀ (s : State) (r : RoomId) (t : Take),
    let x := s.room r
    let tp := takePage t.channels t.length
    (x.filling = none → x.carry = [] → s.flushPages r t = (s, tp)) ∧
    (x.filling = none → x.carry ≠ [] → s.firstFree = none →
      s.flushPages r t = ((s.setRoom r { x with carry := [], lostMarks := min (x.lostMarks + x.carry.length) 65535 }).raise
        (.markLost t.id (some r) x.carry.length), tp)) ∧
    (∀ b e, x.filling = none → x.carry ≠ [] → x.carry.length ≤ 2 → tp ≠ 0 → s.firstFree = some b →
      s.chainUnit t.id (chainIndex tp) = some e → s.requestNumber ≤ 4294967295 →
      s.flushPages r t =
        ({ ((((s.writeBuf b 0 (List.replicate 2048 0)).writeBuf b 2048
              (Tag.bytes ⟨t.id, t.room, t.cls, t.channels, chainIndex tp, 0, 0⟩ ++ slotBytes x.carry[0]? ++ slotBytes x.carry[1]?)).setBuffer b
              ⟨.programWait, some (t.id, tp), 0, .programQueue, none⟩).setRoom r { x with carry := [], slot := 0 }) with
          flashOps := s.flashOps ++ [⟨2, s.requestNumber, .captureProgram b t.id tp⟩]
          requestNumber := s.requestNumber + 1 }, tp + 1)) ∧
    ∀ b, x.filling = some b → x.slot = 0 → x.carry = [] → s.noneWaits →
      s.flushPages r t = ((s.setRoom r { x with filling := none }).setBuffer b freeRecord, tp)

/-! ### Flash (chapters 8 and 9) -/

/-- The sequencer. A pending operation is eligible exactly where its target's bank is IDLE and no operation on the same unit with a
smaller request number is pending; a capture page held for a rescue has no target. Issue takes the earliest of the lowest-numbered
class among the eligible operations and goes on until none is eligible. An operation issued makes its bank BUSY and leaves the pending
lists; a capture page first takes its unit's write sequence and its parity, and its buffer is PROGRAMMING. The model's choice in it:
the issue of flash work at the event's end (log entry 5), the parity as a free value (log entry 11). -/
def Obligations.OperationsAreIssued : Prop :=
  (∀ (s : State) (x : Ready), firstByClass (s.eligible [] s.flashOps) = some x →
    ∃ before after, s.eligible [] s.flashOps = before ++ x :: after ∧ (∀ y ∈ before, x.op.cls < y.op.cls) ∧
      ∀ y ∈ after, x.op.cls ≤ y.op.cls) ∧
  (∀ s : State,
    (firstByClass (s.eligible [] s.flashOps) = none ↔ s.settled) ∧
    (∀ x, firstByClass (s.eligible [] s.flashOps) = some x → s.issue = (s.issueOp x).issue) ∧
    (s.settled → s.issue = s) ∧ s.issue.settled) ∧
  (∀ (s : State) (x : Ready), s.flashOps.Pairwise (fun a b => a.number < b.number) →
    (x ∈ s.eligible [] s.flashOps ↔
      x.op ∈ s.flashOps ∧ s.opTarget x.op.kind = some (x.unit, x.page) ∧ s.bank x.bank = .idle ∧
      (∃ a, s.bankOf x.unit = some (x.bank, a)) ∧
      ∀ y ∈ s.flashOps, y.number < x.op.number → ∀ u p, s.opTarget y.kind = some (u, p) → u ≠ x.unit)) ∧
  (∀ (s : State) (b : BufId) (take tp u p : Nat), s.opTarget (.captureProgram b take tp) = some (u, p) ↔
    (∀ e ∈ s.rescues, e.take = take → e.chain ≠ tp / 64) ∧
    ∃ e, s.chainUnit take (tp / 64) = some e ∧ e.number = u ∧ tp % 64 = p) ∧
  ∀ (s : State) (x : Ready),
    let v : State := { s.setBank x.bank (.busy x.op x.unit x.page s.clock) with flashOps := s.flashOps.erase x.op }
    (x.op.kind.programBuf = none → s.issueOp x = v) ∧
    ∀ b take tp e seq, x.op.kind = .captureProgram b take tp → s.unit x.unit = some e → e.writeSeq = some seq →
      s.issueOp x = ((v.writeBuf b 2055 (toLE 4 seq)).encodePage b).setBuffer b { s.buffer b with state := .programming }

/-- PROGRAM_COMPLETE of a capture page. Passed, the page is in the flash, its unit's next page goes on, and its buffer becomes FREE, or
CACHED while pins hold it; a unit that holds its last page is FULL, and one that wants a refresh joins the refresh FIFO. Failed, the page
waits again in its place, its contents are open, and a rescue of the unit is entered: behind the rescue in progress, at once by an IDLE
engine, and with the refresh in progress set aside as its flash operation ends. Of a page the engine copies, passed: the page is in the
destination, and the next page is read into the same buffer; after a refresh's last page the destination is the chain's unit, FULL, and
the source is erased, with REFRESH_DONE; after a rescue's last page the destination is the chain's unit and the failed unit is RETIRED and
erased. Failed, a refresh's destination is RETIRED and the refresh starts again with a new one. Work set aside or stopped ends here, its
destination erased. The model's choice in it: the issue of flash work at the event's end (log entry 5), a free value where contents are
open (log entry 10), the place of a failed page (log entry 16), how work ends (log entry 20), what a RETIRED unit shows (log entry 57),
the final page of a unit put into RECLAIM (log entry 69). -/
def Obligations.ProgramsComplete : Prop :=
  (∀ (b : BankId) (cls n id tp u p at_ : Nat) (buf : BufId) (e : UnitEntry) (s : State),
    let op : FlashOp := ⟨cls, n, .captureProgram buf id tp⟩
    let x := s.buffer buf
    let after : Buffer := if x.pins = 0 then freeRecord else { x with state := .cached, owner := .none_ }
    let done := (s.setBank b .idle).storePage u p (s.readBuf buf 0 2112)
    let failed : State :=
      { (s.setBank b .idle).storePage u p ((List.range 2112).map (Config.freeByte s.freeUses)) with
        freeUses := s.freeUses + 1
        counters := { s.counters with programFailures := min (s.counters.programFailures + 1) 4294967295 }
        rescues := s.rescues ++ [⟨e.owner.getD 0, e.chain.getD 0, u, e.nextPage⟩] }
    let again := fun (v : State) =>
      ({ v.setBuffer buf { v.buffer buf with state := .programWait, owner := .programQueue } with
          flashOps := reinsertOp op v.flashOps } : State)
    s.bank b = .busy op u p at_ → s.unit u = some e → e.state = .opened → e.role = some .chain →
    (e.nextPage + 1 ≠ 64 → (∀ f, e.finalPage = some f → e.nextPage < f) → s.dropWait = [] → s.engine = .idle →
      exec (.programComplete b .pass) s = .next
        ((done.modUnit u fun y => { y with nextPage := y.nextPage + 1 }).setBuffer buf after).issue) ∧
    (e.nextPage + 1 = 64 ∨ e.finalPage = some e.nextPage → s.dropWait = [] → s.engine = .idle → s.refreshFifo = [] →
      let v := done.modUnit u fun y => { y with nextPage := y.nextPage + 1, state := .full }
      exec (.programComplete b .pass) s = .next (State.settle s
        (if e.refreshWanted then ({ v with refreshFifo := [u] } : State).engineNext.confirmBuffer buf else v.setBuffer buf after))) ∧
    (∀ w, s.engine = .rescue w →
      exec (.programComplete b .fail) s = .next (again failed).issue) ∧
    (s.engine = .idle → exec (.programComplete b .fail) s = .next (State.settle s (again failed).engineNext)) ∧
    (∀ w, s.engine = .refresh w → w.flight ≠ .none_ →
      exec (.programComplete b .fail) s = .next (again { failed with engine := .refresh { w with aside := true } }).issue) ∧
    (∀ w, s.engine = .refresh w → w.flight = .none_ →
      exec (.programComplete b .fail) s = .next (State.settle s ((again failed).setAside w)))) ∧
  (∀ (b : BankId) (cls n d p at_ : Nat) (buf : BufId) (z : Bool) (w : Work) (src : UnitEntry) (x : BankId × Nat) (s : State),
    let copied := ((s.setBank b .idle).storePage d p (s.readBuf buf 0 2112))
    let freed := fun (v : State) => ({ v.setBuffer buf freeRecord with engine := .idle } : State)
    let erases := fun (v : State) (m : Nat) =>
      ({ v with flashOps := s.flashOps ++ [⟨5, s.requestNumber, .erase m⟩], requestNumber := s.requestNumber + 1 } : State)
    let reads := fun (v : State) (y : Work) =>
      ({ v.modUnit w.source fun u => { u with inFlight := u.inFlight + 1 } with
          engine := if z then .rescue { y with buf := some buf, flight := .read } else .refresh { y with buf := some buf, flight := .read }
          flashOps := s.flashOps ++ [⟨if z then 2 else 4, s.requestNumber, .pageRead w.source y.page buf .engine⟩]
          requestNumber := s.requestNumber + 1 } : State)
    s.bank b = .busy ⟨cls, n, .copyProgram d p buf⟩ d p at_ → s.engine = (if z then .rescue w else .refresh w) →
    s.unit w.source = some src → w.source ≠ d → s.requestNumber ≤ 4294967295 →
    (∀ e, w.stopping = false → w.aside = false → (z = true → s.rescues.find? (fun y => y.unit == w.source) = some e) →
      w.page + 1 < (if z then e.page else src.nextPage) →
      exec (.programComplete b .pass) s = .next
        (reads (copied.modUnit d fun y => { y with nextPage := y.nextPage + 1 }) { w with page := w.page + 1 }).issue) ∧
    (z = false → w.buf = some buf → w.stopping = false → w.aside = false → src.nextPage ≤ w.page + 1 → s.readiness = .ready → s.rescues = [] →
      s.refreshFifo = [] → s.reclaimFifo = [] → s.dropWait = [] → src.inFlight = 0 →
      exec (.programComplete b .pass) s = .next
        ((freed (erases ((copied.modUnit d fun y =>
            { y with
              nextPage := y.nextPage + 1
              state := .full
              role := some .chain
              finalPage := src.finalPage
              refreshWanted := false }).modUnit w.source fun y =>
            { y with
              state := .erasing
              owner := none
              chain := none
              role := none
              finalPage := none
              refreshWanted := false }) w.source)).raise (.refreshDone w.take w.chain w.source d w.damaged)).issue) ∧
    (∀ e, z = true → w.buf = some buf → w.stopping = false → w.aside = false → s.rescues = [e] → e.unit = w.source → e.page ≤ w.page + 1 →
      s.readiness = .ready → s.refreshFifo = [] → s.dropWait = [] → s.bankOf w.source = some x →
      exec (.programComplete b .pass) s = .next
        (({ freed (erases (((copied.modUnit d fun y =>
            { y with
              nextPage := e.page
              state := if src.finalPage.any (fun f => decide (f < e.page)) then .full else .opened
              role := some .chain
              finalPage := src.finalPage }).modUnit w.source fun y =>
            { y with
              state := .retired
              owner := none
              chain := none
              role := none
              writeSeq := none
              nextPage := 0
              finalPage := none
              refreshWanted := false })) w.source) with rescues := [] } : State).raise (.unitRetired w.source x.1 .program)).issue) ∧
    (∀ m rest, z = false → w.buf = some buf → w.stopping = false → w.aside = false → s.freeList = m :: rest → 2 ≤ rest.length →
      rest.length ≠ s.lowWater → s.writeSeq < 4294967295 → s.bankOf d = some x →
      exec (.programComplete b .fail) s = .next
        (reads (({ (((s.setBank b .idle).storePage d p ((List.range 2112).map (Config.freeByte s.freeUses))).modUnit d fun y =>
            { y with
              state := .retired
              owner := none
              chain := none
              role := none
              writeSeq := none
              nextPage := 0
              finalPage := none
              refreshWanted := false }).modUnit m fun y =>
            { y with
              state := .opened
              owner := some w.take
              chain := some w.chain
              role := some .destination
              writeSeq := some s.writeSeq
              nextPage := 0
              finalPage := none
              refreshWanted := false
              inFlight := 0 } with
          freeUses := s.freeUses + 1
          counters := { s.counters with programFailures := min (s.counters.programFailures + 1) 4294967295 }
          freeList := rest
          writeSeq := s.writeSeq + 1 } : State).raise (.unitRetired d x.1 .program))
          { w with dest := some m, page := 0, damaged := 0 }).issue) ∧
    (w.stopping = true →
      exec (.programComplete b .pass) s = .next (State.settle s (copied.stopWork { w with flight := .none_ }))) ∧
    (w.stopping = false → w.aside = true →
      exec (.programComplete b .pass) s = .next (State.settle s (copied.setAside { w with flight := .none_ })))) ∧
  ∀ (d : Nat) (dst : UnitEntry) (w : Work) (s : State), w.dest = some d → s.readiness = .ready → s.reclaimFifo = [] →
    s.dropWait = [] → s.unit d = some dst → dst.inFlight = 0 → s.requestNumber ≤ 4294967295 →
    let v : State := { (match w.buf with
        | some buf => s.setBuffer buf freeRecord
        | none => s).modUnit d fun y =>
      { y with state := .erasing, owner := none, chain := none, role := none, finalPage := none, refreshWanted := false } with
      engine := .idle
      flashOps := s.flashOps ++ [⟨5, s.requestNumber, .erase d⟩]
      requestNumber := s.requestNumber + 1 }
    s.setAside w = State.engineNext { v with refreshFifo := w.source :: s.refreshFifo } ∧
    s.stopWork w = State.engineNext { v with rescues := s.rescues.filter fun e => e.unit != w.source }

/-- PAGE_READ_COMPLETE. A page is ERASED exactly where its 64 spare bytes as read are all ones. Of a station's read with no symbol in
error, and no unit waiting for its erase: the page is held and the READ that waits is served from it; where the segment was taken
meanwhile, the READ is answered with the fate of the read and the buffer freed. Of a read-back's read: the page is held for the next
READBACK_READ, or its buffer freed where the read-back has ended. Each block below the length that lost a sector is reported once, and a
unit in a chain with a weak or lost code word wants a refresh, which a FULL one joins the FIFO for. Of a read for a copy, the lost sectors
are zeroed and reported, and the page is programmed into the destination with its write sequence. The model's choice in it: the issue of
flash work at the event's end (log entry 5), the medium's answer as an operand (log entry 9), each damaged block of a copy reported once
(log entry 19). -/
def Obligations.StationReadsComplete : Prop :=
  (∀ (stored : List Byte) (page : PageRead), stored.length = 2112 →
    (page.spare.length = 64 → ((readPage stored page).2 = none ↔ ∀ y ∈ page.spare, y = 0xFF)) ∧
    (page.spare = [] → ((readPage stored page).2 = none ↔ ∀ y ∈ stored.drop 2048, y = 0xFF)) ∧
    (page = ⟨[], [], .clean, .clean, .clean, .clean⟩ → (readPage stored page).1 = stored)) ∧
  (∀ (b : BankId) (cls n u p at_ : Nat) (buf : BufId) (k : StationId) (e : UnitEntry) (q : Request) (s : State),
    let st := s.station k
    let stored := s.flashPage u p
    let clean : PageRead := ⟨[], [], .clean, .clean, .clean, .clean⟩
    let v : State := { (((s.setBank b .idle).writeBuf buf 0 stored).modUnit u fun y => { y with inFlight := y.inFlight - 1 }) with
      counters := { s.counters with
        corrected := min s.counters.corrected 4294967295
        uncorrectable := min s.counters.uncorrectable 4294967295 } }
    let reply := fun (y : State) (status : Status) (ind : Indications) (out : List Byte) =>
      y.setLink (.station k) { s.link (.station k) with
        outstanding := none
        txq := (s.link (.station k)).txq ++ [⟨.response, q.kind, q.tag, status, ind, out⟩] }
    s.bank b = .busy ⟨cls, n, .pageRead u p buf (.reader (.station k))⟩ u p at_ → spareErased stored = false → s.reclaimFifo = [] →
    s.unit u = some e → (s.link (.station k)).outstanding = some q →
    (∀ x t g, st.pendingRead = some .none_ → st.state = .playing → st.current = some x → s.findTake x.take = some t →
      t.state ≠ .released → t.segment x.index = some g → st.stop ≠ some st.cursor → st.cursor < (windowOf t g).atEnd →
      (s.buffer buf).page = some (t.id, takePage t.channels st.cursor) →
      let w := v.setBuffer buf { s.buffer buf with state := .held, decode := some ⟨.clean, .clean, .clean, .clean⟩ }
      let f := w.formBlock buf t.channels (blockInPage t.channels st.cursor) st.mask st.factor
      exec (.pageReadComplete b clean) s = .next
        (reply (w.setStation k
          { st with
            pendingRead := none
            holding := some ⟨true, buf, t.id, takePage t.channels st.cursor⟩
            cursor := st.cursor + 1 })
          .ok { damaged := f.damaged, live := segmentOpen t g } (servedBody st.cursor st.order f)).issue) ∧
    (∀ fate status, (fate, status) ∈ [(Fate.preempted, Status.preempted), (.recalled, .recalled), (.gone, .gone)] →
      st.pendingRead = some fate → s.dropWait = [] → s.engine = .idle →
      exec (.pageReadComplete b clean) s = .next
        (reply ((v.setBuffer buf ⟨.free, none, 0, .none_, none⟩).setStation k { st with pendingRead := none }) status {} []).issue)) ∧
  (∀ (b : BankId) (cls n u p at_ : Nat) (buf : BufId) (r : RoomId) (page : PageRead) (pr : RbRead) (s : State),
    let read := readPage (s.flashPage u p) page
    let d := read.2.getD .allLost
    let v := (((s.setBank b .idle).countPage read.2).writeBuf buf 0 read.1).setBuffer buf { s.buffer buf with decode := some d }
    let w := (v.modUnit u fun y => { y with inFlight := y.inFlight - 1 }).tableRead u buf d
    s.bank b = .busy ⟨cls, n, .pageRead u p buf (.reader (.readback r))⟩ u p at_ → s.reclaimFifo = [] →
    (s.readback r).pendingRead = some pr →
    exec (.pageReadComplete b page) s = .next (State.settle s
      (if pr.fate = .none_ then
        (w.setBuffer buf { w.buffer buf with state := .held }).setReadback r
          { s.readback r with pendingRead := none, holding := some ⟨true, buf, pr.take, pr.page⟩ }
      else (w.setReadback r { s.readback r with pendingRead := none }).freeBuffer buf))) ∧
  (∀ (u : Nat) (buf : BufId) (d : DecodeRecord) (s : State),
    (∀ id tp t, (s.buffer buf).page = some (id, tp) → s.findTake id = some t →
      let bs := lostBlocksOf t tp d
      bs.Nodup ∧ (∀ x, x ∈ bs ↔ x < t.length ∧ ∃ j, j < 4 ∧ d.sector j = .uncorrectable ∧ x = tp * t.channels.bpp + j / t.channels.count) ∧
      let v := bs.foldl (fun y x => y.reportDamage id x) s
      s.tableRead u buf d = if d.weak s.threshold then v.wantRefresh u else v) ∧
    (∀ m : Nat, d.weak m = true ↔ ∃ x ∈ d.results, x = .uncorrectable ∨ ∃ i, x = .corrected i ∧ m ≤ i) ∧
    (∀ e, s.unit u = some e → (e.inChain = false ∨ e.refreshWanted = true → s.wantRefresh u = s) ∧
      (e.inChain = true → e.refreshWanted = false →
        let v := s.modUnit u fun y => { y with refreshWanted := true }
        (e.state = .opened → s.wantRefresh u = v) ∧
        (e.state = .full → s.engine ≠ .idle → s.wantRefresh u = { v with refreshFifo := s.refreshFifo ++ [u] }))) ∧
    ∀ id x t, s.findTake id = some t →
      (t.state = .released → s.reportDamage id x = s) ∧
      (t.state ≠ .released → s.reportDamage id x = (s.modTake id fun y =>
        if y.damage.length < 16 then { y with damage := y.damage ++ [x] }
        else { y with damageOverflow := min (y.damageOverflow + 1) 65535 }).raise (.damage id x))) ∧
  ∀ (b : BankId) (cls n u p at_ dest seq : Nat) (buf : BufId) (z : Bool) (w : Work) (e : UnitEntry) (page : PageRead) (t : Take)
    (s : State),
    let read := readPage (s.flashPage u p) page
    let d := read.2.getD .allLost
    let tp := w.chain * 64 + w.page
    let v := ((((s.setBank b .idle).countPage read.2).writeBuf buf 0 read.1).setBuffer buf { s.buffer buf with decode := some d }).modUnit u
      fun y => { y with inFlight := y.inFlight - 1 }
    s.bank b = .busy ⟨cls, n, .pageRead u p buf .engine⟩ u p at_ → s.reclaimFifo = [] →
    s.engine = (if z then .rescue w else .refresh w) → w.stopping = false → w.aside = false → w.dest = some dest →
    s.unit dest = some e → e.writeSeq = some seq → u ≠ dest → s.findTake w.take = some t → s.requestNumber ≤ 4294967295 →
    let lost := (List.range 4).filter fun j => d.sector j == .uncorrectable
    let m := (lostBlocksOf t tp d).foldl (fun y x => y.reportDamage w.take x)
      (lost.foldl (fun y j => y.writeBuf buf (j * 512) (List.replicate 512 0)) v)
    let tagged := if d.s3 = .uncorrectable then m.writeBuf buf 2048
        (Tag.bytes ⟨t.id, t.room, t.cls, t.channels, w.chain, min t.channels.bpp (t.length - tp * t.channels.bpp), 0⟩ ++
          if tp = 0 then stampSlots t.stamp else List.replicate 12 0)
      else m
    let y : Work := { w with flight := .program, damaged := w.damaged + (lostBlocksOf t tp d).length }
    exec (.pageReadComplete b page) s = .next (State.settle s
      { tagged.writeBuf buf 2055 (toLE 4 seq) with
        engine := if z then .rescue y else .refresh y
        flashOps := s.flashOps ++ [⟨if z then 2 else 4, s.requestNumber, .copyProgram dest w.page buf⟩]
        requestNumber := s.requestNumber + 1 })

/-- SPARE_READ_COMPLETE: a page whose tag is valid and agrees with page 0's is counted, with the running maxima, and the next page's spare
read requested; after page 63, and at an erased or unreadable page, the scan of the unit ends and that of its window's next unit begins;
with the last scan of all the rebuild is finished. Of the claimants of a chain index the one with the most pages is kept, and of equals
the highest write sequence; a chain's units but the last hold 64 pages, and it ends short where a page could not be read or units lie
above it. Its take is CLOSED, with the class of its last page, the stamp of its first and the length its pages give; a chain that ends
short is reported damaged at its length. Its marks come from the pages after the first, those past the length left out; its CUT marks give
segments that follow one another without a gap. The units kept are FULL, those that read erased FREE, the others to be erased, and the
counters go on from the maxima; the part is READY. The model's choice in it: the issue of flash work at the event's end (log entry 5), the
medium's answer as an operand (log entry 9), spare reads in the code word counters (log entry 31), slots that hold no mark (log entry 24),
equal claimants (log entry 35), the write sequence held at its greatest value (log entry 42). The stages stand together: the takes, their
marks, their segments, the tables, and the segments handed over; that every take goes through a stage before any goes through the next,
and so the order of the alerts TAKES_FULL, DAMAGE, MARK_LOST and SEGMENTS_FULL, is the model's choice (log entry 23), and so is a page of
more valid blocks than the take's blocks per page (log entry 67). -/
def Obligations.ScansGoOn : Prop :=
  (∀ (b : BankId) (cls n u p at_ : Nat) (page : SpareRead) (x : Rebuild) (w : Window) (s : State),
    let result := readSpare (s.flashPage u p) page
    let counted := (s.setBank b .idle).countWords (result.toList.map Prod.fst)
    let judged := judge ((x.scans.find? fun z => z.unit == u).bind ScanRec.tag) result
    let endsAs := fun (y : Rebuild) (c : ScanEnd) =>
      ({ y with scans := y.scans.map fun z => if z.unit = u then { z with cause := some c } else z } : Rebuild)
    let andPage := fun (t : Tag) (y : ScanPage) =>
      (⟨x.scans.map fun z =>
          if z.unit = u then { z with tag := if z.tag.isSome then z.tag else some t, pages := z.pages ++ [y], cause := none } else z,
        some (max (x.maxTake.getD 0) t.take), some (max (x.maxSeq.getD 0) t.seq)⟩ : Rebuild)
    let goesOn := fun (y : Rebuild) =>
      if u + 1 < w.base + w.size then
        { counted with
          rebuild := some { y with scans := y.scans ++ [⟨u + 1, none, [], none⟩] }
          flashOps := s.flashOps ++ [⟨6, s.requestNumber, .spareRead (u + 1) 0⟩]
          requestNumber := s.requestNumber + 1 }
      else if (y.scans.filter fun z => z.cause.isSome).length = s.unitsInside then ({ counted with rebuild := some y } : State).finishRebuild y
      else { counted with rebuild := some y }
    s.bank b = .busy ⟨cls, n, .spareRead u p⟩ u p at_ → s.rebuild = some x → s.windows[b] = some w → s.requestNumber ≤ 4294967295 →
    (∀ t y, judged = .counted t y →
      exec (.spareReadComplete b page) s = .next
        (if p + 1 ≠ 64 then
          ({ counted with
              rebuild := some (andPage t y)
              flashOps := s.flashOps ++ [⟨6, s.requestNumber, .spareRead u (p + 1)⟩]
              requestNumber := s.requestNumber + 1 } : State).issue
        else State.settle s (goesOn (endsAs (andPage t y) .full)))) ∧
    (∀ c, judged = .ends c → exec (.spareReadComplete b page) s = .next (State.settle s (goesOn (endsAs x c))))) ∧
  (∀ (s : State) (x : Rebuild), (s.finishRebuild x).readiness = .ready ∧ (s.finishRebuild x).rebuild = none ∧
    let scans := sortBy ScanRec.unit x.scans
    let ids := chainTakes scans
    let chains := (ids.take 256).map (keptChain scans)
    scans.Perm x.scans ∧ scans.Pairwise (fun y z => y.unit ≤ z.unit) ∧
    ids.Pairwise (fun i j => i < j) ∧ (∀ i, i ∈ ids ↔ ∃ z ∈ scans, ∃ t, z.tag = some t ∧ t.chain = 0 ∧ t.take = i) ∧
    let a := if 256 < ids.length then s.raise (.takesFull none (some (ids.length - 256))) else s
    let b := chains.foldl State.restoreChainMarks (chains.foldl State.restoreTake a)
    let c := ((chains.map Chain.take).foldl State.restoreTakeSegments b).restoreTable { x with scans := scans } chains
    let d := (chains.map Chain.take).foldl State.handOverTake c
    let e := ({ d with readiness := .ready, rebuild := none } : State).drainReclaim
    s.finishRebuild x = if e.engine = .idle then e.engineNext else e) ∧
  (∀ (s : State) (c : Chain) (t : Take), s.findTake c.take = some t → (s.takes.map Take.id).Nodup →
    let found := c.marks t.length
    let ms := (found.take s.freeMarks).foldl (fun l m => insertMark m l) t.marks
    let lost := ((ms.filter fun m => m.kind == .gap && m.gap == some .lost).map Mark.code).sum
    let u := s.modTake t.id fun y => { y with marks := ms, lostBlocks := min lost 4294967295 }
    s.restoreChainMarks c =
      if s.freeMarks < found.length then u.raise (.markLost t.id none (found.length - s.freeMarks)) else u) ∧
  (∀ (s : State) (id : Nat) (t : Take), s.findTake id = some t → (s.takes.map Take.id).Nodup →
    (t.length = 0 → t.segments = [⟨0, 0, none, none, 1, 0, none, none, 0⟩] → t.state = .closed →
      s.restoreTakeSegments id = s.modTake id fun y =>
        { y with state := .complete, segments := [⟨0, 0, none, some .typed, 1, 0, none, none, 0⟩] }) ∧
    (0 < t.length →
      let q := restoreSegments t.length t.marks s.freeSegments 0 0
      let u := s.modTake id fun y => { y with segments := q.segments, marks := q.marks }
      s.restoreTakeSegments id = if q.lacking then u.raise (.segmentsFull none (some id) none none) else u) ∧
    s.handOverTake id = (t.segments.filter fun g => g.work != some .typed).foldl (fun u g => u.handOver ⟨id, g.index⟩) s) ∧
  (∀ (scans : List ScanRec) (take chain : Nat) (y : ScanRec), keptClaim scans take chain = some y →
    y ∈ scans ∧ y.claims take chain = true ∧
    ∀ z ∈ scans, z.claims take chain = true → z.pages.length < y.pages.length ∨
      z.pages.length = y.pages.length ∧ (z.tag.map Tag.seq).getD 0 ≤ (y.tag.map Tag.seq).getD 0) ∧
  (∀ (scans : List ScanRec) (take : Nat),
    let c := keptChain scans take
    c.take = take ∧
    (∀ (i : Nat) (h : i < c.run.length), keptClaim scans take i = some c.run[i] ∧ (i + 1 < c.run.length → c.run[i].pages.length = 64)) ∧
    (c.short = true ↔ (∃ z ∈ scans, ∃ t, z.tag = some t ∧ t.take = take ∧ c.run.length ≤ t.chain) ∨
      ∃ z, c.run.getLast? = some z ∧ z.cause = some .unreadable)) ∧
  (∀ (s : State) (c : Chain) (y : ScanRec) (t : Tag), c.run.head? = some y → y.tag = some t →
    let pages := c.run.flatMap ScanRec.pages
    let last := pages.getLast?.map ScanPage.cls
    let x : Take :=
      { id := t.take, room := t.room, state := .closed, cls := last.getD t.cls, channels := t.channels,
        overlap := csToBlocks (s.room t.room).active.overlap
        stamp := Stamp.ofBytes ((pages.head?.map ScanPage.slots).getD [])
        length := pagesLength t.channels.bpp pages
        lostBlocks := 0, hold := false, cutDeferred := false, damage := [], damageOverflow := 0
        segments := [⟨0, 0, none, none, 1, 0, none, none, 0⟩], marks := [] }
    let u : State := { s with takes := insertTake x s.takes }
    s.restoreTake c = if c.short then u.reportDamage t.take x.length else u) ∧
  (∀ (bpp : Nat) (ps : List ScanPage) (y : ScanPage), (∀ z ∈ ps, z.valid = bpp) → y.valid < bpp →
    pagesLength bpp ps = bpp * ps.length ∧ ∀ qs, pagesLength bpp (ps ++ y :: qs) = bpp * ps.length + y.valid) ∧
  (∀ (c : Chain) (length : Nat) (m : Mark), m ∈ c.marks length ↔
    (∃ y ∈ (c.run.flatMap ScanRec.pages).drop 1, m ∈ y.marks) ∧ (m.block < length ∨ m.block = length ∧ m.kind ≠ .cut)) ∧
  (∀ (length : Nat) (ms : List Mark) (free : Nat), 0 < length → (∀ m ∈ ms, m.kind = .cut → m.block < length) →
    let r := restoreSegments length ms free 0 0
    (∀ (i : Nat) (h : i < r.segments.length), r.segments[i].index = i ∧
      (∃ l, r.segments[i].last = some l ∧ r.segments[i].first ≤ l ∧
        l + 1 = if h' : i + 1 < r.segments.length then r.segments[i + 1].first else length)) ∧
    (r.segments.head?.map Segment.first) = some 0 ∧
    (r.marks.filter fun m => m.kind == .cut).map (fun m => (m.code, m.block)) = (r.segments.drop 1).map fun g => (g.index, g.first)) ∧
  ∀ (s : State) (x : Rebuild) (chains : List Chain),
    let u := s.restoreTable x chains
    u.lastId = x.maxTake.getD 0 ∧
    u.writeSeq = (x.maxSeq.map fun m => min (m + 1) 4294967295).getD 0 ∧
    u.units.map UnitEntry.number = s.units.map UnitEntry.number ∧
    u.freeList = (u.units.filter fun y => y.state == .free).map UnitEntry.number ∧
    u.reclaimFifo = (u.units.filter fun y => y.state == .reclaim).map UnitEntry.number ∧
    ∀ y ∈ u.units,
      (∀ id c z isLast, chainPlace chains y.number = some (id, c, z, isLast) →
        y = ⟨y.number, .full, some id, some c, some .chain, z.tag.map Tag.seq, z.pages.length,
          if isLast then some (z.pages.length - 1) else none, false, 0⟩) ∧
      (chainPlace chains y.number = none →
        y = ⟨y.number, if (x.scans.any fun z => z.unit == y.number && z.pages.isEmpty && z.cause == some .erased) then .free else .reclaim,
          none, none, none, none, 0, none, false, 0⟩)

/-- A unit of the reclaim FIFO: its erase is requested in class 5 once no read of it is in flight. ERASE_COMPLETE: passed, the unit is all
ones and joins the free list; failed, it is RETIRED with an alert; a unit already RETIRED stays so. With the unit of chain index 0 of a
released take its record is freed, with the last completed references to it. A unit become FREE goes first to a rescue that waits for its
destination and then to the rooms that wait for units, which leave DROPPING. OPERATION_TIMEOUT completes the operation as failed, a read
as unreadable, and the chip is reset; CHIP_RESET_READY makes a bank that was resetting IDLE, and of another bank changes nothing: the
model's choice (log entry 2). The model's choice in it: the issue of flash work at the event's end (log entry 5), a free value where
contents are open (log entry 10), the copy buffer granted (log entry 7), what a RETIRED unit shows (log entry 57), the timeout counter and
reads (log entry 31). -/
def Obligations.ErasesAndChipResets : Prop :=
  (∀ (s : State) (n : Nat) (u : UnitEntry), s.readiness = .ready → s.unit n = some u → u.state = .reclaim → s.reclaimFifo = [n] →
    s.requestNumber ≤ 4294967295 →
    (u.inFlight ≠ 0 → s.drainReclaim = s) ∧
    (u.inFlight = 0 → s.drainReclaim =
      { s.modUnit n fun y => { y with state := .erasing } with
        reclaimFifo := []
        flashOps := s.flashOps ++ [⟨5, s.requestNumber, .erase n⟩]
        requestNumber := s.requestNumber + 1 })) ∧
  (∀ (b : BankId) (s : State),
    (s.bank b = .resetting → exec (.chipResetReady b) s = .next (s.setBank b .idle).issue) ∧
    (s.bank b ≠ .resetting → exec (.chipResetReady b) s = .next s) ∧
    ∀ (cls n u p at_ : Nat) (e : UnitEntry) (x : BankId × Nat), s.bank b = .busy ⟨cls, n, .erase u⟩ u p at_ → s.unit u = some e →
      s.bankOf u = some x →
      let spoiled := fun (v : State) =>
        ({ v.storePage u 0 ((List.range (64 * 2112)).map (Config.freeByte s.freeUses)) with
          freeUses := s.freeUses + 1
          counters := { v.counters with eraseFailures := min (s.counters.eraseFailures + 1) 4294967295 } } : State)
      let failed := fun (v : State) => ((spoiled v).modUnit u fun y =>
          { y with
            state := .retired
            owner := none
            chain := none
            role := none
            writeSeq := none
            nextPage := 0
            finalPage := none
            refreshWanted := false }).raise (.unitRetired u x.1 .erase)
      let passed := ({ (((s.setBank b .idle).eraseUnit u).modUnit u fun y => ⟨y.number, .free, none, none, none, none, 0, none, false, 0⟩) with
        freeList := s.freeList ++ [u] } : State)
      let late := { s.setBank b .resetting with
        counters := { s.counters with timeouts := min (s.counters.timeouts + 1) 4294967295 } }
      let andTake := fun (v : State) => match e.owner with
        | some id =>
          if e.chain = some 0 then
            { v with
              takes := v.takes.filter fun y => y.id != id
              stations := v.stations.map fun y => { y with lastCompleted := y.lastCompleted.filter fun x => x.take != id } }
          else v
        | none => v
      (e.state = .erasing → s.unitWait = [] → s.engine = .idle →
        exec (.eraseComplete b .pass) s = .next (State.settle s (andTake passed))) ∧
      (e.state = .erasing → exec (.eraseComplete b .pass) s = .next (State.settle s (andTake passed.offerUnit))) ∧
      (e.state = .erasing → exec (.eraseComplete b .fail) s = .next (State.settle s (andTake (failed (s.setBank b .idle))))) ∧
      (e.state = .erasing → exec (.operationTimeout b) s = .next (State.settle s (andTake (failed late)))) ∧
      (e.state = .retired → exec (.eraseComplete b .pass) s = .next ((s.setBank b .idle).eraseUnit u).issue ∧
        exec (.eraseComplete b .fail) s = .next (spoiled (s.setBank b .idle)).issue)) ∧
  (∀ (s : State) (n : Nat) (rest : List Nat), s.freeList = n :: rest → s.writeSeq < 4294967295 → rest.length ≠ s.lowWater →
    let granted := fun (take chain : Nat) (role : Role) =>
      ({ s.modUnit n fun y =>
          { y with
            state := .opened
            owner := some take
            chain := some chain
            role := some role
            writeSeq := some s.writeSeq
            nextPage := 0
            finalPage := none
            refreshWanted := false
            inFlight := 0 } with
        freeList := rest
        writeSeq := s.writeSeq + 1 } : State)
    (∀ e, s.engine = .idle → s.unitWait = [e] → 2 ≤ rest.length →
      let v : State := { granted e.take e.chain .chain with unitWait := [] }
      s.offerUnit = if (s.room e.room).rescueWaiting then v else v.leaveDropping e.room) ∧
    ∀ w b t e more, s.engine = .rescue w → w.dest = none → w.buf = none → s.unitWait = [] → s.rescues = e :: more →
      e.unit = w.source → e.page ≠ 0 → s.firstFree = some b → s.findTake w.take = some t → s.requestNumber ≤ 4294967295 →
      (s.room t.room).dropping = some .noUnit → (s.room t.room).dropped = 0 →
      let v := if t.state = .recording then (granted w.take w.chain .destination).setRoom t.room
          { s.room t.room with rescueWaiting := false, dropping := none }
        else granted w.take w.chain .destination
      s.offerUnit = { (v.setBuffer b ⟨.copy, none, 0, .engine, none⟩).modUnit w.source fun y => { y with inFlight := y.inFlight + 1 } with
        engine := .rescue { w with dest := some n, buf := some b, page := 0, damaged := 0, flight := .read }
        flashOps := s.flashOps ++ [⟨2, s.requestNumber, .pageRead w.source 0 b .engine⟩]
        requestNumber := s.requestNumber + 1 }) ∧
  ∀ (b : BankId) (op : FlashOp) (u p at_ : Nat) (s : State), s.bank b = .busy op u p at_ →
    let late := { s.setBank b .resetting with
      counters := { s.counters with timeouts := min (s.counters.timeouts + 1) 4294967295 } }
    (op.kind.isProgram = true →
      exec (.programComplete b .fail) s = .next (State.settle s ((s.setBank b .idle).programDone op u p .fail)) ∧
      exec (.operationTimeout b) s = .next (State.settle s (late.programDone op u p .fail))) ∧
    (∀ buf for_, op.kind = .pageRead u p buf for_ →
      (∀ page, exec (.pageReadComplete b page) s = .next (State.settle s
        (((s.setBank b .idle).countPage (readPage (s.flashPage u p) page).2).pageReadDone u buf for_ (readPage (s.flashPage u p) page).1
          ((readPage (s.flashPage u p) page).2.getD .allLost)))) ∧
      exec (.operationTimeout b) s = .next (State.settle s
        (({ late with freeUses := s.freeUses + 1 } : State).pageReadDone u buf for_ ((List.range 2112).map (Config.freeByte s.freeUses))
          .allLost))) ∧
    (op.kind = .spareRead u p →
      (∀ page, exec (.spareReadComplete b page) s = .next (State.settle s
        (((s.setBank b .idle).countWords ((readSpare (s.flashPage u p) page).toList.map Prod.fst)).scanPage b u p
          (readSpare (s.flashPage u p) page)))) ∧
      exec (.operationTimeout b) s = .next (State.settle s (late.scanPage b u p (some (.uncorrectable, [])))))
end

