-- ==== Sys2Proof/Laws/State.lean ====
section
/-! SUPPORT. The fields of State after each named update, and reading back what was set: no later proof unfolds a record update. -/

namespace Sys2Proof.Machine

variable (s : State)


/-! ### setRoom -/

@[simp] theorem State.setRoom_roomLinks (r : RoomId) (x : Room) : (s.setRoom r x).roomLinks = s.roomLinks := rfl
@[simp] theorem State.setRoom_stationLinks (r : RoomId) (x : Room) : (s.setRoom r x).stationLinks = s.stationLinks := rfl
@[simp] theorem State.setRoom_supervisorLink (r : RoomId) (x : Room) : (s.setRoom r x).supervisorLink = s.supervisorLink := rfl
@[simp] theorem State.setRoom_takes (r : RoomId) (x : Room) : (s.setRoom r x).takes = s.takes := rfl
@[simp] theorem State.setRoom_lastId (r : RoomId) (x : Room) : (s.setRoom r x).lastId = s.lastId := rfl
@[simp] theorem State.setRoom_enqueueCounter (r : RoomId) (x : Room) : (s.setRoom r x).enqueueCounter = s.enqueueCounter := rfl
@[simp] theorem State.setRoom_stations (r : RoomId) (x : Room) : (s.setRoom r x).stations = s.stations := rfl
@[simp] theorem State.setRoom_readbacks (r : RoomId) (x : Room) : (s.setRoom r x).readbacks = s.readbacks := rfl
@[simp] theorem State.setRoom_buffers (r : RoomId) (x : Room) : (s.setRoom r x).buffers = s.buffers := rfl
@[simp] theorem State.setRoom_dropWait (r : RoomId) (x : Room) : (s.setRoom r x).dropWait = s.dropWait := rfl
@[simp] theorem State.setRoom_ram (r : RoomId) (x : Room) : (s.setRoom r x).ram = s.ram := rfl
@[simp] theorem State.setRoom_windows (r : RoomId) (x : Room) : (s.setRoom r x).windows = s.windows := rfl
@[simp] theorem State.setRoom_units (r : RoomId) (x : Room) : (s.setRoom r x).units = s.units := rfl
@[simp] theorem State.setRoom_freeList (r : RoomId) (x : Room) : (s.setRoom r x).freeList = s.freeList := rfl
@[simp] theorem State.setRoom_reclaimFifo (r : RoomId) (x : Room) : (s.setRoom r x).reclaimFifo = s.reclaimFifo := rfl
@[simp] theorem State.setRoom_refreshFifo (r : RoomId) (x : Room) : (s.setRoom r x).refreshFifo = s.refreshFifo := rfl
@[simp] theorem State.setRoom_unitWait (r : RoomId) (x : Room) : (s.setRoom r x).unitWait = s.unitWait := rfl
@[simp] theorem State.setRoom_rescues (r : RoomId) (x : Room) : (s.setRoom r x).rescues = s.rescues := rfl
@[simp] theorem State.setRoom_engine (r : RoomId) (x : Room) : (s.setRoom r x).engine = s.engine := rfl
@[simp] theorem State.setRoom_writeSeq (r : RoomId) (x : Room) : (s.setRoom r x).writeSeq = s.writeSeq := rfl
@[simp] theorem State.setRoom_banks (r : RoomId) (x : Room) : (s.setRoom r x).banks = s.banks := rfl
@[simp] theorem State.setRoom_flashOps (r : RoomId) (x : Room) : (s.setRoom r x).flashOps = s.flashOps := rfl
@[simp] theorem State.setRoom_requestNumber (r : RoomId) (x : Room) : (s.setRoom r x).requestNumber = s.requestNumber := rfl
@[simp] theorem State.setRoom_counters (r : RoomId) (x : Room) : (s.setRoom r x).counters = s.counters := rfl
@[simp] theorem State.setRoom_flash (r : RoomId) (x : Room) : (s.setRoom r x).flash = s.flash := rfl
@[simp] theorem State.setRoom_readiness (r : RoomId) (x : Room) : (s.setRoom r x).readiness = s.readiness := rfl
@[simp] theorem State.setRoom_rebuild (r : RoomId) (x : Room) : (s.setRoom r x).rebuild = s.rebuild := rfl
@[simp] theorem State.setRoom_threshold (r : RoomId) (x : Room) : (s.setRoom r x).threshold = s.threshold := rfl
@[simp] theorem State.setRoom_lowWater (r : RoomId) (x : Room) : (s.setRoom r x).lowWater = s.lowWater := rfl
@[simp] theorem State.setRoom_alertMask (r : RoomId) (x : Room) : (s.setRoom r x).alertMask = s.alertMask := rfl
@[simp] theorem State.setRoom_settingsHold (r : RoomId) (x : Room) : (s.setRoom r x).settingsHold = s.settingsHold := rfl
@[simp] theorem State.setRoom_alerts (r : RoomId) (x : Room) : (s.setRoom r x).alerts = s.alerts := rfl
@[simp] theorem State.setRoom_alertOverflow (r : RoomId) (x : Room) : (s.setRoom r x).alertOverflow = s.alertOverflow := rfl
@[simp] theorem State.setRoom_nextAlert (r : RoomId) (x : Room) : (s.setRoom r x).nextAlert = s.nextAlert := rfl
@[simp] theorem State.setRoom_clock (r : RoomId) (x : Room) : (s.setRoom r x).clock = s.clock := rfl
@[simp] theorem State.setRoom_freeUses (r : RoomId) (x : Room) : (s.setRoom r x).freeUses = s.freeUses := rfl
@[simp] theorem State.setRoom_pending (r : RoomId) (x : Room) : (s.setRoom r x).pending = s.pending := rfl

/-! ### setStation -/

@[simp] theorem State.setStation_roomLinks (k : StationId) (x : Station) : (s.setStation k x).roomLinks = s.roomLinks := rfl
@[simp] theorem State.setStation_stationLinks (k : StationId) (x : Station) : (s.setStation k x).stationLinks = s.stationLinks := rfl
@[simp] theorem State.setStation_supervisorLink (k : StationId) (x : Station) : (s.setStation k x).supervisorLink = s.supervisorLink := rfl
@[simp] theorem State.setStation_rooms (k : StationId) (x : Station) : (s.setStation k x).rooms = s.rooms := rfl
@[simp] theorem State.setStation_takes (k : StationId) (x : Station) : (s.setStation k x).takes = s.takes := rfl
@[simp] theorem State.setStation_lastId (k : StationId) (x : Station) : (s.setStation k x).lastId = s.lastId := rfl
@[simp] theorem State.setStation_enqueueCounter (k : StationId) (x : Station) : (s.setStation k x).enqueueCounter = s.enqueueCounter := rfl
@[simp] theorem State.setStation_readbacks (k : StationId) (x : Station) : (s.setStation k x).readbacks = s.readbacks := rfl
@[simp] theorem State.setStation_buffers (k : StationId) (x : Station) : (s.setStation k x).buffers = s.buffers := rfl
@[simp] theorem State.setStation_dropWait (k : StationId) (x : Station) : (s.setStation k x).dropWait = s.dropWait := rfl
@[simp] theorem State.setStation_ram (k : StationId) (x : Station) : (s.setStation k x).ram = s.ram := rfl
@[simp] theorem State.setStation_windows (k : StationId) (x : Station) : (s.setStation k x).windows = s.windows := rfl
@[simp] theorem State.setStation_units (k : StationId) (x : Station) : (s.setStation k x).units = s.units := rfl
@[simp] theorem State.setStation_freeList (k : StationId) (x : Station) : (s.setStation k x).freeList = s.freeList := rfl
@[simp] theorem State.setStation_reclaimFifo (k : StationId) (x : Station) : (s.setStation k x).reclaimFifo = s.reclaimFifo := rfl
@[simp] theorem State.setStation_refreshFifo (k : StationId) (x : Station) : (s.setStation k x).refreshFifo = s.refreshFifo := rfl
@[simp] theorem State.setStation_unitWait (k : StationId) (x : Station) : (s.setStation k x).unitWait = s.unitWait := rfl
@[simp] theorem State.setStation_rescues (k : StationId) (x : Station) : (s.setStation k x).rescues = s.rescues := rfl
@[simp] theorem State.setStation_engine (k : StationId) (x : Station) : (s.setStation k x).engine = s.engine := rfl
@[simp] theorem State.setStation_writeSeq (k : StationId) (x : Station) : (s.setStation k x).writeSeq = s.writeSeq := rfl
@[simp] theorem State.setStation_banks (k : StationId) (x : Station) : (s.setStation k x).banks = s.banks := rfl
@[simp] theorem State.setStation_flashOps (k : StationId) (x : Station) : (s.setStation k x).flashOps = s.flashOps := rfl
@[simp] theorem State.setStation_requestNumber (k : StationId) (x : Station) : (s.setStation k x).requestNumber = s.requestNumber := rfl
@[simp] theorem State.setStation_counters (k : StationId) (x : Station) : (s.setStation k x).counters = s.counters := rfl
@[simp] theorem State.setStation_flash (k : StationId) (x : Station) : (s.setStation k x).flash = s.flash := rfl
@[simp] theorem State.setStation_readiness (k : StationId) (x : Station) : (s.setStation k x).readiness = s.readiness := rfl
@[simp] theorem State.setStation_rebuild (k : StationId) (x : Station) : (s.setStation k x).rebuild = s.rebuild := rfl
@[simp] theorem State.setStation_threshold (k : StationId) (x : Station) : (s.setStation k x).threshold = s.threshold := rfl
@[simp] theorem State.setStation_lowWater (k : StationId) (x : Station) : (s.setStation k x).lowWater = s.lowWater := rfl
@[simp] theorem State.setStation_alertMask (k : StationId) (x : Station) : (s.setStation k x).alertMask = s.alertMask := rfl
@[simp] theorem State.setStation_settingsHold (k : StationId) (x : Station) : (s.setStation k x).settingsHold = s.settingsHold := rfl
@[simp] theorem State.setStation_alerts (k : StationId) (x : Station) : (s.setStation k x).alerts = s.alerts := rfl
@[simp] theorem State.setStation_alertOverflow (k : StationId) (x : Station) : (s.setStation k x).alertOverflow = s.alertOverflow := rfl
@[simp] theorem State.setStation_nextAlert (k : StationId) (x : Station) : (s.setStation k x).nextAlert = s.nextAlert := rfl
@[simp] theorem State.setStation_clock (k : StationId) (x : Station) : (s.setStation k x).clock = s.clock := rfl
@[simp] theorem State.setStation_freeUses (k : StationId) (x : Station) : (s.setStation k x).freeUses = s.freeUses := rfl
@[simp] theorem State.setStation_pending (k : StationId) (x : Station) : (s.setStation k x).pending = s.pending := rfl

/-! ### setReadback -/

@[simp] theorem State.setReadback_roomLinks (r : RoomId) (x : Readback) : (s.setReadback r x).roomLinks = s.roomLinks := rfl
@[simp] theorem State.setReadback_stationLinks (r : RoomId) (x : Readback) : (s.setReadback r x).stationLinks = s.stationLinks := rfl
@[simp] theorem State.setReadback_supervisorLink (r : RoomId) (x : Readback) : (s.setReadback r x).supervisorLink = s.supervisorLink := rfl
@[simp] theorem State.setReadback_rooms (r : RoomId) (x : Readback) : (s.setReadback r x).rooms = s.rooms := rfl
@[simp] theorem State.setReadback_takes (r : RoomId) (x : Readback) : (s.setReadback r x).takes = s.takes := rfl
@[simp] theorem State.setReadback_lastId (r : RoomId) (x : Readback) : (s.setReadback r x).lastId = s.lastId := rfl
@[simp] theorem State.setReadback_enqueueCounter (r : RoomId) (x : Readback) : (s.setReadback r x).enqueueCounter = s.enqueueCounter := rfl
@[simp] theorem State.setReadback_stations (r : RoomId) (x : Readback) : (s.setReadback r x).stations = s.stations := rfl
@[simp] theorem State.setReadback_buffers (r : RoomId) (x : Readback) : (s.setReadback r x).buffers = s.buffers := rfl
@[simp] theorem State.setReadback_dropWait (r : RoomId) (x : Readback) : (s.setReadback r x).dropWait = s.dropWait := rfl
@[simp] theorem State.setReadback_ram (r : RoomId) (x : Readback) : (s.setReadback r x).ram = s.ram := rfl
@[simp] theorem State.setReadback_windows (r : RoomId) (x : Readback) : (s.setReadback r x).windows = s.windows := rfl
@[simp] theorem State.setReadback_units (r : RoomId) (x : Readback) : (s.setReadback r x).units = s.units := rfl
@[simp] theorem State.setReadback_freeList (r : RoomId) (x : Readback) : (s.setReadback r x).freeList = s.freeList := rfl
@[simp] theorem State.setReadback_reclaimFifo (r : RoomId) (x : Readback) : (s.setReadback r x).reclaimFifo = s.reclaimFifo := rfl
@[simp] theorem State.setReadback_refreshFifo (r : RoomId) (x : Readback) : (s.setReadback r x).refreshFifo = s.refreshFifo := rfl
@[simp] theorem State.setReadback_unitWait (r : RoomId) (x : Readback) : (s.setReadback r x).unitWait = s.unitWait := rfl
@[simp] theorem State.setReadback_rescues (r : RoomId) (x : Readback) : (s.setReadback r x).rescues = s.rescues := rfl
@[simp] theorem State.setReadback_engine (r : RoomId) (x : Readback) : (s.setReadback r x).engine = s.engine := rfl
@[simp] theorem State.setReadback_writeSeq (r : RoomId) (x : Readback) : (s.setReadback r x).writeSeq = s.writeSeq := rfl
@[simp] theorem State.setReadback_banks (r : RoomId) (x : Readback) : (s.setReadback r x).banks = s.banks := rfl
@[simp] theorem State.setReadback_flashOps (r : RoomId) (x : Readback) : (s.setReadback r x).flashOps = s.flashOps := rfl
@[simp] theorem State.setReadback_requestNumber (r : RoomId) (x : Readback) : (s.setReadback r x).requestNumber = s.requestNumber := rfl
@[simp] theorem State.setReadback_counters (r : RoomId) (x : Readback) : (s.setReadback r x).counters = s.counters := rfl
@[simp] theorem State.setReadback_flash (r : RoomId) (x : Readback) : (s.setReadback r x).flash = s.flash := rfl
@[simp] theorem State.setReadback_readiness (r : RoomId) (x : Readback) : (s.setReadback r x).readiness = s.readiness := rfl
@[simp] theorem State.setReadback_rebuild (r : RoomId) (x : Readback) : (s.setReadback r x).rebuild = s.rebuild := rfl
@[simp] theorem State.setReadback_threshold (r : RoomId) (x : Readback) : (s.setReadback r x).threshold = s.threshold := rfl
@[simp] theorem State.setReadback_lowWater (r : RoomId) (x : Readback) : (s.setReadback r x).lowWater = s.lowWater := rfl
@[simp] theorem State.setReadback_alertMask (r : RoomId) (x : Readback) : (s.setReadback r x).alertMask = s.alertMask := rfl
@[simp] theorem State.setReadback_settingsHold (r : RoomId) (x : Readback) : (s.setReadback r x).settingsHold = s.settingsHold := rfl
@[simp] theorem State.setReadback_alerts (r : RoomId) (x : Readback) : (s.setReadback r x).alerts = s.alerts := rfl
@[simp] theorem State.setReadback_alertOverflow (r : RoomId) (x : Readback) : (s.setReadback r x).alertOverflow = s.alertOverflow := rfl
@[simp] theorem State.setReadback_nextAlert (r : RoomId) (x : Readback) : (s.setReadback r x).nextAlert = s.nextAlert := rfl
@[simp] theorem State.setReadback_clock (r : RoomId) (x : Readback) : (s.setReadback r x).clock = s.clock := rfl
@[simp] theorem State.setReadback_freeUses (r : RoomId) (x : Readback) : (s.setReadback r x).freeUses = s.freeUses := rfl
@[simp] theorem State.setReadback_pending (r : RoomId) (x : Readback) : (s.setReadback r x).pending = s.pending := rfl

/-! ### setBuffer -/

@[simp] theorem State.setBuffer_roomLinks (b : BufId) (x : Buffer) : (s.setBuffer b x).roomLinks = s.roomLinks := rfl
@[simp] theorem State.setBuffer_stationLinks (b : BufId) (x : Buffer) : (s.setBuffer b x).stationLinks = s.stationLinks := rfl
@[simp] theorem State.setBuffer_supervisorLink (b : BufId) (x : Buffer) : (s.setBuffer b x).supervisorLink = s.supervisorLink := rfl
@[simp] theorem State.setBuffer_rooms (b : BufId) (x : Buffer) : (s.setBuffer b x).rooms = s.rooms := rfl
@[simp] theorem State.setBuffer_takes (b : BufId) (x : Buffer) : (s.setBuffer b x).takes = s.takes := rfl
@[simp] theorem State.setBuffer_lastId (b : BufId) (x : Buffer) : (s.setBuffer b x).lastId = s.lastId := rfl
@[simp] theorem State.setBuffer_enqueueCounter (b : BufId) (x : Buffer) : (s.setBuffer b x).enqueueCounter = s.enqueueCounter := rfl
@[simp] theorem State.setBuffer_stations (b : BufId) (x : Buffer) : (s.setBuffer b x).stations = s.stations := rfl
@[simp] theorem State.setBuffer_readbacks (b : BufId) (x : Buffer) : (s.setBuffer b x).readbacks = s.readbacks := rfl
@[simp] theorem State.setBuffer_dropWait (b : BufId) (x : Buffer) : (s.setBuffer b x).dropWait = s.dropWait := rfl
@[simp] theorem State.setBuffer_ram (b : BufId) (x : Buffer) : (s.setBuffer b x).ram = s.ram := rfl
@[simp] theorem State.setBuffer_windows (b : BufId) (x : Buffer) : (s.setBuffer b x).windows = s.windows := rfl
@[simp] theorem State.setBuffer_units (b : BufId) (x : Buffer) : (s.setBuffer b x).units = s.units := rfl
@[simp] theorem State.setBuffer_freeList (b : BufId) (x : Buffer) : (s.setBuffer b x).freeList = s.freeList := rfl
@[simp] theorem State.setBuffer_reclaimFifo (b : BufId) (x : Buffer) : (s.setBuffer b x).reclaimFifo = s.reclaimFifo := rfl
@[simp] theorem State.setBuffer_refreshFifo (b : BufId) (x : Buffer) : (s.setBuffer b x).refreshFifo = s.refreshFifo := rfl
@[simp] theorem State.setBuffer_unitWait (b : BufId) (x : Buffer) : (s.setBuffer b x).unitWait = s.unitWait := rfl
@[simp] theorem State.setBuffer_rescues (b : BufId) (x : Buffer) : (s.setBuffer b x).rescues = s.rescues := rfl
@[simp] theorem State.setBuffer_engine (b : BufId) (x : Buffer) : (s.setBuffer b x).engine = s.engine := rfl
@[simp] theorem State.setBuffer_writeSeq (b : BufId) (x : Buffer) : (s.setBuffer b x).writeSeq = s.writeSeq := rfl
@[simp] theorem State.setBuffer_banks (b : BufId) (x : Buffer) : (s.setBuffer b x).banks = s.banks := rfl
@[simp] theorem State.setBuffer_flashOps (b : BufId) (x : Buffer) : (s.setBuffer b x).flashOps = s.flashOps := rfl
@[simp] theorem State.setBuffer_requestNumber (b : BufId) (x : Buffer) : (s.setBuffer b x).requestNumber = s.requestNumber := rfl
@[simp] theorem State.setBuffer_counters (b : BufId) (x : Buffer) : (s.setBuffer b x).counters = s.counters := rfl
@[simp] theorem State.setBuffer_flash (b : BufId) (x : Buffer) : (s.setBuffer b x).flash = s.flash := rfl
@[simp] theorem State.setBuffer_readiness (b : BufId) (x : Buffer) : (s.setBuffer b x).readiness = s.readiness := rfl
@[simp] theorem State.setBuffer_rebuild (b : BufId) (x : Buffer) : (s.setBuffer b x).rebuild = s.rebuild := rfl
@[simp] theorem State.setBuffer_threshold (b : BufId) (x : Buffer) : (s.setBuffer b x).threshold = s.threshold := rfl
@[simp] theorem State.setBuffer_lowWater (b : BufId) (x : Buffer) : (s.setBuffer b x).lowWater = s.lowWater := rfl
@[simp] theorem State.setBuffer_alertMask (b : BufId) (x : Buffer) : (s.setBuffer b x).alertMask = s.alertMask := rfl
@[simp] theorem State.setBuffer_settingsHold (b : BufId) (x : Buffer) : (s.setBuffer b x).settingsHold = s.settingsHold := rfl
@[simp] theorem State.setBuffer_alerts (b : BufId) (x : Buffer) : (s.setBuffer b x).alerts = s.alerts := rfl
@[simp] theorem State.setBuffer_alertOverflow (b : BufId) (x : Buffer) : (s.setBuffer b x).alertOverflow = s.alertOverflow := rfl
@[simp] theorem State.setBuffer_nextAlert (b : BufId) (x : Buffer) : (s.setBuffer b x).nextAlert = s.nextAlert := rfl
@[simp] theorem State.setBuffer_clock (b : BufId) (x : Buffer) : (s.setBuffer b x).clock = s.clock := rfl
@[simp] theorem State.setBuffer_freeUses (b : BufId) (x : Buffer) : (s.setBuffer b x).freeUses = s.freeUses := rfl
@[simp] theorem State.setBuffer_pending (b : BufId) (x : Buffer) : (s.setBuffer b x).pending = s.pending := rfl

/-! ### setBank -/

@[simp] theorem State.setBank_roomLinks (b : BankId) (x : BankRec) : (s.setBank b x).roomLinks = s.roomLinks := rfl
@[simp] theorem State.setBank_stationLinks (b : BankId) (x : BankRec) : (s.setBank b x).stationLinks = s.stationLinks := rfl
@[simp] theorem State.setBank_supervisorLink (b : BankId) (x : BankRec) : (s.setBank b x).supervisorLink = s.supervisorLink := rfl
@[simp] theorem State.setBank_rooms (b : BankId) (x : BankRec) : (s.setBank b x).rooms = s.rooms := rfl
@[simp] theorem State.setBank_takes (b : BankId) (x : BankRec) : (s.setBank b x).takes = s.takes := rfl
@[simp] theorem State.setBank_lastId (b : BankId) (x : BankRec) : (s.setBank b x).lastId = s.lastId := rfl
@[simp] theorem State.setBank_enqueueCounter (b : BankId) (x : BankRec) : (s.setBank b x).enqueueCounter = s.enqueueCounter := rfl
@[simp] theorem State.setBank_stations (b : BankId) (x : BankRec) : (s.setBank b x).stations = s.stations := rfl
@[simp] theorem State.setBank_readbacks (b : BankId) (x : BankRec) : (s.setBank b x).readbacks = s.readbacks := rfl
@[simp] theorem State.setBank_buffers (b : BankId) (x : BankRec) : (s.setBank b x).buffers = s.buffers := rfl
@[simp] theorem State.setBank_dropWait (b : BankId) (x : BankRec) : (s.setBank b x).dropWait = s.dropWait := rfl
@[simp] theorem State.setBank_ram (b : BankId) (x : BankRec) : (s.setBank b x).ram = s.ram := rfl
@[simp] theorem State.setBank_windows (b : BankId) (x : BankRec) : (s.setBank b x).windows = s.windows := rfl
@[simp] theorem State.setBank_units (b : BankId) (x : BankRec) : (s.setBank b x).units = s.units := rfl
@[simp] theorem State.setBank_freeList (b : BankId) (x : BankRec) : (s.setBank b x).freeList = s.freeList := rfl
@[simp] theorem State.setBank_reclaimFifo (b : BankId) (x : BankRec) : (s.setBank b x).reclaimFifo = s.reclaimFifo := rfl
@[simp] theorem State.setBank_refreshFifo (b : BankId) (x : BankRec) : (s.setBank b x).refreshFifo = s.refreshFifo := rfl
@[simp] theorem State.setBank_unitWait (b : BankId) (x : BankRec) : (s.setBank b x).unitWait = s.unitWait := rfl
@[simp] theorem State.setBank_rescues (b : BankId) (x : BankRec) : (s.setBank b x).rescues = s.rescues := rfl
@[simp] theorem State.setBank_engine (b : BankId) (x : BankRec) : (s.setBank b x).engine = s.engine := rfl
@[simp] theorem State.setBank_writeSeq (b : BankId) (x : BankRec) : (s.setBank b x).writeSeq = s.writeSeq := rfl
@[simp] theorem State.setBank_flashOps (b : BankId) (x : BankRec) : (s.setBank b x).flashOps = s.flashOps := rfl
@[simp] theorem State.setBank_requestNumber (b : BankId) (x : BankRec) : (s.setBank b x).requestNumber = s.requestNumber := rfl
@[simp] theorem State.setBank_counters (b : BankId) (x : BankRec) : (s.setBank b x).counters = s.counters := rfl
@[simp] theorem State.setBank_flash (b : BankId) (x : BankRec) : (s.setBank b x).flash = s.flash := rfl
@[simp] theorem State.setBank_readiness (b : BankId) (x : BankRec) : (s.setBank b x).readiness = s.readiness := rfl
@[simp] theorem State.setBank_rebuild (b : BankId) (x : BankRec) : (s.setBank b x).rebuild = s.rebuild := rfl
@[simp] theorem State.setBank_threshold (b : BankId) (x : BankRec) : (s.setBank b x).threshold = s.threshold := rfl
@[simp] theorem State.setBank_lowWater (b : BankId) (x : BankRec) : (s.setBank b x).lowWater = s.lowWater := rfl
@[simp] theorem State.setBank_alertMask (b : BankId) (x : BankRec) : (s.setBank b x).alertMask = s.alertMask := rfl
@[simp] theorem State.setBank_settingsHold (b : BankId) (x : BankRec) : (s.setBank b x).settingsHold = s.settingsHold := rfl
@[simp] theorem State.setBank_alerts (b : BankId) (x : BankRec) : (s.setBank b x).alerts = s.alerts := rfl
@[simp] theorem State.setBank_alertOverflow (b : BankId) (x : BankRec) : (s.setBank b x).alertOverflow = s.alertOverflow := rfl
@[simp] theorem State.setBank_nextAlert (b : BankId) (x : BankRec) : (s.setBank b x).nextAlert = s.nextAlert := rfl
@[simp] theorem State.setBank_clock (b : BankId) (x : BankRec) : (s.setBank b x).clock = s.clock := rfl
@[simp] theorem State.setBank_freeUses (b : BankId) (x : BankRec) : (s.setBank b x).freeUses = s.freeUses := rfl
@[simp] theorem State.setBank_pending (b : BankId) (x : BankRec) : (s.setBank b x).pending = s.pending := rfl

/-! ### modTake -/

@[simp] theorem State.modTake_roomLinks (n : Nat) (f : Take → Take) : (s.modTake n f).roomLinks = s.roomLinks := rfl
@[simp] theorem State.modTake_stationLinks (n : Nat) (f : Take → Take) : (s.modTake n f).stationLinks = s.stationLinks := rfl
@[simp] theorem State.modTake_supervisorLink (n : Nat) (f : Take → Take) : (s.modTake n f).supervisorLink = s.supervisorLink := rfl
@[simp] theorem State.modTake_rooms (n : Nat) (f : Take → Take) : (s.modTake n f).rooms = s.rooms := rfl
@[simp] theorem State.modTake_lastId (n : Nat) (f : Take → Take) : (s.modTake n f).lastId = s.lastId := rfl
@[simp] theorem State.modTake_enqueueCounter (n : Nat) (f : Take → Take) : (s.modTake n f).enqueueCounter = s.enqueueCounter := rfl
@[simp] theorem State.modTake_stations (n : Nat) (f : Take → Take) : (s.modTake n f).stations = s.stations := rfl
@[simp] theorem State.modTake_readbacks (n : Nat) (f : Take → Take) : (s.modTake n f).readbacks = s.readbacks := rfl
@[simp] theorem State.modTake_buffers (n : Nat) (f : Take → Take) : (s.modTake n f).buffers = s.buffers := rfl
@[simp] theorem State.modTake_dropWait (n : Nat) (f : Take → Take) : (s.modTake n f).dropWait = s.dropWait := rfl
@[simp] theorem State.modTake_ram (n : Nat) (f : Take → Take) : (s.modTake n f).ram = s.ram := rfl
@[simp] theorem State.modTake_windows (n : Nat) (f : Take → Take) : (s.modTake n f).windows = s.windows := rfl
@[simp] theorem State.modTake_units (n : Nat) (f : Take → Take) : (s.modTake n f).units = s.units := rfl
@[simp] theorem State.modTake_freeList (n : Nat) (f : Take → Take) : (s.modTake n f).freeList = s.freeList := rfl
@[simp] theorem State.modTake_reclaimFifo (n : Nat) (f : Take → Take) : (s.modTake n f).reclaimFifo = s.reclaimFifo := rfl
@[simp] theorem State.modTake_refreshFifo (n : Nat) (f : Take → Take) : (s.modTake n f).refreshFifo = s.refreshFifo := rfl
@[simp] theorem State.modTake_unitWait (n : Nat) (f : Take → Take) : (s.modTake n f).unitWait = s.unitWait := rfl
@[simp] theorem State.modTake_rescues (n : Nat) (f : Take → Take) : (s.modTake n f).rescues = s.rescues := rfl
@[simp] theorem State.modTake_engine (n : Nat) (f : Take → Take) : (s.modTake n f).engine = s.engine := rfl
@[simp] theorem State.modTake_writeSeq (n : Nat) (f : Take → Take) : (s.modTake n f).writeSeq = s.writeSeq := rfl
@[simp] theorem State.modTake_banks (n : Nat) (f : Take → Take) : (s.modTake n f).banks = s.banks := rfl
@[simp] theorem State.modTake_flashOps (n : Nat) (f : Take → Take) : (s.modTake n f).flashOps = s.flashOps := rfl
@[simp] theorem State.modTake_requestNumber (n : Nat) (f : Take → Take) : (s.modTake n f).requestNumber = s.requestNumber := rfl
@[simp] theorem State.modTake_counters (n : Nat) (f : Take → Take) : (s.modTake n f).counters = s.counters := rfl
@[simp] theorem State.modTake_flash (n : Nat) (f : Take → Take) : (s.modTake n f).flash = s.flash := rfl
@[simp] theorem State.modTake_readiness (n : Nat) (f : Take → Take) : (s.modTake n f).readiness = s.readiness := rfl
@[simp] theorem State.modTake_rebuild (n : Nat) (f : Take → Take) : (s.modTake n f).rebuild = s.rebuild := rfl
@[simp] theorem State.modTake_threshold (n : Nat) (f : Take → Take) : (s.modTake n f).threshold = s.threshold := rfl
@[simp] theorem State.modTake_lowWater (n : Nat) (f : Take → Take) : (s.modTake n f).lowWater = s.lowWater := rfl
@[simp] theorem State.modTake_alertMask (n : Nat) (f : Take → Take) : (s.modTake n f).alertMask = s.alertMask := rfl
@[simp] theorem State.modTake_settingsHold (n : Nat) (f : Take → Take) : (s.modTake n f).settingsHold = s.settingsHold := rfl
@[simp] theorem State.modTake_alerts (n : Nat) (f : Take → Take) : (s.modTake n f).alerts = s.alerts := rfl
@[simp] theorem State.modTake_alertOverflow (n : Nat) (f : Take → Take) : (s.modTake n f).alertOverflow = s.alertOverflow := rfl
@[simp] theorem State.modTake_nextAlert (n : Nat) (f : Take → Take) : (s.modTake n f).nextAlert = s.nextAlert := rfl
@[simp] theorem State.modTake_clock (n : Nat) (f : Take → Take) : (s.modTake n f).clock = s.clock := rfl
@[simp] theorem State.modTake_freeUses (n : Nat) (f : Take → Take) : (s.modTake n f).freeUses = s.freeUses := rfl
@[simp] theorem State.modTake_pending (n : Nat) (f : Take → Take) : (s.modTake n f).pending = s.pending := rfl

/-! ### modUnit -/

@[simp] theorem State.modUnit_roomLinks (n : Nat) (f : UnitEntry → UnitEntry) : (s.modUnit n f).roomLinks = s.roomLinks := rfl
@[simp] theorem State.modUnit_stationLinks (n : Nat) (f : UnitEntry → UnitEntry) : (s.modUnit n f).stationLinks = s.stationLinks := rfl
@[simp] theorem State.modUnit_supervisorLink (n : Nat) (f : UnitEntry → UnitEntry) : (s.modUnit n f).supervisorLink = s.supervisorLink := rfl
@[simp] theorem State.modUnit_rooms (n : Nat) (f : UnitEntry → UnitEntry) : (s.modUnit n f).rooms = s.rooms := rfl
@[simp] theorem State.modUnit_takes (n : Nat) (f : UnitEntry → UnitEntry) : (s.modUnit n f).takes = s.takes := rfl
@[simp] theorem State.modUnit_lastId (n : Nat) (f : UnitEntry → UnitEntry) : (s.modUnit n f).lastId = s.lastId := rfl
@[simp] theorem State.modUnit_enqueueCounter (n : Nat) (f : UnitEntry → UnitEntry) : (s.modUnit n f).enqueueCounter = s.enqueueCounter := rfl
@[simp] theorem State.modUnit_stations (n : Nat) (f : UnitEntry → UnitEntry) : (s.modUnit n f).stations = s.stations := rfl
@[simp] theorem State.modUnit_readbacks (n : Nat) (f : UnitEntry → UnitEntry) : (s.modUnit n f).readbacks = s.readbacks := rfl
@[simp] theorem State.modUnit_buffers (n : Nat) (f : UnitEntry → UnitEntry) : (s.modUnit n f).buffers = s.buffers := rfl
@[simp] theorem State.modUnit_dropWait (n : Nat) (f : UnitEntry → UnitEntry) : (s.modUnit n f).dropWait = s.dropWait := rfl
@[simp] theorem State.modUnit_ram (n : Nat) (f : UnitEntry → UnitEntry) : (s.modUnit n f).ram = s.ram := rfl
@[simp] theorem State.modUnit_windows (n : Nat) (f : UnitEntry → UnitEntry) : (s.modUnit n f).windows = s.windows := rfl
@[simp] theorem State.modUnit_freeList (n : Nat) (f : UnitEntry → UnitEntry) : (s.modUnit n f).freeList = s.freeList := rfl
@[simp] theorem State.modUnit_reclaimFifo (n : Nat) (f : UnitEntry → UnitEntry) : (s.modUnit n f).reclaimFifo = s.reclaimFifo := rfl
@[simp] theorem State.modUnit_refreshFifo (n : Nat) (f : UnitEntry → UnitEntry) : (s.modUnit n f).refreshFifo = s.refreshFifo := rfl
@[simp] theorem State.modUnit_unitWait (n : Nat) (f : UnitEntry → UnitEntry) : (s.modUnit n f).unitWait = s.unitWait := rfl
@[simp] theorem State.modUnit_rescues (n : Nat) (f : UnitEntry → UnitEntry) : (s.modUnit n f).rescues = s.rescues := rfl
@[simp] theorem State.modUnit_engine (n : Nat) (f : UnitEntry → UnitEntry) : (s.modUnit n f).engine = s.engine := rfl
@[simp] theorem State.modUnit_writeSeq (n : Nat) (f : UnitEntry → UnitEntry) : (s.modUnit n f).writeSeq = s.writeSeq := rfl
@[simp] theorem State.modUnit_banks (n : Nat) (f : UnitEntry → UnitEntry) : (s.modUnit n f).banks = s.banks := rfl
@[simp] theorem State.modUnit_flashOps (n : Nat) (f : UnitEntry → UnitEntry) : (s.modUnit n f).flashOps = s.flashOps := rfl
@[simp] theorem State.modUnit_requestNumber (n : Nat) (f : UnitEntry → UnitEntry) : (s.modUnit n f).requestNumber = s.requestNumber := rfl
@[simp] theorem State.modUnit_counters (n : Nat) (f : UnitEntry → UnitEntry) : (s.modUnit n f).counters = s.counters := rfl
@[simp] theorem State.modUnit_flash (n : Nat) (f : UnitEntry → UnitEntry) : (s.modUnit n f).flash = s.flash := rfl
@[simp] theorem State.modUnit_readiness (n : Nat) (f : UnitEntry → UnitEntry) : (s.modUnit n f).readiness = s.readiness := rfl
@[simp] theorem State.modUnit_rebuild (n : Nat) (f : UnitEntry → UnitEntry) : (s.modUnit n f).rebuild = s.rebuild := rfl
@[simp] theorem State.modUnit_threshold (n : Nat) (f : UnitEntry → UnitEntry) : (s.modUnit n f).threshold = s.threshold := rfl
@[simp] theorem State.modUnit_lowWater (n : Nat) (f : UnitEntry → UnitEntry) : (s.modUnit n f).lowWater = s.lowWater := rfl
@[simp] theorem State.modUnit_alertMask (n : Nat) (f : UnitEntry → UnitEntry) : (s.modUnit n f).alertMask = s.alertMask := rfl
@[simp] theorem State.modUnit_settingsHold (n : Nat) (f : UnitEntry → UnitEntry) : (s.modUnit n f).settingsHold = s.settingsHold := rfl
@[simp] theorem State.modUnit_alerts (n : Nat) (f : UnitEntry → UnitEntry) : (s.modUnit n f).alerts = s.alerts := rfl
@[simp] theorem State.modUnit_alertOverflow (n : Nat) (f : UnitEntry → UnitEntry) : (s.modUnit n f).alertOverflow = s.alertOverflow := rfl
@[simp] theorem State.modUnit_nextAlert (n : Nat) (f : UnitEntry → UnitEntry) : (s.modUnit n f).nextAlert = s.nextAlert := rfl
@[simp] theorem State.modUnit_clock (n : Nat) (f : UnitEntry → UnitEntry) : (s.modUnit n f).clock = s.clock := rfl
@[simp] theorem State.modUnit_freeUses (n : Nat) (f : UnitEntry → UnitEntry) : (s.modUnit n f).freeUses = s.freeUses := rfl
@[simp] theorem State.modUnit_pending (n : Nat) (f : UnitEntry → UnitEntry) : (s.modUnit n f).pending = s.pending := rfl

/-! ### writeBuf -/

@[simp] theorem State.writeBuf_roomLinks (b : BufId) (o : Nat) (bs : List Byte) : (s.writeBuf b o bs).roomLinks = s.roomLinks := rfl
@[simp] theorem State.writeBuf_stationLinks (b : BufId) (o : Nat) (bs : List Byte) : (s.writeBuf b o bs).stationLinks = s.stationLinks := rfl
@[simp] theorem State.writeBuf_supervisorLink (b : BufId) (o : Nat) (bs : List Byte) : (s.writeBuf b o bs).supervisorLink = s.supervisorLink := rfl
@[simp] theorem State.writeBuf_rooms (b : BufId) (o : Nat) (bs : List Byte) : (s.writeBuf b o bs).rooms = s.rooms := rfl
@[simp] theorem State.writeBuf_takes (b : BufId) (o : Nat) (bs : List Byte) : (s.writeBuf b o bs).takes = s.takes := rfl
@[simp] theorem State.writeBuf_lastId (b : BufId) (o : Nat) (bs : List Byte) : (s.writeBuf b o bs).lastId = s.lastId := rfl
@[simp] theorem State.writeBuf_enqueueCounter (b : BufId) (o : Nat) (bs : List Byte) : (s.writeBuf b o bs).enqueueCounter = s.enqueueCounter := rfl
@[simp] theorem State.writeBuf_stations (b : BufId) (o : Nat) (bs : List Byte) : (s.writeBuf b o bs).stations = s.stations := rfl
@[simp] theorem State.writeBuf_readbacks (b : BufId) (o : Nat) (bs : List Byte) : (s.writeBuf b o bs).readbacks = s.readbacks := rfl
@[simp] theorem State.writeBuf_buffers (b : BufId) (o : Nat) (bs : List Byte) : (s.writeBuf b o bs).buffers = s.buffers := rfl
@[simp] theorem State.writeBuf_dropWait (b : BufId) (o : Nat) (bs : List Byte) : (s.writeBuf b o bs).dropWait = s.dropWait := rfl
@[simp] theorem State.writeBuf_windows (b : BufId) (o : Nat) (bs : List Byte) : (s.writeBuf b o bs).windows = s.windows := rfl
@[simp] theorem State.writeBuf_units (b : BufId) (o : Nat) (bs : List Byte) : (s.writeBuf b o bs).units = s.units := rfl
@[simp] theorem State.writeBuf_freeList (b : BufId) (o : Nat) (bs : List Byte) : (s.writeBuf b o bs).freeList = s.freeList := rfl
@[simp] theorem State.writeBuf_reclaimFifo (b : BufId) (o : Nat) (bs : List Byte) : (s.writeBuf b o bs).reclaimFifo = s.reclaimFifo := rfl
@[simp] theorem State.writeBuf_refreshFifo (b : BufId) (o : Nat) (bs : List Byte) : (s.writeBuf b o bs).refreshFifo = s.refreshFifo := rfl
@[simp] theorem State.writeBuf_unitWait (b : BufId) (o : Nat) (bs : List Byte) : (s.writeBuf b o bs).unitWait = s.unitWait := rfl
@[simp] theorem State.writeBuf_rescues (b : BufId) (o : Nat) (bs : List Byte) : (s.writeBuf b o bs).rescues = s.rescues := rfl
@[simp] theorem State.writeBuf_engine (b : BufId) (o : Nat) (bs : List Byte) : (s.writeBuf b o bs).engine = s.engine := rfl
@[simp] theorem State.writeBuf_writeSeq (b : BufId) (o : Nat) (bs : List Byte) : (s.writeBuf b o bs).writeSeq = s.writeSeq := rfl
@[simp] theorem State.writeBuf_banks (b : BufId) (o : Nat) (bs : List Byte) : (s.writeBuf b o bs).banks = s.banks := rfl
@[simp] theorem State.writeBuf_flashOps (b : BufId) (o : Nat) (bs : List Byte) : (s.writeBuf b o bs).flashOps = s.flashOps := rfl
@[simp] theorem State.writeBuf_requestNumber (b : BufId) (o : Nat) (bs : List Byte) : (s.writeBuf b o bs).requestNumber = s.requestNumber := rfl
@[simp] theorem State.writeBuf_counters (b : BufId) (o : Nat) (bs : List Byte) : (s.writeBuf b o bs).counters = s.counters := rfl
@[simp] theorem State.writeBuf_flash (b : BufId) (o : Nat) (bs : List Byte) : (s.writeBuf b o bs).flash = s.flash := rfl
@[simp] theorem State.writeBuf_readiness (b : BufId) (o : Nat) (bs : List Byte) : (s.writeBuf b o bs).readiness = s.readiness := rfl
@[simp] theorem State.writeBuf_rebuild (b : BufId) (o : Nat) (bs : List Byte) : (s.writeBuf b o bs).rebuild = s.rebuild := rfl
@[simp] theorem State.writeBuf_threshold (b : BufId) (o : Nat) (bs : List Byte) : (s.writeBuf b o bs).threshold = s.threshold := rfl
@[simp] theorem State.writeBuf_lowWater (b : BufId) (o : Nat) (bs : List Byte) : (s.writeBuf b o bs).lowWater = s.lowWater := rfl
@[simp] theorem State.writeBuf_alertMask (b : BufId) (o : Nat) (bs : List Byte) : (s.writeBuf b o bs).alertMask = s.alertMask := rfl
@[simp] theorem State.writeBuf_settingsHold (b : BufId) (o : Nat) (bs : List Byte) : (s.writeBuf b o bs).settingsHold = s.settingsHold := rfl
@[simp] theorem State.writeBuf_alerts (b : BufId) (o : Nat) (bs : List Byte) : (s.writeBuf b o bs).alerts = s.alerts := rfl
@[simp] theorem State.writeBuf_alertOverflow (b : BufId) (o : Nat) (bs : List Byte) : (s.writeBuf b o bs).alertOverflow = s.alertOverflow := rfl
@[simp] theorem State.writeBuf_nextAlert (b : BufId) (o : Nat) (bs : List Byte) : (s.writeBuf b o bs).nextAlert = s.nextAlert := rfl
@[simp] theorem State.writeBuf_clock (b : BufId) (o : Nat) (bs : List Byte) : (s.writeBuf b o bs).clock = s.clock := rfl
@[simp] theorem State.writeBuf_freeUses (b : BufId) (o : Nat) (bs : List Byte) : (s.writeBuf b o bs).freeUses = s.freeUses := rfl
@[simp] theorem State.writeBuf_pending (b : BufId) (o : Nat) (bs : List Byte) : (s.writeBuf b o bs).pending = s.pending := rfl

/-! ### useFree -/

@[simp] theorem State.useFree_roomLinks : (s.useFree).roomLinks = s.roomLinks := rfl
@[simp] theorem State.useFree_stationLinks : (s.useFree).stationLinks = s.stationLinks := rfl
@[simp] theorem State.useFree_supervisorLink : (s.useFree).supervisorLink = s.supervisorLink := rfl
@[simp] theorem State.useFree_rooms : (s.useFree).rooms = s.rooms := rfl
@[simp] theorem State.useFree_takes : (s.useFree).takes = s.takes := rfl
@[simp] theorem State.useFree_lastId : (s.useFree).lastId = s.lastId := rfl
@[simp] theorem State.useFree_enqueueCounter : (s.useFree).enqueueCounter = s.enqueueCounter := rfl
@[simp] theorem State.useFree_stations : (s.useFree).stations = s.stations := rfl
@[simp] theorem State.useFree_readbacks : (s.useFree).readbacks = s.readbacks := rfl
@[simp] theorem State.useFree_buffers : (s.useFree).buffers = s.buffers := rfl
@[simp] theorem State.useFree_dropWait : (s.useFree).dropWait = s.dropWait := rfl
@[simp] theorem State.useFree_ram : (s.useFree).ram = s.ram := rfl
@[simp] theorem State.useFree_windows : (s.useFree).windows = s.windows := rfl
@[simp] theorem State.useFree_units : (s.useFree).units = s.units := rfl
@[simp] theorem State.useFree_freeList : (s.useFree).freeList = s.freeList := rfl
@[simp] theorem State.useFree_reclaimFifo : (s.useFree).reclaimFifo = s.reclaimFifo := rfl
@[simp] theorem State.useFree_refreshFifo : (s.useFree).refreshFifo = s.refreshFifo := rfl
@[simp] theorem State.useFree_unitWait : (s.useFree).unitWait = s.unitWait := rfl
@[simp] theorem State.useFree_rescues : (s.useFree).rescues = s.rescues := rfl
@[simp] theorem State.useFree_engine : (s.useFree).engine = s.engine := rfl
@[simp] theorem State.useFree_writeSeq : (s.useFree).writeSeq = s.writeSeq := rfl
@[simp] theorem State.useFree_banks : (s.useFree).banks = s.banks := rfl
@[simp] theorem State.useFree_flashOps : (s.useFree).flashOps = s.flashOps := rfl
@[simp] theorem State.useFree_requestNumber : (s.useFree).requestNumber = s.requestNumber := rfl
@[simp] theorem State.useFree_counters : (s.useFree).counters = s.counters := rfl
@[simp] theorem State.useFree_flash : (s.useFree).flash = s.flash := rfl
@[simp] theorem State.useFree_readiness : (s.useFree).readiness = s.readiness := rfl
@[simp] theorem State.useFree_rebuild : (s.useFree).rebuild = s.rebuild := rfl
@[simp] theorem State.useFree_threshold : (s.useFree).threshold = s.threshold := rfl
@[simp] theorem State.useFree_lowWater : (s.useFree).lowWater = s.lowWater := rfl
@[simp] theorem State.useFree_alertMask : (s.useFree).alertMask = s.alertMask := rfl
@[simp] theorem State.useFree_settingsHold : (s.useFree).settingsHold = s.settingsHold := rfl
@[simp] theorem State.useFree_alerts : (s.useFree).alerts = s.alerts := rfl
@[simp] theorem State.useFree_alertOverflow : (s.useFree).alertOverflow = s.alertOverflow := rfl
@[simp] theorem State.useFree_nextAlert : (s.useFree).nextAlert = s.nextAlert := rfl
@[simp] theorem State.useFree_clock : (s.useFree).clock = s.clock := rfl
@[simp] theorem State.useFree_pending : (s.useFree).pending = s.pending := rfl

/-! ### setLink -/

@[simp] theorem State.setLink_rooms (l : LinkId) (x : LinkRec) : (s.setLink l x).rooms = s.rooms := by cases l <;> rfl
@[simp] theorem State.setLink_takes (l : LinkId) (x : LinkRec) : (s.setLink l x).takes = s.takes := by cases l <;> rfl
@[simp] theorem State.setLink_lastId (l : LinkId) (x : LinkRec) : (s.setLink l x).lastId = s.lastId := by cases l <;> rfl
@[simp] theorem State.setLink_enqueueCounter (l : LinkId) (x : LinkRec) : (s.setLink l x).enqueueCounter = s.enqueueCounter := by cases l <;> rfl
@[simp] theorem State.setLink_stations (l : LinkId) (x : LinkRec) : (s.setLink l x).stations = s.stations := by cases l <;> rfl
@[simp] theorem State.setLink_readbacks (l : LinkId) (x : LinkRec) : (s.setLink l x).readbacks = s.readbacks := by cases l <;> rfl
@[simp] theorem State.setLink_buffers (l : LinkId) (x : LinkRec) : (s.setLink l x).buffers = s.buffers := by cases l <;> rfl
@[simp] theorem State.setLink_dropWait (l : LinkId) (x : LinkRec) : (s.setLink l x).dropWait = s.dropWait := by cases l <;> rfl
@[simp] theorem State.setLink_ram (l : LinkId) (x : LinkRec) : (s.setLink l x).ram = s.ram := by cases l <;> rfl
@[simp] theorem State.setLink_windows (l : LinkId) (x : LinkRec) : (s.setLink l x).windows = s.windows := by cases l <;> rfl
@[simp] theorem State.setLink_units (l : LinkId) (x : LinkRec) : (s.setLink l x).units = s.units := by cases l <;> rfl
@[simp] theorem State.setLink_freeList (l : LinkId) (x : LinkRec) : (s.setLink l x).freeList = s.freeList := by cases l <;> rfl
@[simp] theorem State.setLink_reclaimFifo (l : LinkId) (x : LinkRec) : (s.setLink l x).reclaimFifo = s.reclaimFifo := by cases l <;> rfl
@[simp] theorem State.setLink_refreshFifo (l : LinkId) (x : LinkRec) : (s.setLink l x).refreshFifo = s.refreshFifo := by cases l <;> rfl
@[simp] theorem State.setLink_unitWait (l : LinkId) (x : LinkRec) : (s.setLink l x).unitWait = s.unitWait := by cases l <;> rfl
@[simp] theorem State.setLink_rescues (l : LinkId) (x : LinkRec) : (s.setLink l x).rescues = s.rescues := by cases l <;> rfl
@[simp] theorem State.setLink_engine (l : LinkId) (x : LinkRec) : (s.setLink l x).engine = s.engine := by cases l <;> rfl
@[simp] theorem State.setLink_writeSeq (l : LinkId) (x : LinkRec) : (s.setLink l x).writeSeq = s.writeSeq := by cases l <;> rfl
@[simp] theorem State.setLink_banks (l : LinkId) (x : LinkRec) : (s.setLink l x).banks = s.banks := by cases l <;> rfl
@[simp] theorem State.setLink_flashOps (l : LinkId) (x : LinkRec) : (s.setLink l x).flashOps = s.flashOps := by cases l <;> rfl
@[simp] theorem State.setLink_requestNumber (l : LinkId) (x : LinkRec) : (s.setLink l x).requestNumber = s.requestNumber := by cases l <;> rfl
@[simp] theorem State.setLink_counters (l : LinkId) (x : LinkRec) : (s.setLink l x).counters = s.counters := by cases l <;> rfl
@[simp] theorem State.setLink_flash (l : LinkId) (x : LinkRec) : (s.setLink l x).flash = s.flash := by cases l <;> rfl
@[simp] theorem State.setLink_readiness (l : LinkId) (x : LinkRec) : (s.setLink l x).readiness = s.readiness := by cases l <;> rfl
@[simp] theorem State.setLink_rebuild (l : LinkId) (x : LinkRec) : (s.setLink l x).rebuild = s.rebuild := by cases l <;> rfl
@[simp] theorem State.setLink_threshold (l : LinkId) (x : LinkRec) : (s.setLink l x).threshold = s.threshold := by cases l <;> rfl
@[simp] theorem State.setLink_lowWater (l : LinkId) (x : LinkRec) : (s.setLink l x).lowWater = s.lowWater := by cases l <;> rfl
@[simp] theorem State.setLink_alertMask (l : LinkId) (x : LinkRec) : (s.setLink l x).alertMask = s.alertMask := by cases l <;> rfl
@[simp] theorem State.setLink_settingsHold (l : LinkId) (x : LinkRec) : (s.setLink l x).settingsHold = s.settingsHold := by cases l <;> rfl
@[simp] theorem State.setLink_alerts (l : LinkId) (x : LinkRec) : (s.setLink l x).alerts = s.alerts := by cases l <;> rfl
@[simp] theorem State.setLink_alertOverflow (l : LinkId) (x : LinkRec) : (s.setLink l x).alertOverflow = s.alertOverflow := by cases l <;> rfl
@[simp] theorem State.setLink_nextAlert (l : LinkId) (x : LinkRec) : (s.setLink l x).nextAlert = s.nextAlert := by cases l <;> rfl
@[simp] theorem State.setLink_clock (l : LinkId) (x : LinkRec) : (s.setLink l x).clock = s.clock := by cases l <;> rfl
@[simp] theorem State.setLink_freeUses (l : LinkId) (x : LinkRec) : (s.setLink l x).freeUses = s.freeUses := by cases l <;> rfl
@[simp] theorem State.setLink_pending (l : LinkId) (x : LinkRec) : (s.setLink l x).pending = s.pending := by cases l <;> rfl

/-! ### Reading back -/

@[simp] theorem State.room_setRoom_same (i : RoomId) (x : Room) : (s.setRoom i x).room i = x := by
  simp [State.room, State.setRoom]
theorem State.room_setRoom_ne {i j : RoomId} (h : i ≠ j) (x : Room) : (s.setRoom i x).room j = s.room j := by
  simp [State.room, State.setRoom, Vector.getElem_set_ne _ _ (fun e => h (Fin.ext e))]
@[simp] theorem State.setRoom_setRoom (i : RoomId) (x y : Room) : (s.setRoom i x).setRoom i y = s.setRoom i y := by
  simp [State.setRoom]

@[simp] theorem State.station_setStation_same (i : StationId) (x : Station) : (s.setStation i x).station i = x := by
  simp [State.station, State.setStation]
theorem State.station_setStation_ne {i j : StationId} (h : i ≠ j) (x : Station) : (s.setStation i x).station j = s.station j := by
  simp [State.station, State.setStation, Vector.getElem_set_ne _ _ (fun e => h (Fin.ext e))]
@[simp] theorem State.setStation_setStation (i : StationId) (x y : Station) : (s.setStation i x).setStation i y = s.setStation i y := by
  simp [State.setStation]

@[simp] theorem State.readback_setReadback_same (i : RoomId) (x : Readback) : (s.setReadback i x).readback i = x := by
  simp [State.readback, State.setReadback]
theorem State.readback_setReadback_ne {i j : RoomId} (h : i ≠ j) (x : Readback) : (s.setReadback i x).readback j = s.readback j := by
  simp [State.readback, State.setReadback, Vector.getElem_set_ne _ _ (fun e => h (Fin.ext e))]
@[simp] theorem State.setReadback_setReadback (i : RoomId) (x y : Readback) : (s.setReadback i x).setReadback i y = s.setReadback i y := by
  simp [State.setReadback]

@[simp] theorem State.buffer_setBuffer_same (i : BufId) (x : Buffer) : (s.setBuffer i x).buffer i = x := by
  simp [State.buffer, State.setBuffer]
theorem State.buffer_setBuffer_ne {i j : BufId} (h : i ≠ j) (x : Buffer) : (s.setBuffer i x).buffer j = s.buffer j := by
  simp [State.buffer, State.setBuffer, Vector.getElem_set_ne _ _ (fun e => h (Fin.ext e))]
@[simp] theorem State.setBuffer_setBuffer (i : BufId) (x y : Buffer) : (s.setBuffer i x).setBuffer i y = s.setBuffer i y := by
  simp [State.setBuffer]

@[simp] theorem State.bank_setBank_same (i : BankId) (x : BankRec) : (s.setBank i x).bank i = x := by
  simp [State.bank, State.setBank]
theorem State.bank_setBank_ne {i j : BankId} (h : i ≠ j) (x : BankRec) : (s.setBank i x).bank j = s.bank j := by
  simp [State.bank, State.setBank, Vector.getElem_set_ne _ _ (fun e => h (Fin.ext e))]
@[simp] theorem State.setBank_setBank (i : BankId) (x y : BankRec) : (s.setBank i x).setBank i y = s.setBank i y := by
  simp [State.setBank]

@[simp] theorem State.link_setLink_same (l : LinkId) (x : LinkRec) : (s.setLink l x).link l = x := by
  cases l <;> simp [State.link, State.setLink]
theorem State.link_setLink_ne {l m : LinkId} (h : l ≠ m) (x : LinkRec) : (s.setLink l x).link m = s.link m := by
  cases l <;> cases m <;> simp_all [State.link, State.setLink]
  · exact Vector.getElem_set_ne _ _ (fun e => h (Fin.ext e))
  · exact Vector.getElem_set_ne _ _ (fun e => h (Fin.ext e))
@[simp] theorem State.setLink_setLink (l : LinkId) (x y : LinkRec) : (s.setLink l x).setLink l y = s.setLink l y := by
  cases l <;> simp [State.setLink]

@[simp] theorem State.modRoom_eq (r : RoomId) (f : Room → Room) : s.modRoom r f = s.setRoom r (f (s.room r)) := rfl
@[simp] theorem State.modStation_eq (k : StationId) (f : Station → Station) :
    s.modStation k f = s.setStation k (f (s.station k)) := rfl
@[simp] theorem State.modReadback_eq (r : RoomId) (f : Readback → Readback) :
    s.modReadback r f = s.setReadback r (f (s.readback r)) := rfl
@[simp] theorem State.modBuffer_eq (b : BufId) (f : Buffer → Buffer) : s.modBuffer b f = s.setBuffer b (f (s.buffer b)) := rfl

/-! ### Contexts seen through other updates -/

@[simp] theorem State.station_setRoom (r : RoomId) (x : Room) (i : StationId) : (s.setRoom r x).station i = s.station i := rfl
@[simp] theorem State.readback_setRoom (r : RoomId) (x : Room) (i : RoomId) : (s.setRoom r x).readback i = s.readback i := rfl
@[simp] theorem State.buffer_setRoom (r : RoomId) (x : Room) (i : BufId) : (s.setRoom r x).buffer i = s.buffer i := rfl
@[simp] theorem State.bank_setRoom (r : RoomId) (x : Room) (i : BankId) : (s.setRoom r x).bank i = s.bank i := rfl
@[simp] theorem State.findTake_setRoom (r : RoomId) (x : Room) (i : Nat) : (s.setRoom r x).findTake i = s.findTake i := rfl
@[simp] theorem State.unit_setRoom (r : RoomId) (x : Room) (i : Nat) : (s.setRoom r x).unit i = s.unit i := rfl
@[simp] theorem State.link_setRoom (r : RoomId) (x : Room) (l : LinkId) : (s.setRoom r x).link l = s.link l := by
  cases l <;> rfl
@[simp] theorem State.room_setStation (k : StationId) (x : Station) (i : RoomId) : (s.setStation k x).room i = s.room i := rfl
@[simp] theorem State.readback_setStation (k : StationId) (x : Station) (i : RoomId) : (s.setStation k x).readback i = s.readback i := rfl
@[simp] theorem State.buffer_setStation (k : StationId) (x : Station) (i : BufId) : (s.setStation k x).buffer i = s.buffer i := rfl
@[simp] theorem State.bank_setStation (k : StationId) (x : Station) (i : BankId) : (s.setStation k x).bank i = s.bank i := rfl
@[simp] theorem State.findTake_setStation (k : StationId) (x : Station) (i : Nat) : (s.setStation k x).findTake i = s.findTake i := rfl
@[simp] theorem State.unit_setStation (k : StationId) (x : Station) (i : Nat) : (s.setStation k x).unit i = s.unit i := rfl
@[simp] theorem State.link_setStation (k : StationId) (x : Station) (l : LinkId) : (s.setStation k x).link l = s.link l := by
  cases l <;> rfl
@[simp] theorem State.room_setReadback (r : RoomId) (x : Readback) (i : RoomId) : (s.setReadback r x).room i = s.room i := rfl
@[simp] theorem State.station_setReadback (r : RoomId) (x : Readback) (i : StationId) : (s.setReadback r x).station i = s.station i := rfl
@[simp] theorem State.buffer_setReadback (r : RoomId) (x : Readback) (i : BufId) : (s.setReadback r x).buffer i = s.buffer i := rfl
@[simp] theorem State.bank_setReadback (r : RoomId) (x : Readback) (i : BankId) : (s.setReadback r x).bank i = s.bank i := rfl
@[simp] theorem State.findTake_setReadback (r : RoomId) (x : Readback) (i : Nat) : (s.setReadback r x).findTake i = s.findTake i := rfl
@[simp] theorem State.unit_setReadback (r : RoomId) (x : Readback) (i : Nat) : (s.setReadback r x).unit i = s.unit i := rfl
@[simp] theorem State.link_setReadback (r : RoomId) (x : Readback) (l : LinkId) : (s.setReadback r x).link l = s.link l := by
  cases l <;> rfl
@[simp] theorem State.room_setBuffer (b : BufId) (x : Buffer) (i : RoomId) : (s.setBuffer b x).room i = s.room i := rfl
@[simp] theorem State.station_setBuffer (b : BufId) (x : Buffer) (i : StationId) : (s.setBuffer b x).station i = s.station i := rfl
@[simp] theorem State.readback_setBuffer (b : BufId) (x : Buffer) (i : RoomId) : (s.setBuffer b x).readback i = s.readback i := rfl
@[simp] theorem State.bank_setBuffer (b : BufId) (x : Buffer) (i : BankId) : (s.setBuffer b x).bank i = s.bank i := rfl
@[simp] theorem State.findTake_setBuffer (b : BufId) (x : Buffer) (i : Nat) : (s.setBuffer b x).findTake i = s.findTake i := rfl
@[simp] theorem State.unit_setBuffer (b : BufId) (x : Buffer) (i : Nat) : (s.setBuffer b x).unit i = s.unit i := rfl
@[simp] theorem State.link_setBuffer (b : BufId) (x : Buffer) (l : LinkId) : (s.setBuffer b x).link l = s.link l := by
  cases l <;> rfl
@[simp] theorem State.room_setBank (b : BankId) (x : BankRec) (i : RoomId) : (s.setBank b x).room i = s.room i := rfl
@[simp] theorem State.station_setBank (b : BankId) (x : BankRec) (i : StationId) : (s.setBank b x).station i = s.station i := rfl
@[simp] theorem State.readback_setBank (b : BankId) (x : BankRec) (i : RoomId) : (s.setBank b x).readback i = s.readback i := rfl
@[simp] theorem State.buffer_setBank (b : BankId) (x : BankRec) (i : BufId) : (s.setBank b x).buffer i = s.buffer i := rfl
@[simp] theorem State.findTake_setBank (b : BankId) (x : BankRec) (i : Nat) : (s.setBank b x).findTake i = s.findTake i := rfl
@[simp] theorem State.unit_setBank (b : BankId) (x : BankRec) (i : Nat) : (s.setBank b x).unit i = s.unit i := rfl
@[simp] theorem State.link_setBank (b : BankId) (x : BankRec) (l : LinkId) : (s.setBank b x).link l = s.link l := by
  cases l <;> rfl
@[simp] theorem State.room_modTake (n : Nat) (f : Take → Take) (i : RoomId) : (s.modTake n f).room i = s.room i := rfl
@[simp] theorem State.station_modTake (n : Nat) (f : Take → Take) (i : StationId) : (s.modTake n f).station i = s.station i := rfl
@[simp] theorem State.readback_modTake (n : Nat) (f : Take → Take) (i : RoomId) : (s.modTake n f).readback i = s.readback i := rfl
@[simp] theorem State.buffer_modTake (n : Nat) (f : Take → Take) (i : BufId) : (s.modTake n f).buffer i = s.buffer i := rfl
@[simp] theorem State.bank_modTake (n : Nat) (f : Take → Take) (i : BankId) : (s.modTake n f).bank i = s.bank i := rfl
@[simp] theorem State.unit_modTake (n : Nat) (f : Take → Take) (i : Nat) : (s.modTake n f).unit i = s.unit i := rfl
@[simp] theorem State.link_modTake (n : Nat) (f : Take → Take) (l : LinkId) : (s.modTake n f).link l = s.link l := by
  cases l <;> rfl
@[simp] theorem State.room_modUnit (n : Nat) (f : UnitEntry → UnitEntry) (i : RoomId) : (s.modUnit n f).room i = s.room i := rfl
@[simp] theorem State.station_modUnit (n : Nat) (f : UnitEntry → UnitEntry) (i : StationId) : (s.modUnit n f).station i = s.station i := rfl
@[simp] theorem State.readback_modUnit (n : Nat) (f : UnitEntry → UnitEntry) (i : RoomId) : (s.modUnit n f).readback i = s.readback i := rfl
@[simp] theorem State.buffer_modUnit (n : Nat) (f : UnitEntry → UnitEntry) (i : BufId) : (s.modUnit n f).buffer i = s.buffer i := rfl
@[simp] theorem State.bank_modUnit (n : Nat) (f : UnitEntry → UnitEntry) (i : BankId) : (s.modUnit n f).bank i = s.bank i := rfl
@[simp] theorem State.findTake_modUnit (n : Nat) (f : UnitEntry → UnitEntry) (i : Nat) : (s.modUnit n f).findTake i = s.findTake i := rfl
@[simp] theorem State.link_modUnit (n : Nat) (f : UnitEntry → UnitEntry) (l : LinkId) : (s.modUnit n f).link l = s.link l := by
  cases l <;> rfl
@[simp] theorem State.room_writeBuf (b : BufId) (o : Nat) (bs : List Byte) (i : RoomId) : (s.writeBuf b o bs).room i = s.room i := rfl
@[simp] theorem State.station_writeBuf (b : BufId) (o : Nat) (bs : List Byte) (i : StationId) : (s.writeBuf b o bs).station i = s.station i := rfl
@[simp] theorem State.readback_writeBuf (b : BufId) (o : Nat) (bs : List Byte) (i : RoomId) : (s.writeBuf b o bs).readback i = s.readback i := rfl
@[simp] theorem State.buffer_writeBuf (b : BufId) (o : Nat) (bs : List Byte) (i : BufId) : (s.writeBuf b o bs).buffer i = s.buffer i := rfl
@[simp] theorem State.bank_writeBuf (b : BufId) (o : Nat) (bs : List Byte) (i : BankId) : (s.writeBuf b o bs).bank i = s.bank i := rfl
@[simp] theorem State.findTake_writeBuf (b : BufId) (o : Nat) (bs : List Byte) (i : Nat) : (s.writeBuf b o bs).findTake i = s.findTake i := rfl
@[simp] theorem State.unit_writeBuf (b : BufId) (o : Nat) (bs : List Byte) (i : Nat) : (s.writeBuf b o bs).unit i = s.unit i := rfl
@[simp] theorem State.link_writeBuf (b : BufId) (o : Nat) (bs : List Byte) (l : LinkId) : (s.writeBuf b o bs).link l = s.link l := by
  cases l <;> rfl
@[simp] theorem State.room_useFree (i : RoomId) : (s.useFree).room i = s.room i := rfl
@[simp] theorem State.station_useFree (i : StationId) : (s.useFree).station i = s.station i := rfl
@[simp] theorem State.readback_useFree (i : RoomId) : (s.useFree).readback i = s.readback i := rfl
@[simp] theorem State.buffer_useFree (i : BufId) : (s.useFree).buffer i = s.buffer i := rfl
@[simp] theorem State.bank_useFree (i : BankId) : (s.useFree).bank i = s.bank i := rfl
@[simp] theorem State.findTake_useFree (i : Nat) : (s.useFree).findTake i = s.findTake i := rfl
@[simp] theorem State.unit_useFree (i : Nat) : (s.useFree).unit i = s.unit i := rfl
@[simp] theorem State.link_useFree (l : LinkId) : (s.useFree).link l = s.link l := by
  cases l <;> rfl
@[simp] theorem State.room_setLink (l : LinkId) (x : LinkRec) (i : RoomId) : (s.setLink l x).room i = s.room i := by
  cases l <;> rfl
@[simp] theorem State.station_setLink (l : LinkId) (x : LinkRec) (i : StationId) : (s.setLink l x).station i = s.station i := by
  cases l <;> rfl
@[simp] theorem State.readback_setLink (l : LinkId) (x : LinkRec) (i : RoomId) : (s.setLink l x).readback i = s.readback i := by
  cases l <;> rfl
@[simp] theorem State.buffer_setLink (l : LinkId) (x : LinkRec) (i : BufId) : (s.setLink l x).buffer i = s.buffer i := by
  cases l <;> rfl
@[simp] theorem State.bank_setLink (l : LinkId) (x : LinkRec) (i : BankId) : (s.setLink l x).bank i = s.bank i := by
  cases l <;> rfl
@[simp] theorem State.findTake_setLink (l : LinkId) (x : LinkRec) (i : Nat) : (s.setLink l x).findTake i = s.findTake i := by
  cases l <;> rfl
@[simp] theorem State.unit_setLink (l : LinkId) (x : LinkRec) (i : Nat) : (s.setLink l x).unit i = s.unit i := by
  cases l <;> rfl

end Sys2Proof.Machine
end

