-- ==== Sys2Proof/Laws/Requests.lean ====
section
/-! SUPPORT. What the admission of a request and an answer can do (R194), the setLink update moved outward past the other updates, and when
the end of an event raises no RUSH_READY (R85). -/

namespace Sys2Proof.Machine

variable (s : State)

/-! ### setLink stands outermost -/

@[simp] theorem State.setRoom_setLink (l : LinkId) (x : LinkRec) (r : RoomId) (y : Room) :
    (s.setLink l x).setRoom r y = (s.setRoom r y).setLink l x := by cases l <;> rfl
@[simp] theorem State.setStation_setLink (l : LinkId) (x : LinkRec) (k : StationId) (y : Station) :
    (s.setLink l x).setStation k y = (s.setStation k y).setLink l x := by cases l <;> rfl
@[simp] theorem State.setReadback_setLink (l : LinkId) (x : LinkRec) (r : RoomId) (y : Readback) :
    (s.setLink l x).setReadback r y = (s.setReadback r y).setLink l x := by cases l <;> rfl
@[simp] theorem State.setBuffer_setLink (l : LinkId) (x : LinkRec) (b : BufId) (y : Buffer) :
    (s.setLink l x).setBuffer b y = (s.setBuffer b y).setLink l x := by cases l <;> rfl
@[simp] theorem State.setBank_setLink (l : LinkId) (x : LinkRec) (b : BankId) (y : BankRec) :
    (s.setLink l x).setBank b y = (s.setBank b y).setLink l x := by cases l <;> rfl
@[simp] theorem State.modTake_setLink (l : LinkId) (x : LinkRec) (n : Nat) (f : Take → Take) :
    (s.setLink l x).modTake n f = (s.modTake n f).setLink l x := by cases l <;> rfl
@[simp] theorem State.modUnit_setLink (l : LinkId) (x : LinkRec) (n : Nat) (f : UnitEntry → UnitEntry) :
    (s.setLink l x).modUnit n f = (s.modUnit n f).setLink l x := by cases l <;> rfl
@[simp] theorem State.writeBuf_setLink (l : LinkId) (x : LinkRec) (b : BufId) (o : Nat) (bs : List Byte) :
    (s.setLink l x).writeBuf b o bs = (s.writeBuf b o bs).setLink l x := by cases l <;> rfl
@[simp] theorem State.raise_setLink (l : LinkId) (x : LinkRec) (a : Alert) :
    (s.setLink l x).raise a = (s.raise a).setLink l x := by
  by_cases h : s.alerts.length < Config.alertRecords <;> simp only [State.raise, State.setLink_alerts, h, if_true, if_false] <;>
    cases l <;> rfl

/-! ### Admission (R172, R194) -/

section Admission

variable {s} {α : Type} {l : LinkId} {kind : Nat} {tag : Byte} {g : Group} {args : Option α} {a : α} {f : α → State → State}

/-- A request that is admitted is served as the outstanding request of its link. -/
theorem State.request_served (h : s.canTake l) (ha : args = some a) (hg : g.admits s.readiness = true) :
    s.request l kind tag g args f = f a (s.taken l kind tag) := by
  simp [State.request, h.1, h.2, ha, hg, State.taken]

/-- A frame that finds a request outstanding is answered BUSY. -/
theorem State.request_busy (hu : (s.link l).up = true) (ho : (s.link l).outstanding.isSome = true) :
    s.request l kind tag g args f = s.replied l kind tag .busy := by
  simp [State.request, hu, ho, State.replied, State.queued, State.reply, State.send]

/-- A body that breaks the field encoding is answered BAD_ARG. -/
theorem State.request_badArg (h : s.canTake l) (ha : args = none) :
    s.request l kind tag g args f = s.replied l kind tag .badArg := by
  simp [State.request, h.1, h.2, ha, State.replied, State.queued, State.reply, State.send]

/-- A request not admitted by the readiness state is answered NOT_READY. -/
theorem State.request_notReady (h : s.canTake l) (ha : args.isSome = true) (hg : g.admits s.readiness = false) :
    s.request l kind tag g args f = s.replied l kind tag .notReady := by
  obtain ⟨a, rfl⟩ := Option.isSome_iff_exists.mp ha
  simp [State.request, h.1, h.2, hg, State.replied, State.queued, State.reply, State.send]

/-- An answer to the request just taken. -/
@[simp] theorem State.answer_taken (st : Status) (ind : Indications) (body : List Byte) :
    (s.taken l kind tag).answer l st ind body = s.answered l kind tag st ind body := by
  simp [State.taken, State.answer, State.answered]

end Admission

/-! ### The end of an event (R85, R159) -/

theorem mem_insertEntry {e x : QEntry} (q : List QEntry) : e ∈ insertEntry x q ↔ e = x ∨ e ∈ q := by
  induction q with
  | nil => simp [insertEntry]
  | cons y ys ih =>
    unfold insertEntry
    split
    · simp
    · simp only [List.mem_cons, ih]
      exact or_left_comm

/-- The queue holds the entries and nothing else. -/
theorem State.mem_queue {e : QEntry} : e ∈ s.queue ↔ e ∈ s.entries := by
  have h : ∀ (es q : List QEntry), e ∈ es.foldl (fun q e => insertEntry e q) q ↔ e ∈ es ∨ e ∈ q := by
    intro es
    induction es with
    | nil => simp
    | cons x xs ih => intro q; simp [ih, mem_insertEntry, or_left_comm, or_assoc]
  simpa [State.queue] using h s.entries []

/-- An event after which the queue holds RUSH entries only where it did before raises no RUSH_READY. -/
theorem State.rushCheck_quiet {s before : State} (h : before.rushCount = 0 → s.rushCount = 0) : State.rushCheck before s = s := by
  unfold State.rushCheck
  split
  · rename_i h0
    have h1 := h h0
    have : s.queue.find? (fun e => e.cls == .rush) = none := by
      rw [List.find?_eq_none]
      intro e he
      rw [State.mem_queue] at he
      simp only [State.rushCount, List.length_eq_zero_iff, List.filter_eq_nil_iff] at h1
      exact h1 e he
    simp [this]
  · rfl

/-- The end of an event that adds no RUSH entry: the sequencer issues. -/
theorem State.settle_quiet {s before : State} (h : s.rushCount = before.rushCount) : State.settle before s = s.issue := by
  unfold State.settle
  rw [State.rushCheck_quiet (fun e => h.trans e)]

/-- The number of RUSH entries depends on the takes alone. -/
theorem State.rushCount_congr {s t : State} (h : s.takes = t.takes) : s.rushCount = t.rushCount := by
  simp [State.rushCount, State.entries, h]

/-- The end of an event that leaves the takes alone: the sequencer issues. -/
theorem State.settle_same {s before : State} (h : s.takes = before.takes) : State.settle before s = s.issue :=
  State.settle_quiet (State.rushCount_congr h)

/-- Whether RUSH_READY is judged depends on the takes before the event. -/
theorem State.settle_congr {a b : State} (h : a.takes = b.takes) : State.settle a s = State.settle b s := by
  simp [State.settle, State.rushCheck, State.rushCount_congr h]

@[simp] theorem State.settle_setLink {t : State} (l : LinkId) (x : LinkRec) : State.settle (s.setLink l x) t = State.settle s t :=
  State.settle_congr t (by simp)

@[simp] theorem State.settle_taken {t : State} (l : LinkId) (kind : Nat) (tag : Byte) :
    State.settle (s.taken l kind tag) t = State.settle s t := State.settle_setLink ..

/-- With nothing eligible, nothing is issued. -/
theorem State.issue_settled {s : State} (h : s.settled) : s.issue = s := by
  simp [State.issue, State.issueSome, h, firstByClass]

end Sys2Proof.Machine
end

