-- ==== Sys2Proof/Laws/Frames.lean ====
section
/-! SUPPORT. What the reading operations depend on, said once for each, and the shared operations on segments and takes past a change of
a link. -/

namespace Sys2Proof.Machine

/-! ### What a value depends on -/

theorem State.sectorSamples_congr {s t : State} {b : BufId} (h1 : s.ram = t.ram) (h2 : (s.buffer b).decode = (t.buffer b).decode) :
    s.sectorSamples b = t.sectorSamples b := by
  have e : ∀ j, (s.buffer b).sectorLost j = (t.buffer b).sectorLost j := by intro j; simp [Buffer.sectorLost, h2]
  funext j
  simp only [State.sectorSamples, e, State.readBuf, h1]

/-- A block formed depends on the page buffer bytes and the buffer's decode record. -/
theorem State.formBlock_congr {s t : State} {b : BufId} (h1 : s.ram = t.ram) (h2 : (s.buffer b).decode = (t.buffer b).decode)
    (c : Channels) (k : Nat) (m : BitVec 4) (f : Nat) : s.formBlock b c k m f = t.formBlock b c k m f := by
  have e : ∀ j, (s.buffer b).sectorLost j = (t.buffer b).sectorLost j := by intro j; simp [Buffer.sectorLost, h2]
  simp only [State.formBlock, State.sectorSamples_congr h1 h2, e]

/-- The residency map depends on the buffers. -/
theorem State.resident_congr {s t : State} (h : s.buffers = t.buffers) (take tp : Nat) : s.resident take tp = t.resident take tp := by
  simp [State.resident, State.buffer, h]

theorem State.firstFree_congr {s t : State} (h : s.buffers = t.buffers) : s.firstFree = t.firstFree := by
  simp [State.firstFree, State.buffer, h]

theorem State.freeBuffers_congr {s t : State} (h : s.buffers = t.buffers) : s.freeBuffers = t.freeBuffers := by
  simp [State.freeBuffers, State.buffer, h]

theorem State.nrec_congr {s t : State} (h : s.rooms = t.rooms) : s.nrec = t.nrec := by simp [State.nrec, State.room, h]

theorem State.chainUnit_congr {s t : State} (h : s.units = t.units) (take chain : Nat) : s.chainUnit take chain = t.chainUnit take chain := by
  simp [State.chainUnit, h]

theorem State.entries_congr {s t : State} (h : s.takes = t.takes) : s.entries = t.entries := by simp [State.entries, h]

theorem State.queue_congr {s t : State} (h : s.takes = t.takes) : s.queue = t.queue := by
  simp [State.queue, State.entries_congr h]

theorem State.chooseEntry_congr {s t : State} (h : s.takes = t.takes) (f : BitVec 3) (last : Option SegRef) :
    s.chooseEntry f last = t.chooseEntry f last := by simp [State.chooseEntry, State.queue_congr h]

variable (s : State) (l : LinkId) (x : LinkRec)

/-! ### Past a change of a link -/

@[simp] theorem State.formBlock_setLink (b : BufId) (c : Channels) (k : Nat) (m : BitVec 4) (f : Nat) :
    (s.setLink l x).formBlock b c k m f = s.formBlock b c k m f := State.formBlock_congr (by simp) (by simp) ..
@[simp] theorem State.resident_setLink (take tp : Nat) : (s.setLink l x).resident take tp = s.resident take tp :=
  State.resident_congr (by simp) ..
@[simp] theorem State.firstFree_setLink : (s.setLink l x).firstFree = s.firstFree := State.firstFree_congr (by simp)
@[simp] theorem State.freeBuffers_setLink : (s.setLink l x).freeBuffers = s.freeBuffers := State.freeBuffers_congr (by simp)
@[simp] theorem State.nrec_setLink : (s.setLink l x).nrec = s.nrec := State.nrec_congr (by simp)
@[simp] theorem State.chainUnit_setLink (take chain : Nat) : (s.setLink l x).chainUnit take chain = s.chainUnit take chain :=
  State.chainUnit_congr (by simp) ..
@[simp] theorem State.entries_setLink : (s.setLink l x).entries = s.entries := State.entries_congr (by simp)
@[simp] theorem State.queue_setLink : (s.setLink l x).queue = s.queue := State.queue_congr (by simp)
@[simp] theorem State.chooseEntry_setLink (f : BitVec 3) (last : Option SegRef) :
    (s.setLink l x).chooseEntry f last = s.chooseEntry f last := State.chooseEntry_congr (by simp) ..
@[simp] theorem State.lookup_setLink (y : SegRef) : (s.setLink l x).lookup y = s.lookup y := by simp [State.lookup]
@[simp] theorem State.modSegment_setLink (y : SegRef) (f : Segment → Segment) :
    (s.setLink l x).modSegment y f = (s.modSegment y f).setLink l x := by simp [State.modSegment]
@[simp] theorem State.checkComplete_setLink (n : Nat) : (s.setLink l x).checkComplete n = (s.checkComplete n).setLink l x := by
  simp [State.checkComplete]
@[simp] theorem State.makeTyped_setLink (y : SegRef) : (s.setLink l x).makeTyped y = (s.makeTyped y).setLink l x := by
  simp [State.makeTyped]
@[simp] theorem State.renumberQueue_setLink : (s.setLink l x).renumberQueue = s.renumberQueue.setLink l x := by cases l <;> rfl
@[simp] theorem State.enqueue_setLink (y : SegRef) (band : Nat) : (s.setLink l x).enqueue y band = (s.enqueue y band).setLink l x := by
  have e : (s.setLink l x).enqueueCounter = s.enqueueCounter := by simp
  unfold State.enqueue
  rw [e]
  split <;> cases l <;> rfl
@[simp] theorem State.handOver_setLink (y : SegRef) : (s.setLink l x).handOver y = (s.handOver y).setLink l x :=
  State.enqueue_setLink ..
@[simp] theorem State.returnSegment_setLink (y : SegRef) (p : Option Nat) :
    (s.setLink l x).returnSegment y p = (s.returnSegment y p).setLink l x := by simp [State.returnSegment]

/-! ### A block formed, past the updates of contexts -/

@[simp] theorem State.formBlock_setStation (k' : StationId) (y : Station) (b : BufId) (c : Channels) (k : Nat) (m : BitVec 4)
    (f : Nat) : (s.setStation k' y).formBlock b c k m f = s.formBlock b c k m f := rfl
@[simp] theorem State.formBlock_setReadback (r : RoomId) (y : Readback) (b : BufId) (c : Channels) (k : Nat) (m : BitVec 4)
    (f : Nat) : (s.setReadback r y).formBlock b c k m f = s.formBlock b c k m f := rfl
@[simp] theorem State.formBlock_modUnit (n : Nat) (g : UnitEntry → UnitEntry) (b : BufId) (c : Channels) (k : Nat) (m : BitVec 4)
    (f : Nat) : (s.modUnit n g).formBlock b c k m f = s.formBlock b c k m f := rfl

/-! ### The frame of the segment operations: only the takes and the enqueue counter change -/

@[simp] theorem State.station_makeTyped (y : SegRef) (k : StationId) : (s.makeTyped y).station k = s.station k := rfl
@[simp] theorem State.link_makeTyped (y : SegRef) : (s.makeTyped y).link l = s.link l := by cases l <;> rfl

/-- An enqueue changes the takes and the enqueue counter alone. -/
theorem State.enqueue_eq (y : SegRef) (band : Nat) :
    s.enqueue y band = { s with takes := (s.enqueue y band).takes, enqueueCounter := (s.enqueue y band).enqueueCounter } := by
  unfold State.enqueue
  split <;> rfl

/-- A return changes the takes and the enqueue counter alone. -/
theorem State.returnSegment_eq (y : SegRef) (p : Option Nat) :
    s.returnSegment y p =
      { s with takes := (s.returnSegment y p).takes, enqueueCounter := (s.returnSegment y p).enqueueCounter } := by
  unfold State.returnSegment
  rw [State.enqueue_eq]
  rfl

@[simp] theorem State.station_returnSegment (y : SegRef) (p : Option Nat) (k : StationId) :
    (s.returnSegment y p).station k = s.station k := by rw [State.returnSegment_eq]; rfl
@[simp] theorem State.link_returnSegment (y : SegRef) (p : Option Nat) : (s.returnSegment y p).link l = s.link l := by
  rw [State.returnSegment_eq]; cases l <;> rfl

end Sys2Proof.Machine
end

