-- ==== Sys2Proof/Laws/Holdings.lean ====
section
/-! SUPPORT. Pages let go (R103, R116, R131): what freeing a buffer, dropping a holding and releasing a reader's holding do while no room
and no engine waits for a buffer, each said once. -/

namespace Sys2Proof.Machine

/-- A buffer freed while nothing waits becomes FREE, and nothing else changes. -/
theorem State.freeBuffer_of_noneWaits {s : State} (h : s.noneWaits) (b : BufId) : s.freeBuffer b = s.setBuffer b freeRecord := by
  obtain ⟨h1, h2⟩ := h
  unfold State.freeBuffer
  rw [h1]
  simp only [State.engineRetry, State.setBuffer_engine]
  cases he : s.engine.work with
  | none => rfl
  | some p =>
    obtain ⟨z, w⟩ := p
    simp only [he, Option.all_some, Bool.or_eq_true] at h2
    simp only
    rw [if_neg]; · rfl
    intro ⟨a, b⟩
    simp_all

/-- A holding dropped while nothing waits: its buffer is FREE, or has one pin less and is FREE with the last. -/
theorem State.dropHolding_of_noneWaits {s : State} (h : s.noneWaits) (x : Holding) : s.dropHolding x = s.withoutHolding (some x) := by
  unfold State.dropHolding State.withoutHolding
  by_cases ho : x.owned = true
  · simp [ho, State.freeBuffer_of_noneWaits h]
  · have e := State.buffer_setBuffer_same s x.buf { s.buffer x.buf with pins := (s.buffer x.buf).pins - 1 }
    have n : (s.setBuffer x.buf { s.buffer x.buf with pins := (s.buffer x.buf).pins - 1 }).noneWaits := h
    have f := State.freeBuffer_of_noneWaits n x.buf
    rw [State.setBuffer_setBuffer] at f
    by_cases hc : (s.buffer x.buf).state = .cached
    · by_cases hp : (s.buffer x.buf).pins ≤ 1
      · simp [ho, State.unpin, State.modBuffer, hc, hp] at e f ⊢
        exact f
      · have : ¬ ((s.buffer x.buf).pins - 1 = 0) := by omega
        simp [ho, State.unpin, State.modBuffer, hc, hp, this] at e f ⊢
    · simp [ho, State.unpin, State.modBuffer, hc] at e f ⊢

theorem State.withoutHolding_setReadback (s : State) (h : Option Holding) (r : RoomId) (x : Readback) :
    (s.setReadback r x).withoutHolding h = (s.withoutHolding h).setReadback r x := by
  cases h <;> rfl

theorem State.withoutHolding_setStation (s : State) (h : Option Holding) (k : StationId) (x : Station) :
    (s.setStation k x).withoutHolding h = (s.withoutHolding h).setStation k x := by
  cases h <;> rfl

@[simp] theorem State.withoutHolding_readback (s : State) (h : Option Holding) (r : RoomId) :
    (s.withoutHolding h).readback r = s.readback r := by
  cases h <;> rfl

@[simp] theorem State.withoutHolding_station (s : State) (h : Option Holding) (k : StationId) :
    (s.withoutHolding h).station k = s.station k := by
  cases h <;> rfl

@[simp] theorem State.withoutHolding_room (s : State) (h : Option Holding) (r : RoomId) : (s.withoutHolding h).room r = s.room r := by
  cases h <;> rfl

@[simp] theorem State.withoutHolding_link (s : State) (h : Option Holding) (l : LinkId) : (s.withoutHolding h).link l = s.link l := by
  cases h <;> cases l <;> rfl

@[simp] theorem State.withoutHolding_takes (s : State) (h : Option Holding) : (s.withoutHolding h).takes = s.takes := by
  cases h <;> rfl

/-- A station's holding released while nothing waits. -/
theorem State.releaseHolding_of_noneWaits {s : State} (k : StationId) (h : (s.station k).holding ≠ none → s.noneWaits) :
    s.releaseHolding k = (s.withoutHolding (s.station k).holding).setStation k { s.station k with holding := none } := by
  unfold State.releaseHolding
  cases hh : (s.station k).holding with
  | none =>
    simp [State.withoutHolding]
    rw [← hh]; show s = s.setStation k (s.station k); simp [State.setStation, State.station]
  | some x =>
    have := h (by simp [hh])
    simp only [State.modStation]
    rw [State.dropHolding_of_noneWaits (by exact this), State.withoutHolding_setStation]

/-- A read-back's holding released while nothing waits. -/
theorem State.releaseReadback_of_noneWaits {s : State} (r : RoomId) (h : (s.readback r).holding ≠ none → s.noneWaits) :
    s.releaseReadback r = (s.withoutHolding (s.readback r).holding).setReadback r { s.readback r with holding := none } := by
  unfold State.releaseReadback
  cases hh : (s.readback r).holding with
  | none =>
    simp [State.withoutHolding]
    rw [← hh]; show s = s.setReadback r (s.readback r); simp [State.setReadback, State.readback]
  | some x =>
    have := h (by simp [hh])
    simp only [State.modReadback]
    rw [State.dropHolding_of_noneWaits (by exact this), State.withoutHolding_setReadback]

end Sys2Proof.Machine
end

