-- ==== Sys2Proof/Laws/Memory.lean ====
section
/-! SUPPORT. The byte memories: the canonical form is kept by every operation, a read after a write gives what was written, and a
write leaves every other address alone. -/

namespace Sys2Proof.Machine

variable {unl : Byte} {m : List Host.Cell}

/-- The canonical form: addresses strictly rising, no listed byte equal to the unlisted one. -/
theorem Memory.wf_iff : Memory.wf unl m = true ↔ m.Pairwise (fun c d => c.1 < d.1) ∧ ∀ c ∈ m, c.2 ≠ unl := by
  induction m with
  | nil => simp [Memory.wf]
  | cons c rest ih =>
    cases rest with
    | nil => simp [Memory.wf]
    | cons d rest =>
      simp only [Memory.wf, Bool.and_eq_true, bne_iff_ne, ne_eq, decide_eq_true_eq, ih, List.pairwise_cons,
        List.mem_cons, forall_eq_or_imp]
      constructor
      · rintro ⟨⟨hc, hcd⟩, ⟨hd, hp⟩, hd', hr⟩
        exact ⟨⟨⟨hcd, fun e he => Nat.lt_trans hcd (hd e he)⟩, hd, hp⟩, hc, hd', hr⟩
      · rintro ⟨⟨⟨hcd, _⟩, hd, hp⟩, hc, hd', hr⟩
        exact ⟨⟨hc, hcd⟩, ⟨hd, hp⟩, hd', hr⟩

theorem Memory.wf_filter (p : Host.Cell → Bool) (h : Memory.wf unl m = true) : Memory.wf unl (m.filter p) = true := by
  rw [Memory.wf_iff] at h ⊢
  exact ⟨h.1.filter p, fun c hc => h.2 c (List.mem_filter.mp hc).1⟩

theorem Memory.clear_wf (a n : Nat) (h : Memory.wf unl m = true) : Memory.wf unl (Memory.clear m a n) = true :=
  Memory.wf_filter _ h

/-- The cells of bytes from an address lie at their addresses and are listed in order. -/
theorem Memory.cells_spec (a : Nat) (bs : List Byte) :
    (Memory.cells unl a bs).Pairwise (fun c d => c.1 < d.1) ∧
      ∀ c ∈ Memory.cells unl a bs, a ≤ c.1 ∧ c.1 < a + bs.length ∧ c.2 ≠ unl := by
  induction bs generalizing a with
  | nil => simp [Memory.cells]
  | cons b bs ih =>
    obtain ⟨hp, hm⟩ := ih (a + 1)
    by_cases hb : b = unl
    · simp only [Memory.cells, hb, if_true]
      exact ⟨hp, fun c hc => by
        obtain ⟨h1, h2, h3⟩ := hm c hc
        exact ⟨by omega, by rw [List.length_cons]; omega, h3⟩⟩
    · simp only [Memory.cells, hb, if_false, List.pairwise_cons, List.mem_cons, List.length_cons]
      refine ⟨⟨fun c hc => ?_, hp⟩, ?_⟩
      · have := hm c hc; omega
      · rintro c (rfl | hc)
        · exact ⟨Nat.le_refl _, by omega, hb⟩
        · have := hm c hc; exact ⟨by omega, by omega, this.2.2⟩

/-- A write keeps the canonical form. -/
theorem Memory.writeBytes_wf (a : Nat) (bs : List Byte) (h : Memory.wf unl m = true) :
    Memory.wf unl (Memory.writeBytes unl m a bs) = true := by
  rw [Memory.wf_iff] at h ⊢
  obtain ⟨hp, hm⟩ := Memory.cells_spec (unl := unl) a bs
  constructor
  · simp only [Memory.writeBytes, List.pairwise_append, List.mem_append, List.mem_filter, decide_eq_true_eq]
    refine ⟨⟨h.1.filter _, hp, fun c hc d hd => ?_⟩, h.1.filter _, fun c hc d hd => ?_⟩
    · have := hm d hd; omega
    · rcases hc with hc | hc
      · omega
      · have := hm c hc; omega
  · intro c hc
    simp only [Memory.writeBytes, List.mem_append, List.mem_filter] at hc
    rcases hc with (hc | hc) | hc
    · exact h.2 c hc.1
    · exact (hm c hc).2.2
    · exact h.2 c hc.1

theorem Memory.read_nil (a : Nat) : Memory.read unl [] a = unl := rfl

/-- What a canonical memory reads at an address it lists no cell for. -/
theorem Memory.read_of_notMem {a : Nat} (h : ∀ c ∈ m, c.1 ≠ a) : Memory.read unl m a = unl := by
  induction m with
  | nil => rfl
  | cons c rest ih =>
    simp only [Memory.read, h c (List.mem_cons_self ..), if_false]
    split
    · rfl
    · exact ih fun d hd => h d (List.mem_cons_of_mem _ hd)

/-- What a memory of rising addresses reads at an address it lists. -/
theorem Memory.read_of_mem {a : Nat} {b : Byte} (hp : m.Pairwise (fun c d => c.1 < d.1)) (h : (a, b) ∈ m) :
    Memory.read unl m a = b := by
  induction m with
  | nil => simp at h
  | cons c rest ih =>
    rw [List.pairwise_cons] at hp
    rcases List.mem_cons.mp h with h | h
    · subst h; simp [Memory.read]
    · have hlt := hp.1 _ h
      have : c.1 ≠ a := by simp only at hlt; omega
      have hn : ¬ a < c.1 := by simp only at hlt; omega
      simp only [Memory.read, this, hn, if_false]
      exact ih hp.2 h

/-- Two memories of rising addresses with the same cell at an address, or none, read the same there. -/
theorem Memory.read_congr {m' : List Host.Cell} {a : Nat} (hp : m.Pairwise (fun c d => c.1 < d.1))
    (hp' : m'.Pairwise (fun c d => c.1 < d.1)) (h : ∀ b, (a, b) ∈ m ↔ (a, b) ∈ m') :
    Memory.read unl m a = Memory.read unl m' a := by
  by_cases hm : ∃ b, (a, b) ∈ m
  · obtain ⟨b, hb⟩ := hm
    rw [Memory.read_of_mem hp hb, Memory.read_of_mem hp' ((h b).mp hb)]
  · rw [Memory.read_of_notMem, Memory.read_of_notMem]
    · rintro ⟨c, v⟩ hc rfl; exact hm ⟨v, (h v).mpr hc⟩
    · rintro ⟨c, v⟩ hc rfl; exact hm ⟨v, hc⟩

theorem Memory.pairwise_of_wf (h : Memory.wf unl m = true) : m.Pairwise (fun c d => c.1 < d.1) := (Memory.wf_iff.mp h).1

/-- A write leaves every address outside it as it was. -/
theorem Memory.read_writeBytes_of_outside {a x : Nat} {bs : List Byte} (h : Memory.wf unl m = true)
    (hx : x < a ∨ a + bs.length ≤ x) : Memory.read unl (Memory.writeBytes unl m a bs) x = Memory.read unl m x := by
  refine Memory.read_congr (Memory.pairwise_of_wf (Memory.writeBytes_wf a bs h)) (Memory.pairwise_of_wf h) fun b => ?_
  simp only [Memory.writeBytes, List.mem_append, List.mem_filter, decide_eq_true_eq]
  constructor
  · rintro ((h1 | h1) | h1)
    · exact h1.1
    · have := (Memory.cells_spec (unl := unl) a bs).2 _ h1; simp only at this; omega
    · exact h1.1
  · intro h1
    rcases hx with hx | hx
    · exact .inl (.inl ⟨h1, hx⟩)
    · exact .inr ⟨h1, hx⟩

theorem Memory.read_cells (a i : Nat) (bs : List Byte) (hi : i < bs.length) :
    Memory.read unl (Memory.cells unl a bs) (a + i) = bs[i] := by
  induction bs generalizing a i with
  | nil => simp at hi
  | cons b bs ih =>
    obtain ⟨hp, hm⟩ := Memory.cells_spec (unl := unl) a (b :: bs)
    cases i with
    | zero =>
      by_cases hb : b = unl
      · simp only [Memory.cells, hb, if_true, Nat.add_zero, List.getElem_cons_zero]
        refine Memory.read_of_notMem fun c hc => ?_
        have := (Memory.cells_spec (unl := unl) (a + 1) bs).2 c hc; omega
      · simp [Memory.cells, hb, Memory.read]
    | succ i =>
      have hi' : i < bs.length := by simpa using hi
      have e := ih (a + 1) i hi'
      rw [show a + (i + 1) = a + 1 + i by omega, List.getElem_cons_succ]
      by_cases hb : b = unl
      · simpa only [Memory.cells, hb, if_true] using e
      · simp only [Memory.cells, hb, if_false, Memory.read]
        rw [if_neg (by omega), if_neg (by omega)]
        exact e

/-- A read inside a write gives the byte written. -/
theorem Memory.read_writeBytes_of_inside {a i : Nat} {bs : List Byte} (h : Memory.wf unl m = true) (hi : i < bs.length) :
    Memory.read unl (Memory.writeBytes unl m a bs) (a + i) = bs[i] := by
  rw [← Memory.read_cells (unl := unl) a i bs hi]
  refine Memory.read_congr (Memory.pairwise_of_wf (Memory.writeBytes_wf a bs h)) (Memory.cells_spec a bs).1 fun b => ?_
  simp only [Memory.writeBytes, List.mem_append, List.mem_filter, decide_eq_true_eq]
  constructor
  · rintro ((h1 | h1) | h1)
    · omega
    · exact h1
    · omega
  · exact fun h1 => .inl (.inr h1)

/-- Clearing makes an address read as unlisted, and leaves every other as it was. -/
theorem Memory.read_clear {a n x : Nat} (h : Memory.wf unl m = true) :
    Memory.read unl (Memory.clear m a n) x = if a ≤ x ∧ x < a + n then unl else Memory.read unl m x := by
  split
  · refine Memory.read_of_notMem fun c hc => ?_
    simp only [Memory.clear, List.mem_filter, decide_eq_true_eq] at hc
    omega
  · refine Memory.read_congr (Memory.pairwise_of_wf (Memory.clear_wf a n h)) (Memory.pairwise_of_wf h) fun b => ?_
    simp only [Memory.clear, List.mem_filter, decide_eq_true_eq]
    exact and_iff_left (by omega)

theorem Memory.read_above {a b : Nat} (h : b ≤ a) : Memory.read unl (Memory.above b m) a = Memory.read unl m a := by
  induction m with
  | nil => rfl
  | cons c rest ih =>
    simp only [Memory.above]
    split
    · rw [ih]
      simp only [Memory.read]
      rw [if_neg (by omega), if_neg (by omega)]
    · rfl

theorem Memory.above_above {a b : Nat} (h : b ≤ a) : Memory.above a (Memory.above b m) = Memory.above a m := by
  induction m with
  | nil => rfl
  | cons c rest ih =>
    simp only [Memory.above]
    split
    · rw [ih, if_pos (by omega)]
    · rfl

/-- The bytes from an address are the reads at each. -/
theorem Memory.readBytes_eq (a n : Nat) :
    Memory.readBytes unl m a n = (List.range n).map fun i => Memory.read unl m (a + i) := by
  suffices H : ∀ (m : List Host.Cell) (a : Nat),
      Memory.readBytes unl m a n = (List.range n).map fun i => Memory.read unl m (a + i) from H m a
  intro m
  induction n generalizing m with
  | zero => intro a; rfl
  | succ n ih =>
    intro a
    simp only [Memory.readBytes, List.range_succ_eq_map, List.map_cons, List.map_map, Nat.add_zero,
      Memory.read_above (Nat.le_refl a), ih]
    congr 1
    refine List.map_congr_left fun i _ => ?_
    simp only [Function.comp, Nat.succ_eq_add_one]
    rw [Memory.read_above (by omega)]
    congr 1; omega

/-- The bytes read from an offset on are the bytes read from the address there. -/
theorem Memory.drop_readBytes (a n k : Nat) :
    (Memory.readBytes unl m a n).drop k = Memory.readBytes unl m (a + k) (n - k) := by
  rw [Memory.readBytes_eq, Memory.readBytes_eq]
  apply List.ext_getElem
  · simp
  · intro i h₁ h₂
    simp [Nat.add_assoc]

@[simp] theorem Memory.readBytes_length (a n : Nat) : (Memory.readBytes unl m a n).length = n := by
  simp [Memory.readBytes_eq]

/-- Two canonical memories that read the same everywhere are the same. -/
theorem Memory.ext_read {m' : List Host.Cell} (h : Memory.wf unl m = true) (h' : Memory.wf unl m' = true)
    (hr : ∀ a, Memory.read unl m a = Memory.read unl m' a) : m = m' := by
  induction m generalizing m' with
  | nil =>
    cases m' with
    | nil => rfl
    | cons d rest =>
      have := hr d.1
      rw [Memory.wf_iff] at h'
      rw [Memory.read_of_mem h'.1 (List.mem_cons_self ..)] at this
      exact absurd this.symm (h'.2 d (List.mem_cons_self ..))
  | cons c rest ih =>
    cases m' with
    | nil =>
      have := hr c.1
      rw [Memory.wf_iff] at h
      rw [Memory.read_of_mem h.1 (List.mem_cons_self ..)] at this
      exact absurd this (h.2 c (List.mem_cons_self ..))
    | cons d rest' =>
      rw [Memory.wf_iff] at h h'
      have hc : c.1 = d.1 := by
        rcases Nat.lt_trichotomy c.1 d.1 with hlt | he | hlt
        · have e := hr c.1
          rw [Memory.read_of_mem h.1 (List.mem_cons_self ..)] at e
          simp only [Memory.read, if_neg (show ¬ d.1 = c.1 by omega), hlt, if_true] at e
          exact absurd e (h.2 c (List.mem_cons_self ..))
        · exact he
        · have e := hr d.1
          rw [Memory.read_of_mem h'.1 (List.mem_cons_self ..)] at e
          simp only [Memory.read, if_neg (show ¬ c.1 = d.1 by omega), hlt, if_true] at e
          exact absurd e.symm (h'.2 d (List.mem_cons_self ..))
      have hv : c.2 = d.2 := by
        have e := hr c.1
        rw [Memory.read_of_mem h.1 (List.mem_cons_self ..), hc, Memory.read_of_mem h'.1 (List.mem_cons_self ..)] at e
        exact e
      have hcd : c = d := Prod.ext hc hv
      subst hcd
      rw [List.pairwise_cons] at h h'
      congr 1
      refine ih ?_ ?_ fun a => ?_
      · exact Memory.wf_iff.mpr ⟨h.1.2, fun x hx => h.2 x (List.mem_cons_of_mem _ hx)⟩
      · exact Memory.wf_iff.mpr ⟨h'.1.2, fun x hx => h'.2 x (List.mem_cons_of_mem _ hx)⟩
      · by_cases ha : c.1 < a
        · have e := hr a
          simpa only [Memory.read, if_neg (show ¬ c.1 = a by omega), if_neg (show ¬ a < c.1 by omega)] using e
        · rw [Memory.read_of_notMem, Memory.read_of_notMem]
          · intro x hx; have := h'.1.1 x hx; omega
          · intro x hx; have := h.1.1 x hx; omega

end Sys2Proof.Machine
end

