-- ==== Sys2Proof/Laws/Kept.lean ====
section
/-! SUPPORT. What every shared operation keeps, said once for each: the canonical form of the memories, the limits of the alert list, the
settings, windows, readiness, clock and waiting commands, and the identity and growth of the takes. -/

namespace Sys2Proof.Machine

/-- What an operation that is no configuration command keeps. -/
structure Kept (s t : State) : Prop where
  memory : s.memoryForm → t.memoryForm
  alerts : s.alertLimits → t.alertLimits
  windows : t.windows = s.windows
  threshold : t.threshold = s.threshold
  lowWater : t.lowWater = s.lowWater
  alertMask : t.alertMask = s.alertMask
  settingsHold : t.settingsHold = s.settingsHold
  readiness : t.readiness = s.readiness
  clock : t.clock = s.clock
  pending : t.pending = s.pending
  takes : ∀ b ∈ t.takes, ∃ a ∈ s.takes, b.follows a

variable {s₀ s t : State}

theorem Take.follows_refl (a : Take) : a.follows a := ⟨rfl, rfl, rfl, rfl, rfl, Nat.le_refl _⟩

theorem Take.follows_trans {a b c : Take} (h : c.follows b) (g : b.follows a) : c.follows a :=
  ⟨h.1.trans g.1, h.2.1.trans g.2.1, h.2.2.1.trans g.2.2.1, h.2.2.2.1.trans g.2.2.2.1, h.2.2.2.2.1.trans g.2.2.2.2.1,
    Nat.le_trans g.2.2.2.2.2 h.2.2.2.2.2⟩

@[simp] theorem Kept.refl (s : State) : Kept s s :=
  ⟨id, id, rfl, rfl, rfl, rfl, rfl, rfl, rfl, rfl, fun b hb => ⟨b, hb, b.follows_refl⟩⟩

theorem Kept.trans (h : Kept s₀ s) (g : Kept s t) : Kept s₀ t where
  memory := g.memory ∘ h.memory
  alerts := g.alerts ∘ h.alerts
  windows := g.windows.trans h.windows
  threshold := g.threshold.trans h.threshold
  lowWater := g.lowWater.trans h.lowWater
  alertMask := g.alertMask.trans h.alertMask
  settingsHold := g.settingsHold.trans h.settingsHold
  readiness := g.readiness.trans h.readiness
  clock := g.clock.trans h.clock
  pending := g.pending.trans h.pending
  takes := fun b hb => by
    obtain ⟨c, hc, e⟩ := g.takes b hb
    obtain ⟨a, ha, e'⟩ := h.takes c hc
    exact ⟨a, ha, Take.follows_trans e e'⟩

/-! ### The plain updates -/

/-- An update that leaves the tracked fields alone. -/
@[simp] theorem kept_update (h : Kept s₀ s) (rl sl sv rooms lastId enq st rb bufs dw units fl rf ff uw rs eng ws banks ops
    rn ctr reb fu) :
    Kept s₀ ⟨rl, sl, sv, rooms, s.takes, lastId, enq, st, rb, bufs, dw, s.ram, s.windows, units, fl, rf, ff, uw, rs, eng, ws,
      banks, ops, rn, ctr, s.flash, s.readiness, reb, s.threshold, s.lowWater, s.alertMask, s.settingsHold, s.alerts,
      s.alertOverflow, s.nextAlert, s.clock, fu, s.pending⟩ :=
  h.trans ⟨id, id, rfl, rfl, rfl, rfl, rfl, rfl, rfl, rfl, fun b hb => ⟨b, hb, b.follows_refl⟩⟩

@[simp] theorem kept_setLink (h : Kept s₀ s) (l : LinkId) (x : LinkRec) : Kept s₀ (s.setLink l x) := by
  cases l <;> exact kept_update h ..

@[simp] theorem kept_setRoom (h : Kept s₀ s) (r : RoomId) (x : Room) : Kept s₀ (s.setRoom r x) := kept_update h ..
@[simp] theorem kept_setStation (h : Kept s₀ s) (k : StationId) (x : Station) : Kept s₀ (s.setStation k x) :=
  kept_update h ..
@[simp] theorem kept_setReadback (h : Kept s₀ s) (r : RoomId) (x : Readback) : Kept s₀ (s.setReadback r x) :=
  kept_update h ..
@[simp] theorem kept_setBuffer (h : Kept s₀ s) (b : BufId) (x : Buffer) : Kept s₀ (s.setBuffer b x) := kept_update h ..
@[simp] theorem kept_setBank (h : Kept s₀ s) (b : BankId) (x : BankRec) : Kept s₀ (s.setBank b x) := kept_update h ..
@[simp] theorem kept_modUnit (h : Kept s₀ s) (n : Nat) (f : UnitEntry → UnitEntry) : Kept s₀ (s.modUnit n f) :=
  kept_update h ..
@[simp] theorem kept_useFree (h : Kept s₀ s) : Kept s₀ s.useFree := kept_update h ..

/-- An update of the take table whose records follow those before. -/
theorem kept_takes (h : Kept s₀ s) {ts : List Take} (hf : ∀ b ∈ ts, ∃ a ∈ s.takes, b.follows a) :
    Kept s₀ { s with takes := ts } :=
  h.trans ⟨id, id, rfl, rfl, rfl, rfl, rfl, rfl, rfl, rfl, hf⟩

/-- A change of a take's record that follows it. -/
@[simp] theorem kept_modTake (h : Kept s₀ s) (n : Nat) {f : Take → Take} (hf : ∀ t, (f t).follows t) : Kept s₀ (s.modTake n f) := by
  refine kept_takes h fun b hb => ?_
  simp only [List.mem_map] at hb
  obtain ⟨a, ha, rfl⟩ := hb
  refine ⟨a, ha, ?_⟩
  split
  · exact hf a
  · exact a.follows_refl

@[simp] theorem Take.modSegment_follows (t : Take) (i : Nat) (f : Segment → Segment) : (t.modSegment i f).follows t :=
  Take.follows_refl t

@[simp] theorem kept_modSegment (h : Kept s₀ s) (x : SegRef) (f : Segment → Segment) : Kept s₀ (s.modSegment x f) :=
  kept_modTake h _ fun t => t.modSegment_follows _ _

@[simp] theorem kept_writeBuf (h : Kept s₀ s) (b : BufId) (o : Nat) (bs : List Byte) : Kept s₀ (s.writeBuf b o bs) :=
  h.trans ⟨fun m => ⟨Memory.writeBytes_wf _ _ m.1, m.2⟩, id, rfl, rfl, rfl, rfl, rfl, rfl, rfl, rfl,
    fun b hb => ⟨b, hb, b.follows_refl⟩⟩

/-- An update of the flash store that keeps its canonical form. -/
theorem kept_flash (h : Kept s₀ s) {f : List Host.Cell}
    (hf : Memory.wf flashUnlisted s.flash = true → Memory.wf flashUnlisted f = true) : Kept s₀ { s with flash := f } :=
  h.trans ⟨fun m => ⟨m.1, hf m.2⟩, id, rfl, rfl, rfl, rfl, rfl, rfl, rfl, rfl, fun b hb => ⟨b, hb, b.follows_refl⟩⟩

@[simp] theorem kept_ite {p : Prop} [Decidable p] {u v : State} (hu : Kept s₀ u) (hv : Kept s₀ v) :
    Kept s₀ (if p then u else v) := by
  split <;> assumption

@[simp] theorem Take.follows_ite {p : Prop} [Decidable p] {a b c : Take} (hb : b.follows a) (hc : c.follows a) :
    (if p then b else c).follows a := by
  split <;> assumption

/-- A fold of operations that keep. -/
theorem kept_foldl {α : Type} (f : State → α → State) (hf : ∀ u x, Kept s₀ u → Kept s₀ (f u x)) (h : Kept s₀ s) (xs : List α) :
    Kept s₀ (xs.foldl f s) := by
  induction xs generalizing s with
  | nil => exact h
  | cons x xs ih => exact ih (hf s x h)

/-! ### Alerts, messages and the queue -/

@[simp] theorem kept_raise (h : Kept s₀ s) (a : Alert) : Kept s₀ (s.raise a) := by
  refine h.trans ?_
  unfold State.raise
  split
  · rename_i hl
    refine ⟨id, fun g => ⟨?_, g.2.1, ?_⟩, rfl, rfl, rfl, rfl, rfl, rfl, rfl, rfl, fun b hb => ⟨b, hb, b.follows_refl⟩⟩
    · simp only [List.length_append, List.length_singleton]; exact hl
    · have := Nat.mod_lt (s.nextAlert + 1) (show 0 < Config.wrap32 by decide)
      simp only [Config.wrap32, Config.max32] at *; omega
  · refine ⟨id, fun g => ⟨g.1, ?_, ?_⟩, rfl, rfl, rfl, rfl, rfl, rfl, rfl, rfl, fun b hb => ⟨b, hb, b.follows_refl⟩⟩
    · exact Nat.min_le_right ..
    · have := Nat.mod_lt (s.nextAlert + 1) (show 0 < Config.wrap32 by decide)
      simp only [Config.wrap32, Config.max32] at *; omega

end Sys2Proof.Machine
end

