-- ==== Sys2Proof/Laws/KeptOps.lean ====
section
/-! SUPPORT. One lemma for each shared operation: it keeps what Kept names. -/

namespace Sys2Proof.Machine

variable {s₀ s t : State}

@[simp] theorem kept_send (h : Kept s₀ s) (l : LinkId) (m : Message) :
    Kept s₀ (State.send s l m) := by
  unfold State.send; (try dsimp only); (repeat' split) <;> simp (maxDischargeDepth := 40) [h]

@[simp] theorem kept_answer (h : Kept s₀ s) (l : LinkId) (st : Status) (ind : Indications) (body : List Byte) :
    Kept s₀ (s.answer l st ind body) := by
  unfold State.answer; dsimp only; split <;> simp [h]

@[simp] theorem kept_answerFields (h : Kept s₀ s) (l : LinkId) (st : Status) (ind : Indications) (fs : List BodyField) :
    Kept s₀ (s.answerFields l st ind fs) :=
  kept_answer h ..

@[simp] theorem kept_reply (h : Kept s₀ s) (l : LinkId) (kind : Nat) (tag : Byte) (st : Status) :
    Kept s₀ (State.reply s l kind tag st) := by
  unfold State.reply; simp (maxDischargeDepth := 40) [h]

@[simp] theorem kept_notify (h : Kept s₀ s) (l : LinkId) (kind : Nat) (body : List Byte) :
    Kept s₀ (State.notify s l kind body) := by
  unfold State.notify; simp (maxDischargeDepth := 40) [h]

@[simp] theorem kept_renumberQueue (h : Kept s₀ s) : Kept s₀ s.renumberQueue := by
  unfold State.renumberQueue
  refine kept_update (kept_takes h fun b hb => ?_) ..
  obtain ⟨a, ha, rfl⟩ := List.mem_map.mp hb
  exact ⟨a, ha, a.follows_refl⟩

@[simp] theorem kept_enqueue (h : Kept s₀ s) (x : SegRef) (band : Nat) : Kept s₀ (s.enqueue x band) := by
  unfold State.enqueue
  dsimp only
  refine kept_update (kept_modSegment ?_ _ _) ..
  split <;> simp [h]

@[simp] theorem kept_handOver (h : Kept s₀ s) (x : SegRef) :
    Kept s₀ (State.handOver s x) := by
  unfold State.handOver; simp (maxDischargeDepth := 40) [h]

@[simp] theorem kept_returnSegment (h : Kept s₀ s) (x : SegRef) (resume : Option Nat) :
    Kept s₀ (State.returnSegment s x resume) := by
  unfold State.returnSegment; (repeat' split) <;> simp (maxDischargeDepth := 40) [h]

@[simp] theorem kept_assign (h : Kept s₀ s) (x : SegRef) (k : StationId) (slot : Slot) :
    Kept s₀ (State.assign s x k slot) := by
  unfold State.assign; simp (maxDischargeDepth := 40) [h]

@[simp] theorem kept_rushCheck (h : Kept s₀ s) (before : State) :
    Kept s₀ (State.rushCheck before s) := by
  unfold State.rushCheck; (repeat' split) <;> simp (maxDischargeDepth := 40) [h]

@[simp] theorem kept_addMark (h : Kept s₀ s) (take : Nat) (m : Mark) : Kept s₀ (s.addMark take m) :=
  kept_modTake h _ fun t => t.follows_refl

@[simp] theorem kept_loseMarks (h : Kept s₀ s) (r : RoomId) (take : Nat) (n : Nat) :
    Kept s₀ (State.loseMarks s r take n) := by
  unfold State.loseMarks; simp (maxDischargeDepth := 40) [h]

@[simp] theorem kept_carry (h : Kept s₀ s) (r : RoomId) (take : Nat) (m : Mark) :
    Kept s₀ (State.carry s r take m) := by
  unfold State.carry; (try dsimp only); (repeat' split) <;> simp (maxDischargeDepth := 40) [h]

@[simp] theorem kept_placeMark (h : Kept s₀ s) (r : RoomId) (take : Nat) (m : Mark) :
    Kept s₀ (State.placeMark s r take m) := by
  unfold State.placeMark; simp (maxDischargeDepth := 40) [h]

@[simp] theorem kept_placeGapMarks (r : RoomId) (take : Nat) (g : GapType) (codes : List Nat) :
    ∀ {s : State} (first : Nat), Kept s₀ s → Kept s₀ (s.placeGapMarks r take g first codes) := by
  induction codes with
  | nil => intro s first h; exact h
  | cons c cs ih =>
    intro s first h
    unfold State.placeGapMarks
    exact ih _ (by split <;> simp [h])

@[simp] theorem kept_reportGap (h : Kept s₀ s) (r : RoomId) (take : Nat) (g : GapType) (first n : Nat) :
    Kept s₀ (s.reportGap r take g first n) := by
  unfold State.reportGap
  refine kept_raise (kept_placeGapMarks r take g _ first ?_) _
  cases g
  · exact h
  · exact kept_modTake h _ fun t => t.follows_refl

@[simp] theorem kept_reportFilledRun (h : Kept s₀ s) (r : RoomId) :
    Kept s₀ (State.reportFilledRun s r) := by
  unfold State.reportFilledRun; (repeat' split) <;> simp (maxDischargeDepth := 40) [h]

@[simp] theorem kept_tellClosed (h : Kept s₀ s) (x : SegRef) (last : Nat) (bound : Option Nat) (k : StationId) :
    Kept s₀ (State.tellClosed x last bound s k) := by
  unfold State.tellClosed; (try dsimp only); (repeat' split) <;> simp (maxDischargeDepth := 40) [h]

@[simp] theorem kept_tellAllClosed (h : Kept s₀ s) (x : SegRef) (last : Nat) (bound : Option Nat) :
    Kept s₀ (s.tellAllClosed x last bound) :=
  kept_foldl _ (fun _ k hu => kept_tellClosed hu x last bound k) h _

@[simp] theorem kept_makeCut (h : Kept s₀ s) (t : Take) (g : Segment) (b : Nat) : Kept s₀ (s.makeCut t g b) := by
  unfold State.makeCut
  refine kept_tellAllClosed ?_ ..
  have h1 := kept_modTake (kept_modTake h t.id (f := fun t =>
    { t.modSegment g.index (fun x => { x with last := some (b - 1) }) with cutDeferred := false }) fun a => a.follows_refl)
    t.id (f := fun t => { t with segments := t.segments ++ [newSegment (g.index + 1) b] }) fun a => a.follows_refl
  have h2 := kept_placeMark h1 t.room t.id ⟨.cut, b, g.index + 1, none⟩
  exact kept_ite (kept_handOver (kept_ite (kept_handOver h2 _) h2) _) (kept_ite (kept_handOver h2 _) h2)

@[simp] theorem kept_cutAt (h : Kept s₀ s) (take b : Nat) : Kept s₀ (s.cutAt take b) := by
  unfold State.cutAt
  split
  · exact h
  · split
    · exact h
    · refine kept_ite (kept_ite h (kept_raise ?_ _)) (kept_makeCut h ..)
      exact kept_modTake h _ fun t => t.follows_refl

@[simp] theorem kept_lengthCut (h : Kept s₀ s) (r : RoomId) (take : Nat) :
    Kept s₀ (State.lengthCut s r take) := by
  unfold State.lengthCut; (try dsimp only); (repeat' split) <;> simp (maxDischargeDepth := 40) [h]

@[simp] theorem kept_markCut (h : Kept s₀ s) (r : RoomId) (take : Nat) (k : MarkKind) (b : Nat) :
    Kept s₀ (State.markCut s r take k b) := by
  unfold State.markCut; (try dsimp only); (repeat' split) <;> simp (maxDischargeDepth := 40) [h]

@[simp] theorem kept_checkComplete (h : Kept s₀ s) (take : Nat) : Kept s₀ (s.checkComplete take) :=
  kept_modTake h _ fun t => Take.follows_ite t.follows_refl t.follows_refl

@[simp] theorem kept_makeTyped (h : Kept s₀ s) (x : SegRef) :
    Kept s₀ (State.makeTyped s x) := by
  unfold State.makeTyped; simp (maxDischargeDepth := 40) [h]

@[simp] theorem kept_reportDamage (h : Kept s₀ s) (take b : Nat) : Kept s₀ (s.reportDamage take b) := by
  unfold State.reportDamage
  split
  · exact h
  · refine kept_ite h (kept_raise (kept_modTake h _ fun t => ?_) _)
    split <;> exact t.follows_refl

@[simp] theorem kept_freeTake (h : Kept s₀ s) (take : Nat) : Kept s₀ (s.freeTake take) :=
  kept_update (kept_takes h fun b hb => ⟨b, (List.mem_filter.mp hb).1, b.follows_refl⟩) ..

@[simp] theorem kept_encodePage (h : Kept s₀ s) (b : BufId) :
    Kept s₀ (State.encodePage s b) := by
  unfold State.encodePage; (try dsimp only); simp (maxDischargeDepth := 40) [h]

@[simp] theorem kept_storePage (h : Kept s₀ s) (unit page : Nat) (bs : List Byte) : Kept s₀ (s.storePage unit page bs) := by
  unfold State.storePage
  split
  · exact kept_flash h (Memory.writeBytes_wf _ _)
  · exact h

@[simp] theorem kept_eraseUnit (h : Kept s₀ s) (unit : Nat) : Kept s₀ (s.eraseUnit unit) := by
  unfold State.eraseUnit
  split
  · exact kept_flash h (Memory.clear_wf _ _)
  · exact h

@[simp] theorem kept_spoilPage (h : Kept s₀ s) (unit : Nat) (page : Nat) :
    Kept s₀ (State.spoilPage s unit page) := by
  unfold State.spoilPage; simp (maxDischargeDepth := 40) [h]

@[simp] theorem kept_spoilUnit (h : Kept s₀ s) (unit : Nat) :
    Kept s₀ (State.spoilUnit s unit) := by
  unfold State.spoilUnit; simp (maxDischargeDepth := 40) [h]

@[simp] theorem kept_renumberOps (h : Kept s₀ s)  :
    Kept s₀ (State.renumberOps s) := by
  unfold State.renumberOps; (try dsimp only); simp (maxDischargeDepth := 40) [h]

@[simp] theorem kept_requestOp (h : Kept s₀ s) (cls : Nat) (kind : OpKind) :
    Kept s₀ (State.requestOp s cls kind) := by
  unfold State.requestOp; (try dsimp only); (repeat' split) <;> simp (maxDischargeDepth := 40) [h]

@[simp] theorem kept_writeSeqTag (h : Kept s₀ s) (b : BufId) (unit : Nat) :
    Kept s₀ (State.writeSeqTag s b unit) := by
  unfold State.writeSeqTag; simp (maxDischargeDepth := 40) [h]

@[simp] theorem kept_issueOp (h : Kept s₀ s) (x : Ready) : Kept s₀ (s.issueOp x) := by
  unfold State.issueOp
  extract_lets u v w
  have hv : Kept s₀ v := kept_setBank (kept_update h ..) ..
  have hw : Kept s₀ w := by
    unfold w
    split
    · exact kept_encodePage (kept_writeSeqTag hv ..) _
    · exact hv
  split
  · exact kept_setBuffer hw ..
  · exact hw

@[simp] theorem kept_issueSome (n : Nat) : ∀ {s : State}, Kept s₀ s → Kept s₀ (State.issueSome n s) := by
  induction n with
  | zero => intro s h; exact h
  | succ n ih =>
    intro s h
    unfold State.issueSome
    split
    · exact h
    · exact ih (kept_issueOp h _)

@[simp] theorem kept_issue (h : Kept s₀ s) : Kept s₀ s.issue := kept_issueSome 4 h

@[simp] theorem kept_settle (h : Kept s₀ s) (before : State) : Kept s₀ (State.settle before s) :=
  kept_issue (kept_rushCheck h before)

@[simp] theorem kept_countWords (h : Kept s₀ s) (rs : List SectorResult) :
    Kept s₀ (State.countWords s rs) := by
  unfold State.countWords; (try dsimp only); simp (maxDischargeDepth := 40) [h]

@[simp] theorem kept_countErased (h : Kept s₀ s)  :
    Kept s₀ (State.countErased s) := by
  unfold State.countErased; (try dsimp only); simp (maxDischargeDepth := 40) [h]

@[simp] theorem kept_countProgramFailure (h : Kept s₀ s)  :
    Kept s₀ (State.countProgramFailure s) := by
  unfold State.countProgramFailure; (try dsimp only); simp (maxDischargeDepth := 40) [h]

@[simp] theorem kept_countEraseFailure (h : Kept s₀ s)  :
    Kept s₀ (State.countEraseFailure s) := by
  unfold State.countEraseFailure; (try dsimp only); simp (maxDischargeDepth := 40) [h]

@[simp] theorem kept_countTimeout (h : Kept s₀ s)  :
    Kept s₀ (State.countTimeout s) := by
  unfold State.countTimeout; (try dsimp only); simp (maxDischargeDepth := 40) [h]

@[simp] theorem kept_leaveDropping (h : Kept s₀ s) (r : RoomId) :
    Kept s₀ (State.leaveDropping s r) := by
  unfold State.leaveDropping; (try dsimp only); (repeat' split) <;> simp (maxDischargeDepth := 40) [h]

@[simp] theorem kept_enterDropping (h : Kept s₀ s) (r : RoomId) (c : DropCause) (n : Nat) :
    Kept s₀ (State.enterDropping s r c n) := by
  unfold State.enterDropping; simp (maxDischargeDepth := 40) [h]

@[simp] theorem kept_tellRescueWait (h : Kept s₀ s) (r : RoomId) :
    Kept s₀ (State.tellRescueWait s r) := by
  unfold State.tellRescueWait; (repeat' split) <;> simp (maxDischargeDepth := 40) [h]

@[simp] theorem kept_tellRescueHasUnit (h : Kept s₀ s) (r : RoomId) :
    Kept s₀ (State.tellRescueHasUnit s r) := by
  unfold State.tellRescueHasUnit; (try dsimp only); (repeat' split) <;> simp (maxDischargeDepth := 40) [h]

@[simp] theorem kept_tellUnitGranted (h : Kept s₀ s) (r : RoomId) :
    Kept s₀ (State.tellUnitGranted s r) := by
  unfold State.tellUnitGranted; (repeat' split) <;> simp (maxDischargeDepth := 40) [h]

@[simp] theorem kept_giveFilling (h : Kept s₀ s) (r : RoomId) (t : Take) (b : BufId) :
    Kept s₀ (State.giveFilling s r t b) := by
  unfold State.giveFilling; (try dsimp only); (repeat' split) <;> simp (maxDischargeDepth := 40) [h]

@[simp] theorem kept_obtainFilling (h : Kept s₀ s) (r : RoomId) :
    Kept s₀ (State.obtainFilling s r) := by
  unfold State.obtainFilling; (try dsimp only); (repeat' split) <;> simp (maxDischargeDepth := 40) [h]

@[simp] theorem kept_blockBoundary (h : Kept s₀ s) (r : RoomId) :
    Kept s₀ (State.blockBoundary s r) := by
  unfold State.blockBoundary; (repeat' split) <;> simp (maxDischargeDepth := 40) [h]

theorem kept_grantUnit (h : Kept s₀ s) {need take chain u : Nat} {role : Role}
    (e : s.grantUnit need take chain role = some (u, t)) : Kept s₀ t := by
  unfold State.grantUnit at e
  split at e
  · cases e
  · split at e
    · simp only [Option.some.injEq, Prod.mk.injEq] at e
      rw [← e.2]
      exact kept_ite (kept_raise (kept_update (kept_modUnit h ..) ..) _) (kept_update (kept_modUnit h ..) ..)
    · cases e

@[simp] theorem kept_ensureUnit (h : Kept s₀ s) (take tp : Nat) : Kept s₀ (s.ensureUnit take tp).2 := by
  unfold State.ensureUnit
  split
  · exact h
  · split
    · rename_i e; exact kept_grantUnit h e
    · exact h

@[simp] theorem kept_requestErase (h : Kept s₀ s) (n : Nat) : Kept s₀ (s.requestErase n) := by
  unfold State.requestErase
  split
  · split
    · exact kept_requestOp (kept_update (kept_modUnit h ..) ..) ..
    · exact h
  · exact h

@[simp] theorem kept_drainReclaim (h : Kept s₀ s) : Kept s₀ s.drainReclaim :=
  kept_ite (kept_foldl _ (fun _ n hu => kept_requestErase hu n) h _) h

@[simp] theorem kept_reclaimUnit (h : Kept s₀ s) (n : Nat) : Kept s₀ (s.reclaimUnit n) :=
  kept_drainReclaim (kept_update (kept_modUnit h ..) ..)

@[simp] theorem kept_retireUnit (h : Kept s₀ s) (n : Nat) (c : RetireCause) :
    Kept s₀ (State.retireUnit s n c) := by
  unfold State.retireUnit; simp (maxDischargeDepth := 40) [h]

@[simp] theorem kept_requestCopyRead (h : Kept s₀ s) (isRescue : Bool) (w : Work) (b : BufId) :
    Kept s₀ (s.requestCopyRead isRescue w b) :=
  kept_requestOp (kept_update (kept_modUnit h ..) ..) ..

@[simp] theorem kept_askCopyBuffer (h : Kept s₀ s) (isRescue : Bool) (w : Work) :
    Kept s₀ (State.askCopyBuffer s isRescue w) := by
  unfold State.askCopyBuffer; (repeat' split) <;> simp (maxDischargeDepth := 40) [h]

@[simp] theorem kept_engineRetry (h : Kept s₀ s)  :
    Kept s₀ (State.engineRetry s) := by
  unfold State.engineRetry; (repeat' split) <;> simp (maxDischargeDepth := 40) [h]

@[simp] theorem kept_freeBuffer (h : Kept s₀ s) (b : BufId) : Kept s₀ (s.freeBuffer b) := by
  unfold State.freeBuffer
  split
  · split
    · exact kept_giveFilling (kept_update h ..) ..
    · exact kept_engineRetry (kept_setBuffer (kept_update h ..) ..)
  · exact kept_engineRetry (kept_setBuffer h ..)

@[simp] theorem kept_freeOptBuffer (h : Kept s₀ s) (b : Option BufId) :
    Kept s₀ (State.freeOptBuffer s b) := by
  unfold State.freeOptBuffer; (repeat' split) <;> simp (maxDischargeDepth := 40) [h]

theorem kept_endRescue {next : State → State} (hn : ∀ {u}, Kept s₀ u → Kept s₀ (next u)) (h : Kept s₀ s) (w : Work) (d : Nat) :
    Kept s₀ (s.endRescue next w d) := by
  unfold State.endRescue
  exact hn (kept_update (kept_freeOptBuffer (kept_update (kept_requestOp (kept_retireUnit (kept_modUnit h ..) ..) ..) ..) _) ..)

theorem kept_rescueHasUnit {next : State → State} (hn : ∀ {u}, Kept s₀ u → Kept s₀ (next u)) (h : Kept s₀ s) (w : Work)
    (d : Nat) : Kept s₀ (s.rescueHasUnit next w d) := by
  unfold State.rescueHasUnit
  dsimp only
  split
  · exact kept_endRescue hn (kept_update h ..) ..
  · split
    · exact kept_requestCopyRead (kept_update h ..) ..
    · exact kept_askCopyBuffer (kept_update h ..) ..

theorem kept_rescueAsks {next : State → State} (hn : ∀ {u}, Kept s₀ u → Kept s₀ (next u)) (h : Kept s₀ s) (w : Work) :
    Kept s₀ (s.rescueAsks next w) := by
  unfold State.rescueAsks
  split
  · rename_i e; exact kept_rescueHasUnit hn (kept_grantUnit h e) ..
  · dsimp only
    split
    · exact kept_update h ..
    · split
      · exact kept_tellRescueWait (kept_raise (kept_update h ..) _) _
      · exact kept_raise (kept_update h ..) _

@[simp] theorem kept_takeWork (n : Nat) : ∀ {s : State}, Kept s₀ s → Kept s₀ (State.takeWork n s) := by
  induction n with
  | zero => intro s h; exact kept_update h ..
  | succ n ih =>
    intro s h
    unfold State.takeWork
    dsimp only
    split
    · exact kept_update h ..
    · split
      · exact kept_rescueAsks ih (kept_update h ..) _
      · split
        · exact kept_update h ..
        · split
          · exact ih (kept_update h ..)
          · split
            · rename_i e
              exact kept_askCopyBuffer (kept_update (kept_grantUnit (kept_update h ..) e) ..) ..
            · exact ih (kept_raise (kept_modUnit (kept_update h ..) ..) _)

@[simp] theorem kept_engineNext (h : Kept s₀ s) : Kept s₀ s.engineNext := kept_takeWork _ h

@[simp] theorem kept_engineKick (h : Kept s₀ s)  :
    Kept s₀ (State.engineKick s) := by
  unfold State.engineKick; (repeat' split) <;> simp (maxDischargeDepth := 40) [h]

@[simp] theorem kept_reclaimOpt (h : Kept s₀ s) (d : Option Nat) :
    Kept s₀ (State.reclaimOpt s d) := by
  unfold State.reclaimOpt; (repeat' split) <;> simp (maxDischargeDepth := 40) [h]

@[simp] theorem kept_setAside (h : Kept s₀ s) (w : Work) : Kept s₀ (s.setAside w) :=
  kept_engineNext (kept_update (kept_reclaimOpt (kept_freeOptBuffer (kept_update h ..) _) _) ..)

@[simp] theorem kept_stopWork (h : Kept s₀ s) (w : Work) : Kept s₀ (s.stopWork w) :=
  kept_engineNext (kept_reclaimOpt (kept_freeOptBuffer (kept_update h ..) _) _)

@[simp] theorem kept_enterRescue (h : Kept s₀ s) (e : Rescue) : Kept s₀ (s.enterRescue e) := by
  unfold State.enterRescue
  dsimp only
  split
  · exact kept_engineNext (kept_update h ..)
  · exact kept_update h ..
  · exact kept_ite (kept_setAside (kept_update h ..) _) (kept_update h ..)

@[simp] theorem kept_abandonRefresh (h : Kept s₀ s) (w : Work) : Kept s₀ (s.abandonRefresh w) :=
  kept_engineNext (kept_freeOptBuffer (kept_update (kept_raise (kept_modUnit h ..) _) ..) _)

@[simp] theorem kept_restartRefresh (h : Kept s₀ s) (w : Work) : Kept s₀ (s.restartRefresh w) := by
  unfold State.restartRefresh
  split
  · exact kept_abandonRefresh h _
  · rename_i e
    have h1 := kept_grantUnit h e
    dsimp only
    split
    · exact kept_requestCopyRead h1 ..
    · exact kept_askCopyBuffer (kept_update h1 ..) ..

@[simp] theorem kept_endRefresh (h : Kept s₀ s) (w : Work) (d : Nat) : Kept s₀ (s.endRefresh w d) := by
  unfold State.endRefresh
  exact kept_engineNext (kept_raise (kept_freeOptBuffer (kept_update (kept_reclaimUnit (kept_modUnit h ..) _) ..) _) _)

@[simp] theorem kept_offerWaiters (n : Nat) : ∀ {s : State}, Kept s₀ s → Kept s₀ (State.offerWaiters n s) := by
  induction n with
  | zero => intro s h; exact h
  | succ n ih =>
    intro s h
    unfold State.offerWaiters
    split
    · exact h
    · split
      · exact h
      · rename_i e
        exact ih (kept_tellUnitGranted (kept_update (kept_grantUnit h e) ..) _)

@[simp] theorem kept_offerUnit (h : Kept s₀ s) : Kept s₀ s.offerUnit := by
  unfold State.offerUnit
  refine kept_offerWaiters _ ?_
  split
  · split
    · split
      · exact h
      · rename_i e
        refine kept_rescueHasUnit (fun hu => kept_engineNext hu) ?_ ..
        have h1 := kept_grantUnit h e
        split
        · exact kept_tellRescueHasUnit h1 _
        · exact h1
    · exact h
  · exact h

@[simp] theorem kept_checkFull (h : Kept s₀ s) (n : Nat) :
    Kept s₀ (State.checkFull s n) := by
  unfold State.checkFull; (try dsimp only); (repeat' split) <;> simp (maxDischargeDepth := 40) [h]

@[simp] theorem kept_advanceUnit (h : Kept s₀ s) (n : Nat) :
    Kept s₀ (State.advanceUnit s n) := by
  unfold State.advanceUnit; simp (maxDischargeDepth := 40) [h]

@[simp] theorem kept_setFinalPage (h : Kept s₀ s) (take : Nat) (tp : Nat) :
    Kept s₀ (State.setFinalPage s take tp) := by
  unfold State.setFinalPage; (repeat' split) <;> simp (maxDischargeDepth := 40) [h]

@[simp] theorem kept_wantRefresh (h : Kept s₀ s) (n : Nat) :
    Kept s₀ (State.wantRefresh s n) := by
  unfold State.wantRefresh; (try dsimp only); (repeat' split) <;> simp (maxDischargeDepth := 40) [h]

@[simp] theorem kept_pin (h : Kept s₀ s) (b : BufId) :
    Kept s₀ (State.pin s b) := by
  unfold State.pin; simp (maxDischargeDepth := 40) [h]

@[simp] theorem kept_unpin (h : Kept s₀ s) (b : BufId) :
    Kept s₀ (State.unpin s b) := by
  unfold State.unpin; (try dsimp only); (repeat' split) <;> simp (maxDischargeDepth := 40) [h]

@[simp] theorem kept_dropHolding (h : Kept s₀ s) (d : Holding) : Kept s₀ (s.dropHolding d) :=
  kept_ite (kept_freeBuffer h _) (kept_unpin h _)

@[simp] theorem kept_releaseHolding (h : Kept s₀ s) (k : StationId) :
    Kept s₀ (State.releaseHolding s k) := by
  unfold State.releaseHolding; (repeat' split) <;> simp (maxDischargeDepth := 40) [h]

@[simp] theorem kept_releaseReadback (h : Kept s₀ s) (r : RoomId) :
    Kept s₀ (State.releaseReadback s r) := by
  unfold State.releaseReadback; (repeat' split) <;> simp (maxDischargeDepth := 40) [h]

@[simp] theorem kept_requestPageRead (h : Kept s₀ s) (x : Reader) (cls : Nat) (take : Nat) (tp : Nat) (u : UnitEntry) (b : BufId) :
    Kept s₀ (State.requestPageRead s x cls take tp u b) := by
  unfold State.requestPageRead; (try dsimp only); simp (maxDischargeDepth := 40) [h]

@[simp] theorem kept_serveStation (h : Kept s₀ s) (k : StationId) (t : Take) (g : Segment) (b : BufId) :
    Kept s₀ (State.serveStation s k t g b) := by
  unfold State.serveStation; (try dsimp only); simp (maxDischargeDepth := 40) [h]

@[simp] theorem kept_stationFlashRead (h : Kept s₀ s) (k : StationId) (take : Nat) (tp : Nat) :
    Kept s₀ (State.stationFlashRead s k take tp) := by
  unfold State.stationFlashRead; (try dsimp only); (repeat' split) <;> simp (maxDischargeDepth := 40) [h]

@[simp] theorem kept_stationRead (h : Kept s₀ s) (k : StationId) :
    Kept s₀ (State.stationRead s k) := by
  unfold State.stationRead; (try dsimp only); (repeat' split) <;> simp (maxDischargeDepth := 40) [h]

@[simp] theorem kept_stationReadDone (h : Kept s₀ s) (k : StationId) (b : BufId) :
    Kept s₀ (State.stationReadDone s k b) := by
  unfold State.stationReadDone; (try dsimp only); (repeat' split) <;> simp (maxDischargeDepth := 40) [h]

@[simp] theorem kept_serveReadback (h : Kept s₀ s) (r : RoomId) (t : Take) (b : BufId) :
    Kept s₀ (State.serveReadback s r t b) := by
  unfold State.serveReadback; (try dsimp only); simp (maxDischargeDepth := 40) [h]

@[simp] theorem kept_readbackFlashRead (h : Kept s₀ s) (r : RoomId) (take : Nat) (tp : Nat) :
    Kept s₀ (State.readbackFlashRead s r take tp) := by
  unfold State.readbackFlashRead; (try dsimp only); (repeat' split) <;> simp (maxDischargeDepth := 40) [h]

@[simp] theorem kept_restReadback (h : Kept s₀ s) (r : RoomId) :
    Kept s₀ (State.restReadback s r) := by
  unfold State.restReadback; simp (maxDischargeDepth := 40) [h]

@[simp] theorem kept_idleReadback (h : Kept s₀ s) (r : RoomId) :
    Kept s₀ (State.idleReadback s r) := by
  unfold State.idleReadback; simp (maxDischargeDepth := 40) [h]

@[simp] theorem kept_readbackRead (h : Kept s₀ s) (r : RoomId) :
    Kept s₀ (State.readbackRead s r) := by
  unfold State.readbackRead; (try dsimp only); (repeat' split) <;> simp (maxDischargeDepth := 40) [h]

@[simp] theorem kept_readbackReadDone (h : Kept s₀ s) (r : RoomId) (b : BufId) :
    Kept s₀ (State.readbackReadDone s r b) := by
  unfold State.readbackReadDone; (try dsimp only); (repeat' split) <;> simp (maxDischargeDepth := 40) [h]

@[simp] theorem kept_endReadback (h : Kept s₀ s) (r : RoomId) :
    Kept s₀ (State.endReadback s r) := by
  unfold State.endReadback; simp (maxDischargeDepth := 40) [h]

@[simp] theorem kept_setFate (h : Kept s₀ s) (k : StationId) (f : Fate) :
    Kept s₀ (State.setFate s k f) := by
  unfold State.setFate; simp (maxDischargeDepth := 40) [h]

@[simp] theorem kept_leaveCurrent (h : Kept s₀ s) (k : StationId) :
    Kept s₀ (State.leaveCurrent s k).1 := by
  unfold State.leaveCurrent; (try dsimp only); (repeat' split) <;> simp (maxDischargeDepth := 40) [h]

@[simp] theorem kept_loseSlot (h : Kept s₀ s) (k : StationId) (slot : Slot) (f : Fate) :
    Kept s₀ (State.loseSlot s k slot f).1 := by
  unfold State.loseSlot; (repeat' split) <;> simp (maxDischargeDepth := 40) [h]

@[simp] theorem kept_seize (h : Kept s₀ s) (x : SegRef) (k : StationId) (slot : Slot) (emptied : Bool) :
    Kept s₀ (State.seize s x k slot emptied) := by
  unfold State.seize; (try dsimp only); simp (maxDischargeDepth := 40) [h]

@[simp] theorem kept_seizeEmpty (h : Kept s₀ s) (x : SegRef) (g : Segment) :
    Kept s₀ (State.seizeEmpty s x g) := by
  unfold State.seizeEmpty; (repeat' split) <;> simp (maxDischargeDepth := 40) [h]

@[simp] theorem kept_stopSegment (h : Kept s₀ s) (t : Take) (g : Segment) : Kept s₀ (s.stopSegment t g) := by
  unfold State.stopSegment
  dsimp only
  refine kept_ite ?_ (kept_ite ?_ ?_)
  · exact kept_tellAllClosed (kept_ite (kept_handOver (kept_modSegment h ..) _) (kept_modSegment h ..)) ..
  · exact kept_modSegment (kept_seizeEmpty h ..) ..
  · refine kept_setRoom (kept_modTake (kept_seizeEmpty h ..) _ ?_) _ _
    intro a; exact a.follows_refl

@[simp] theorem kept_stopTake (h : Kept s₀ s) (take : Nat) : Kept s₀ (s.stopTake take) := by
  unfold State.stopTake
  split
  · exact h
  · dsimp only
    refine kept_checkComplete (kept_modTake ?_ _ ?_) _
    · split
      · exact kept_stopSegment h ..
      · exact h
    · intro a; exact a.follows_refl

@[simp] theorem kept_handOff (h : Kept s₀ s) (r : RoomId) (t : Take) (b : BufId) (tp : Nat) (valid : Nat) :
    Kept s₀ (State.handOff s r t b tp valid) := by
  unfold State.handOff; (try dsimp only); (repeat' split) <;> simp (maxDischargeDepth := 40) [h]

@[simp] theorem kept_endStoredBlock (h : Kept s₀ s) (r : RoomId) (take : Nat) (b : BufId) :
    Kept s₀ (s.endStoredBlock r take b) := by
  unfold State.endStoredBlock
  split
  · exact h
  · rename_i before _
    have h0 : Kept s₀ (s.modTake take fun t => { t with length := t.length + 1 }) := by
      refine kept_modTake h _ ?_
      intro a; exact ⟨rfl, rfl, rfl, rfl, rfl, Nat.le_succ _⟩
    have h1 := kept_lengthCut h0 r take
    dsimp only
    refine kept_blockBoundary ?_ _
    split
    · split
      · exact h1
      · exact kept_obtainFilling (kept_handOff h1 ..) _
    · exact kept_setRoom h1 _ _

@[simp] theorem kept_unitForBlock (h : Kept s₀ s) (r : RoomId) (t : Take) : Kept s₀ (s.unitForBlock r t).2 := by
  unfold State.unitForBlock
  split
  · exact kept_ensureUnit h ..
  · exact h

@[simp] theorem kept_dropForUnit (h : Kept s₀ s) (r : RoomId) (t : Take) :
    Kept s₀ (State.dropForUnit s r t) := by
  unfold State.dropForUnit; (try dsimp only); simp (maxDischargeDepth := 40) [h]

@[simp] theorem kept_dropBlock (h : Kept s₀ s) (r : RoomId) :
    Kept s₀ (State.dropBlock s r) := by
  unfold State.dropBlock; simp (maxDischargeDepth := 40) [h]

@[simp] theorem kept_answerDropped (h : Kept s₀ s) (r : RoomId) :
    Kept s₀ (State.answerDropped s r) := by
  unfold State.answerDropped; (try dsimp only); simp (maxDischargeDepth := 40) [h]

@[simp] theorem kept_noteClip (h : Kept s₀ s) (r : RoomId) (take : Nat) (block : Nat) (n : Nat) :
    Kept s₀ (State.noteClip s r take block n) := by
  unfold State.noteClip; (try dsimp only); (repeat' split) <;> simp (maxDischargeDepth := 40) [h]

@[simp] theorem kept_giveUpCarry (h : Kept s₀ s) (r : RoomId) (take : Nat) :
    Kept s₀ (State.giveUpCarry s r take) := by
  unfold State.giveUpCarry; (try dsimp only); (repeat' split) <;> simp (maxDischargeDepth := 40) [h]

@[simp] theorem kept_tailPage (h : Kept s₀ s) (r : RoomId) (t : Take) (b : BufId) (tp : Nat) :
    Kept s₀ (State.tailPage s r t b tp) := by
  unfold State.tailPage; simp (maxDischargeDepth := 40) [h]

theorem kept_tailPages (n : Nat) : ∀ {s : State} (r : RoomId) (t : Take) (tp : Nat), Kept s₀ s →
    Kept s₀ (State.tailPages n s r t tp).1 := by
  induction n with
  | zero => intro s r t tp h; exact kept_giveUpCarry h ..
  | succ n ih =>
    intro s r t tp h
    unfold State.tailPages
    split
    · exact h
    · split
      · exact kept_giveUpCarry h ..
      · have h1 := kept_ensureUnit h t.id tp
        split
        · rename_i e; rw [e] at h1; exact kept_giveUpCarry h1 ..
        · rename_i e; rw [e] at h1; exact ih _ _ _ (kept_tailPage (kept_setBuffer h1 ..) ..)

@[simp] theorem kept_flushPages (h : Kept s₀ s) (r : RoomId) (t : Take) : Kept s₀ (s.flushPages r t).1 := by
  unfold State.flushPages
  dsimp only
  split
  · exact kept_tailPages _ _ _ _ h
  · split
    · exact kept_tailPages _ _ _ _ (kept_handOff (kept_writeBuf h ..) ..)
    · split
      · exact kept_freeBuffer (kept_setRoom h ..) _
      · have h1 := kept_ensureUnit h t.id (takePage t.channels t.length)
        split
        · rename_i e; rw [e] at h1; exact kept_tailPages _ _ _ _ (kept_tailPage h1 ..)
        · rename_i e; rw [e] at h1; exact kept_giveUpCarry (kept_freeBuffer (kept_setRoom h1 ..) _) ..

@[simp] theorem kept_leaveForStop (h : Kept s₀ s) (r : RoomId) :
    Kept s₀ (State.leaveForStop s r) := by
  unfold State.leaveForStop; (try dsimp only); simp (maxDischargeDepth := 40) [h]

@[simp] theorem kept_stopRoom (h : Kept s₀ s) (r : RoomId) (after : RoomState) :
    Kept s₀ (State.stopRoom s r after) := by
  unfold State.stopRoom; (try dsimp only); (repeat' split) <;> simp (maxDischargeDepth := 40) [h]

@[simp] theorem kept_limitStop (h : Kept s₀ s) (r : RoomId) (take : Nat) :
    Kept s₀ (State.limitStop s r take) := by
  unfold State.limitStop; (repeat' split) <;> simp (maxDischargeDepth := 40) [h]

@[simp] theorem kept_sendCall (h : Kept s₀ s) (r : RoomId) :
    Kept s₀ (State.sendCall s r) := by
  unfold State.sendCall; (try dsimp only); simp (maxDischargeDepth := 40) [h]

@[simp] theorem kept_beginRecording (h : Kept s₀ s) (r : RoomId) (take : Nat) :
    Kept s₀ (State.beginRecording s r take) := by
  unfold State.beginRecording; simp (maxDischargeDepth := 40) [h]

@[simp] theorem kept_storeBlock (h : Kept s₀ s) (r : RoomId) (t : Take) (b : BufId) (bytes : List Byte) :
    Kept s₀ (s.storeBlock r t b bytes) := by
  unfold State.storeBlock
  have h1 := kept_unitForBlock (kept_reportFilledRun h r) r t
  split
  · rename_i e; rw [e] at h1; exact kept_answerDropped (kept_dropForUnit h1 ..) _
  · rename_i e
    rw [e] at h1
    exact kept_limitStop (kept_answer (kept_endStoredBlock (kept_noteClip (kept_writeBuf h1 ..) ..) ..) ..) ..

@[simp] theorem kept_takeBlock (h : Kept s₀ s) (r : RoomId) (bytes : List Byte) :
    Kept s₀ (State.takeBlock s r bytes) := by
  unfold State.takeBlock; (try dsimp only); (repeat' split) <;> simp (maxDischargeDepth := 40) [h]

@[simp] theorem kept_serveBlock (h : Kept s₀ s) (r : RoomId) (body : List Byte) :
    Kept s₀ (serveBlock r body s) := by
  unfold serveBlock; (try dsimp only); (repeat' split) <;> simp (maxDischargeDepth := 40) [h]

@[simp] theorem kept_storeSilence (h : Kept s₀ s) (r : RoomId) (t : Take) (b : BufId) : Kept s₀ (s.storeSilence r t b) := by
  unfold State.storeSilence
  have h1 := kept_unitForBlock h r t
  split
  · rename_i e; rw [e] at h1; exact kept_dropForUnit h1 ..
  · rename_i e
    rw [e] at h1
    exact kept_limitStop (kept_endStoredBlock (kept_setRoom (kept_writeBuf h1 ..) ..) ..) ..

@[simp] theorem kept_endPeriod (h : Kept s₀ s) (r : RoomId) :
    Kept s₀ (State.endPeriod s r) := by
  unfold State.endPeriod; (try dsimp only); (repeat' split) <;> simp (maxDischargeDepth := 40) [h]

@[simp] theorem kept_serveMark (h : Kept s₀ s) (r : RoomId) (a : MarkArgs) :
    Kept s₀ (serveMark r a s) := by
  unfold serveMark; (try dsimp only); (repeat' split) <;> simp (maxDischargeDepth := 40) [h]

@[simp] theorem kept_serveTakeStop (h : Kept s₀ s) (r : RoomId) :
    Kept s₀ (serveTakeStop r s) := by
  unfold serveTakeStop; (try dsimp only); (repeat' split) <;> simp (maxDischargeDepth := 40) [h]

@[simp] theorem kept_dropReadback (h : Kept s₀ s) (r : RoomId) :
    Kept s₀ (State.dropReadback s r) := by
  unfold State.dropReadback; simp (maxDischargeDepth := 40) [h]

@[simp] theorem kept_loseRoom (h : Kept s₀ s) (r : RoomId) :
    Kept s₀ (State.loseRoom s r) := by
  unfold State.loseRoom; (try dsimp only); (repeat' split) <;> simp (maxDischargeDepth := 40) [h]

@[simp] theorem kept_giveCurrent (h : Kept s₀ s) (k : StationId) (x : SegRef) (start : Nat) :
    Kept s₀ (State.giveCurrent s k x start) := by
  unfold State.giveCurrent; simp (maxDischargeDepth := 40) [h]

@[simp] theorem kept_serveClaim (h : Kept s₀ s) (k : StationId) (own : Option Nat) :
    Kept s₀ (serveClaim k own s) := by
  unfold serveClaim; (try dsimp only); (repeat' split) <;> simp (maxDischargeDepth := 40) [h]

@[simp] theorem kept_serveRead (h : Kept s₀ s) (k : StationId) :
    Kept s₀ (serveRead k s) := by
  unfold serveRead; (repeat' split) <;> simp (maxDischargeDepth := 40) [h]

@[simp] theorem kept_servePause (h : Kept s₀ s) (k : StationId) :
    Kept s₀ (servePause k s) := by
  unfold servePause; (try dsimp only); (repeat' split) <;> simp (maxDischargeDepth := 40) [h]

@[simp] theorem kept_serveResume (h : Kept s₀ s) (k : StationId) :
    Kept s₀ (serveResume k s) := by
  unfold serveResume; (try dsimp only); (repeat' split) <;> simp (maxDischargeDepth := 40) [h]

@[simp] theorem kept_serveSeek (h : Kept s₀ s) (k : StationId) (a : SeekArgs) :
    Kept s₀ (serveSeek k a s) := by
  unfold serveSeek; (try dsimp only); (repeat' split) <;> simp (maxDischargeDepth := 40) [h]

@[simp] theorem kept_serveSetPlayback (h : Kept s₀ s) (k : StationId) (a : SetPlaybackArgs) :
    Kept s₀ (serveSetPlayback k a s) := by
  unfold serveSetPlayback; (try dsimp only); (repeat' split) <;> simp (maxDischargeDepth := 40) [h]

@[simp] theorem kept_serveSetStop (h : Kept s₀ s) (k : StationId) (a : Option Nat) :
    Kept s₀ (serveSetStop k a s) := by
  unfold serveSetStop; (try dsimp only); (repeat' split) <;> simp (maxDischargeDepth := 40) [h]

@[simp] theorem kept_serveDone (h : Kept s₀ s) (k : StationId) (a : Nat × Nat) :
    Kept s₀ (serveDone k a s) := by
  unfold serveDone; (try dsimp only); (repeat' split) <;> simp (maxDischargeDepth := 40) [h]

@[simp] theorem kept_serveRelease (h : Kept s₀ s) (k : StationId) (a : ReleaseArgs) :
    Kept s₀ (serveRelease k a s) := by
  unfold serveRelease; (try dsimp only); (repeat' split) <;> simp (maxDischargeDepth := 40) [h]

@[simp] theorem kept_serveStatus (h : Kept s₀ s) (k : StationId) :
    Kept s₀ (serveStatus k s) := by
  unfold serveStatus; (repeat' split) <;> simp (maxDischargeDepth := 40) [h]

@[simp] theorem kept_returnOpt (h : Kept s₀ s) (x : Option SegRef) :
    Kept s₀ (State.returnOpt s x) := by
  unfold State.returnOpt; (repeat' split) <;> simp (maxDischargeDepth := 40) [h]

@[simp] theorem kept_loseStation (h : Kept s₀ s) (k : StationId) :
    Kept s₀ (State.loseStation s k) := by
  unfold State.loseStation; (try dsimp only); simp (maxDischargeDepth := 40) [h]

@[simp] theorem kept_serveReadbackStart (h : Kept s₀ s) (r : RoomId) (a : ReadbackStartArgs) :
    Kept s₀ (serveReadbackStart r a s) := by
  unfold serveReadbackStart; (try dsimp only); (repeat' split) <;> simp (maxDischargeDepth := 40) [h]

@[simp] theorem kept_serveReadbackRead (h : Kept s₀ s) (r : RoomId) :
    Kept s₀ (serveReadbackRead r s) := by
  unfold serveReadbackRead; (try dsimp only); (repeat' split) <;> simp (maxDischargeDepth := 40) [h]

@[simp] theorem kept_serveReadbackStop (h : Kept s₀ s) (r : RoomId) :
    Kept s₀ (serveReadbackStop r s) := by
  unfold serveReadbackStop; (try dsimp only); (repeat' split) <;> simp (maxDischargeDepth := 40) [h]

@[simp] theorem kept_serveSetClass (h : Kept s₀ s) (a : Nat × Cls) : Kept s₀ (serveSetClass a s) := by
  unfold serveSetClass
  split
  · exact kept_answer h ..
  · rename_i t _
    have h1 : Kept s₀ (s.modTake t.id fun y => { y with cls := a.2 }) := kept_modTake h _ fun b => b.follows_refl
    refine kept_ite (kept_answer h ..) (kept_ite (kept_answer h ..) (kept_settle (kept_answer ?_ ..) _))
    split
    · exact kept_ite (kept_handOver h1 _) h1
    · exact h1

@[simp] theorem kept_serveSetHold (h : Kept s₀ s) (a : Nat × Bool) : Kept s₀ (serveSetHold a s) := by
  unfold serveSetHold
  split
  · exact kept_answer h ..
  · refine kept_ite (kept_answer h ..) (kept_answer (kept_modTake h _ ?_) ..)
    intro b; exact b.follows_refl

@[simp] theorem kept_takeBack (h : Kept s₀ s) (take : Nat) (k : StationId) :
    Kept s₀ (State.takeBack take s k) := by
  unfold State.takeBack; (try dsimp only); (repeat' split) <;> simp (maxDischargeDepth := 40) [h]

@[simp] theorem kept_releaseEndsReadback (h : Kept s₀ s) (take : Nat) (r : RoomId) :
    Kept s₀ (State.releaseEndsReadback take s r) := by
  unfold State.releaseEndsReadback; (try dsimp only); (repeat' split) <;> simp (maxDischargeDepth := 40) [h]

@[simp] theorem kept_withdraw (h : Kept s₀ s) (take : Nat) (b : BufId) :
    Kept s₀ (State.withdraw take s b) := by
  unfold State.withdraw; (try dsimp only); (repeat' split) <;> simp (maxDischargeDepth := 40) [h]

@[simp] theorem kept_reclaimChainUnit (h : Kept s₀ s) (n : Nat) :
    Kept s₀ (State.reclaimChainUnit s n) := by
  unfold State.reclaimChainUnit; (try dsimp only); simp (maxDischargeDepth := 40) [h]

@[simp] theorem kept_stopEngineFor (h : Kept s₀ s) (take : Nat) :
    Kept s₀ (State.stopEngineFor s take) := by
  unfold State.stopEngineFor; (try dsimp only); (repeat' split) <;> simp (maxDischargeDepth := 40) [h]

@[simp] theorem kept_reclaimChain (h : Kept s₀ s) (take : Nat) : Kept s₀ (s.reclaimChain take) :=
  kept_stopEngineFor (kept_drainReclaim (kept_foldl _ (fun _ n hu => kept_reclaimChainUnit hu n) h _)) take

@[simp] theorem kept_releaseTake (h : Kept s₀ s) (take : Nat) : Kept s₀ (s.releaseTake take) := by
  unfold State.releaseTake
  extract_lets c u v w x y z
  have hu : Kept s₀ u := kept_modTake h _ fun b => b.follows_refl
  have hv : Kept s₀ v := kept_foldl _ (fun _ k hp => kept_takeBack hp take k) hu _
  have hw : Kept s₀ w := kept_foldl _ (fun _ r hp => kept_releaseEndsReadback hp take r) hv _
  have hx : Kept s₀ x := kept_modTake hw _ fun b => b.follows_refl
  have hy : Kept s₀ y := kept_foldl _ (fun _ b hp => kept_withdraw hp take b) hx _
  have hz : Kept s₀ z := kept_reclaimChain hy take
  exact kept_ite (kept_freeTake hz take) hz

@[simp] theorem kept_serveReleaseTake (h : Kept s₀ s) (a : Nat × Bool) :
    Kept s₀ (serveReleaseTake a s) := by
  unfold serveReleaseTake; (repeat' split) <;> simp (maxDischargeDepth := 40) [h]

@[simp] theorem kept_setShadow (h : Kept s₀ s) (k : StationId) (cur : SegRef) :
    Kept s₀ (State.setShadow s k cur).1 := by
  unfold State.setShadow; (try dsimp only); simp (maxDischargeDepth := 40) [h]

@[simp] theorem kept_serveDirect (h : Kept s₀ s) (a : DirectArgs) :
    Kept s₀ (serveDirect a s) := by
  unfold serveDirect; (try dsimp only); (repeat' split) <;> simp (maxDischargeDepth := 40) [h]

@[simp] theorem kept_serveRecall (h : Kept s₀ s) (a : Nat × Nat) :
    Kept s₀ (serveRecall a s) := by
  unfold serveRecall; (try dsimp only); (repeat' split) <;> simp (maxDischargeDepth := 40) [h]

@[simp] theorem kept_typeAllQueued (h : Kept s₀ s) (take : Nat) : Kept s₀ (s.typeAllQueued take) := by
  unfold State.typeAllQueued
  refine kept_checkComplete (kept_modTake h _ ?_) take
  intro b; exact b.follows_refl

@[simp] theorem kept_serveMarkTyped (h : Kept s₀ s) (a : Nat × Option Nat) :
    Kept s₀ (serveMarkTyped a s) := by
  unfold serveMarkTyped; (try dsimp only); (repeat' split) <;> simp (maxDischargeDepth := 40) [h]

@[simp] theorem kept_applyIdleStaged (h : Kept s₀ s)  :
    Kept s₀ (State.applyIdleStaged s) := by
  unfold State.applyIdleStaged; simp (maxDischargeDepth := 40) [h]

@[simp] theorem kept_serveConfigureRoom (h : Kept s₀ s) (a : ConfigureRoomArgs) :
    Kept s₀ (serveConfigureRoom a s) := by
  unfold serveConfigureRoom; (try dsimp only); (repeat' split) <;> simp (maxDischargeDepth := 40) [h]

@[simp] theorem kept_serveConfigureStation (h : Kept s₀ s) (a : Nat × Nat) :
    Kept s₀ (serveConfigureStation a s) := by
  unfold serveConfigureStation; (repeat' split) <;> simp (maxDischargeDepth := 40) [h]

@[simp] theorem kept_serveQueryTakes (h : Kept s₀ s) (a : Nat × Option Nat) :
    Kept s₀ (serveQueryTakes a s) := by
  unfold serveQueryTakes; (try dsimp only); simp (maxDischargeDepth := 40) [h]

@[simp] theorem kept_serveQueryTake (h : Kept s₀ s) (id : Nat) :
    Kept s₀ (serveQueryTake id s) := by
  unfold serveQueryTake; (repeat' split) <;> simp (maxDischargeDepth := 40) [h]

@[simp] theorem kept_serveQuerySegments (h : Kept s₀ s) (a : Nat × Nat) :
    Kept s₀ (serveQuerySegments a s) := by
  unfold serveQuerySegments; (repeat' split) <;> simp (maxDischargeDepth := 40) [h]

@[simp] theorem kept_serveQueryMarks (h : Kept s₀ s) (a : QueryMarksArgs) :
    Kept s₀ (serveQueryMarks a s) := by
  unfold serveQueryMarks; (try dsimp only); (repeat' split) <;> simp (maxDischargeDepth := 40) [h]

@[simp] theorem kept_serveQueryStation (h : Kept s₀ s) (n : Nat) :
    Kept s₀ (serveQueryStation n s) := by
  unfold serveQueryStation; (try dsimp only); (repeat' split) <;> simp (maxDischargeDepth := 40) [h]

@[simp] theorem kept_serveQueryReadback (h : Kept s₀ s) (n : Nat) :
    Kept s₀ (serveQueryReadback n s) := by
  unfold serveQueryReadback; (repeat' split) <;> simp (maxDischargeDepth := 40) [h]

@[simp] theorem kept_serveQueryRoom (h : Kept s₀ s) (a : Nat × Bool) :
    Kept s₀ (serveQueryRoom a s) := by
  unfold serveQueryRoom; (try dsimp only); (repeat' split) <;> simp (maxDischargeDepth := 40) [h]

@[simp] theorem kept_serveQueryQueue (h : Kept s₀ s) (a : Nat × Option Nat) :
    Kept s₀ (serveQueryQueue a s) := by
  unfold serveQueryQueue; (try dsimp only); simp (maxDischargeDepth := 40) [h]

@[simp] theorem kept_serveQueryStore (h : Kept s₀ s) (a : QueryStoreArgs) :
    Kept s₀ (serveQueryStore a s) := by
  unfold serveQueryStore; (repeat' split) <;> simp (maxDischargeDepth := 40) [h]

@[simp] theorem kept_beginScan (h : Kept s₀ s) (n : Nat) :
    Kept s₀ (State.beginScan s n) := by
  unfold State.beginScan; (repeat' split) <;> simp (maxDischargeDepth := 40) [h]

@[simp] theorem kept_handOverTake (h : Kept s₀ s) (take : Nat) : Kept s₀ (s.handOverTake take) := by
  unfold State.handOverTake
  split
  · exact h
  · exact kept_foldl _ (fun _ g hu => kept_handOver hu _) h _

@[simp] theorem kept_confirmBuffer (h : Kept s₀ s) (buf : BufId) :
    Kept s₀ (State.confirmBuffer s buf) := by
  unfold State.confirmBuffer; (repeat' split) <;> simp (maxDischargeDepth := 40) [h]

@[simp] theorem kept_waitAgain (h : Kept s₀ s) (op : FlashOp) (buf : BufId) : Kept s₀ (State.waitAgain s op buf) := by
  unfold State.waitAgain; (try dsimp only); simp (maxDischargeDepth := 40) [h]

@[simp] theorem kept_captureDone (h : Kept s₀ s) (op : FlashOp) (buf : BufId) (unit : Nat) (page : Nat) (result : OpResult) :
    Kept s₀ (State.captureDone s op buf unit page result) := by
  unfold State.captureDone; (try dsimp only); (repeat' split) <;> simp (maxDischargeDepth := 40) [h]

@[simp] theorem kept_copyAdvance (h : Kept s₀ s) (isRescue : Bool) (w : Work) (d : Nat) (buf : BufId) :
    Kept s₀ (s.copyAdvance isRescue w d buf) := by
  unfold State.copyAdvance
  refine kept_ite (kept_requestCopyRead (kept_modUnit h ..) ..) (kept_ite ?_ (kept_endRefresh (kept_modUnit h ..) ..))
  exact kept_endRescue (fun hu => kept_engineNext hu) (kept_modUnit h ..) ..

@[simp] theorem kept_copyFailed (h : Kept s₀ s) (isRescue : Bool) (w : Work) (d : Nat) :
    Kept s₀ (s.copyFailed isRescue w d) :=
  kept_ite (kept_rescueAsks (fun hu => kept_engineNext hu) (kept_retireUnit h ..) _) (kept_restartRefresh (kept_retireUnit h ..) _)

@[simp] theorem kept_copyDone (h : Kept s₀ s) (buf : BufId) (unit : Nat) (page : Nat) (result : OpResult) :
    Kept s₀ (State.copyDone s buf unit page result) := by
  unfold State.copyDone; (try dsimp only); (repeat' split) <;> simp (maxDischargeDepth := 40) [h]

@[simp] theorem kept_programDone (h : Kept s₀ s) (op : FlashOp) (unit : Nat) (page : Nat) (result : OpResult) :
    Kept s₀ (State.programDone s op unit page result) := by
  unfold State.programDone; (repeat' split) <;> simp (maxDischargeDepth := 40) [h]

@[simp] theorem kept_reportPage (h : Kept s₀ s) (take tp : Nat) (d : DecodeRecord) : Kept s₀ (s.reportPage take tp d).1 := by
  unfold State.reportPage
  split
  · exact h
  · exact kept_foldl _ (fun _ b hu => kept_reportDamage hu take b) h _

@[simp] theorem kept_readLeaves (h : Kept s₀ s) (n : Nat) :
    Kept s₀ (State.readLeaves s n) := by
  unfold State.readLeaves; simp (maxDischargeDepth := 40) [h]

@[simp] theorem kept_zeroLost (h : Kept s₀ s) (buf : BufId) (d : DecodeRecord) : Kept s₀ (s.zeroLost buf d) :=
  kept_foldl _ (fun _ _ hu => kept_writeBuf hu ..) h _

@[simp] theorem kept_rewriteTag (h : Kept s₀ s) (buf : BufId) (t : Take) (w : Work) (tp : Nat) (dest : Nat) (d : DecodeRecord) :
    Kept s₀ (State.rewriteTag s buf t w tp dest d) := by
  unfold State.rewriteTag; (try dsimp only); (repeat' split) <;> simp (maxDischargeDepth := 40) [h]

@[simp] theorem kept_copyReadOn (h : Kept s₀ s) (isRescue : Bool) (w : Work) (dest : Nat) (buf : BufId) (d : DecodeRecord) :
    Kept s₀ (State.copyReadOn s isRescue w dest buf d) := by
  unfold State.copyReadOn; (try dsimp only); (repeat' split) <;> simp (maxDischargeDepth := 40) [h]

@[simp] theorem kept_copyReadDone (h : Kept s₀ s) (buf : BufId) (d : DecodeRecord) :
    Kept s₀ (State.copyReadDone s buf d) := by
  unfold State.copyReadDone; (try dsimp only); (repeat' split) <;> simp (maxDischargeDepth := 40) [h]

@[simp] theorem kept_tableRead (h : Kept s₀ s) (unit : Nat) (buf : BufId) (d : DecodeRecord) :
    Kept s₀ (State.tableRead s unit buf d) := by
  unfold State.tableRead; (try dsimp only); (repeat' split) <;> simp (maxDischargeDepth := 40) [h]

@[simp] theorem kept_pageReadDone (h : Kept s₀ s) (unit : Nat) (buf : BufId) (for_ : ReadFor) (bytes : List Byte) (d : DecodeRecord) :
    Kept s₀ (State.pageReadDone s unit buf for_ bytes d) := by
  unfold State.pageReadDone; (try dsimp only); (repeat' split) <;> simp (maxDischargeDepth := 40) [h]

@[simp] theorem kept_countPage (h : Kept s₀ s) (d : Option DecodeRecord) :
    Kept s₀ (State.countPage s d) := by
  unfold State.countPage; (repeat' split) <;> simp (maxDischargeDepth := 40) [h]

@[simp] theorem kept_erased (h : Kept s₀ s) (unit : Nat) (result : OpResult) :
    Kept s₀ (State.erased s unit result) := by
  unfold State.erased; (repeat' split) <;> simp (maxDischargeDepth := 40) [h]

@[simp] theorem kept_eraseDone (h : Kept s₀ s) (n : Nat) (result : OpResult) :
    Kept s₀ (State.eraseDone s n result) := by
  unfold State.eraseDone; (try dsimp only); (repeat' split) <;> simp (maxDischargeDepth := 40) [h]

@[simp] theorem kept_interrupt (h : Kept s₀ s) (b : BankId) :
    Kept s₀ (State.interrupt s b) := by
  unfold State.interrupt; (repeat' split) <;> simp (maxDischargeDepth := 40) [h]

end Sys2Proof.Machine
end

