-- ==== Sys2Proof/Tests/Slice0.lean ====
section
/-! SUPPORT. Tests of the model on small states, their expected results taken from the spec's worked examples and tables or computed by
hand from its rules; and for each statement with hypotheses a state and operands that meet them. -/

open Sys2Proof Sys2Proof.Machine

namespace Sys2Proof.Tests

-- One test at a time: each `decide +kernel` waits for the kernel, and the waiting threads would pile up.
set_option Elab.async false

/-! ### Helpers -/

/-- A request body from field ids and value bytes (R196). -/
def bodyOf (fs : List (Nat × List Nat)) : List Byte := fieldBytes (fs.map fun p => ⟨p.1, p.2.map (BitVec.ofNat 8)⟩)

/-- The last message queued on a link after a command: its status and body. -/
def answerOf (c : Instr) (l : LinkId) (s : State) : Option (Status × List Nat) :=
  match exec c s with
  | .next t => (t.link l).txq.getLast?.map fun m => (m.status, m.body.map BitVec.toNat)
  | _ => none

/-- The state after a command. -/
def after (c : Instr) (s : State) : State :=
  match exec c s with
  | .next t => t
  | _ => s

/-! ### Well-formed commands (WellFormed): each check refuses a term -/

theorem test_wf_body_too_long : (Instr.claim 0 0 (List.replicate 2053 0)).wf = false := by decide +kernel
theorem test_wf_body_fits : (Instr.claim 0 0 (List.replicate 2052 0)).wf = true := by decide +kernel
theorem test_wf_known_kind : (Instr.unknownRequestKind (.room 0) 0x10 0).wf = false := by decide +kernel
theorem test_wf_unknown_kind : (Instr.unknownRequestKind (.room 0) 0x20 0).wf = true := by decide +kernel
theorem test_wf_five_corrected : (Instr.pageReadComplete 0 ⟨[], [], .corrected 5, .clean, .clean, .clean⟩).wf = false := by
  decide +kernel
theorem test_wf_none_corrected : (Instr.pageReadComplete 0 ⟨[], [], .corrected 0, .clean, .clean, .clean⟩).wf = false := by
  decide +kernel
theorem test_wf_data_too_long : (Instr.pageReadComplete 0 ⟨List.replicate 2049 0, [], .clean, .clean, .clean, .clean⟩).wf = false := by
  decide +kernel
theorem test_wf_spare_too_long : (Instr.pageReadComplete 0 ⟨[], List.replicate 65 0, .clean, .clean, .clean, .clean⟩).wf = false := by
  decide +kernel
theorem test_wf_miscorrected : (Instr.pageReadComplete 0 ⟨[], [], .clean, .clean, .miscorrected 1 [], .clean⟩).wf = false := by
  decide +kernel
theorem test_wf_spare_word : (Instr.spareReadComplete 0 ⟨[], .miscorrected 1 (List.replicate 521 0)⟩).wf = false := by decide +kernel
theorem test_wf_spare_word_fits : (Instr.spareReadComplete 0 ⟨[], .miscorrected 1 (List.replicate 544 0)⟩).wf = true := by
  decide +kernel

/-! ### Frames written byte by byte from R197 -/

theorem test_decode_take_start : decodeFrame (.room 2)
    [0xA5, 0x0E, 0x00, 0x00, 0x10, 0x51, 0x00, 0x00, 1, 7, 0xEA, 0x07, 3, 14, 9, 30, 0, 0xC3] =
      some (.takeStart 2 0x51 [1, 7, 0xEA, 0x07, 3, 14, 9, 30, 0], []) := by decide +kernel
theorem test_decode_mark : decodeFrame (.room 5) [0xA5, 0x0B, 0x00, 0x00, 0x12, 1, 0, 0, 1, 1, 0, 2, 1, 9, 0xC3] =
    some (.mark 5 1 [1, 1, 0, 2, 1, 9], []) := by decide +kernel
theorem test_decode_claim : decodeFrame (.station 3) [0x00, 0xA5, 0x05, 0x00, 0x00, 0x20, 0x07, 0x00, 0x00, 0xC3, 0xA5] =
    some (.claim 3 7 [], [0xA5]) := by decide +kernel
theorem test_decode_seek : decodeFrame (.station 7)
    [0xA5, 0x0E, 0x00, 0x00, 0x24, 2, 0, 0, 1, 1, 1, 2, 4, 0x6A, 0xFF, 0xFF, 0xFF, 0xC3] =
      some (.seek 7 2 [1, 1, 1, 2, 4, 0x6A, 0xFF, 0xFF, 0xFF], []) := by decide +kernel
theorem test_decode_release_take : decodeFrame .supervisor
    [0xA5, 0x0B, 0x00, 0x00, 0x4A, 3, 0, 0, 1, 2, 0x2C, 0x01, 2, 0, 0xC3] =
      some (.releaseTake 3 [1, 2, 0x2C, 0x01, 2, 0], []) := by decide +kernel
theorem test_decode_query_store : decodeFrame .supervisor [0xA5, 0x05, 0x00, 0x00, 0x5A, 4, 0, 0, 0xC3] =
    some (.queryStore 4 [], []) := by decide +kernel
theorem test_decode_length_4 : decodeFrame .supervisor [0xA5, 0x04, 0x00, 0x00] =
    some (.droppedFrame .supervisor .badLength, [0x00]) := by decide +kernel
theorem test_decode_length_2058 : decodeFrame .supervisor [0xA5, 0x0A, 0x08, 0x00] =
    some (.droppedFrame .supervisor .badLength, [0x00]) := by decide +kernel
theorem test_decode_end_byte : decodeFrame .supervisor [0xA5, 0x05, 0x00, 0x00, 0x5A, 4, 0, 0, 0xC2] =
    some (.droppedFrame .supervisor .badEndByte, []) := by decide +kernel
theorem test_decode_response_type : decodeFrame .supervisor [0xA5, 0x05, 0x00, 0x01, 0x5A, 4, 0, 0, 0xC3] =
    some (.droppedFrame .supervisor .notRequest, []) := by decide +kernel
theorem test_parse_seek : parseSeek [1, 1, 1, 2, 4, 0x6A, 0xFF, 0xFF, 0xFF] = some ⟨.relative, -150⟩ := by decide +kernel
theorem test_parse_release_take : parseReleaseTake [1, 2, 0x2C, 0x01, 2, 0] = some (300, true) := by decide +kernel
theorem test_parse_stamp : parseTakeStart [1, 7, 0xEA, 0x07, 3, 14, 9, 30, 0] = some ⟨⟨2026, 3, 14, 9, 30, 0⟩, none⟩ := by
  decide +kernel

/-! ### Arithmetic: the tables of R36, R54, R55, R56 -/

theorem test_scale_r36 : [scale 20000 512, scale (-3) 384, scale 1001 181, scale 35000 256, scale 35000 181, scale (-1) 128].map
    (fun p => (p.1.toInt, p.2)) = [(32767, true), (-4, false), (708, false), (32767, true), (24746, false), (0, false)] := by
  decide +kernel
theorem test_cs_r54 : [3, 4, 100, 150, 200, 500, 1000, 999, 998].map csToBlocks = [0, 1, 31, 46, 62, 156, 312, 312, 311] := by
  decide +kernel
theorem test_offset_r54 : offsetBlocks (-150) = -46 ∧ offsetBlocks 150 = 46 := by decide +kernel
theorem test_blocks_r55 : [0, 1, 2, 3, 4, 5, 6, 30925, 16777215].map blocksToCs = [0, 3, 6, 10, 13, 16, 19, 98960, 53687088] := by
  decide +kernel
theorem test_seconds_r56 : [5, 10, 900, 3600, 0].map secToBlocks = [156, 312, 28125, 112500, 0] := by decide +kernel
theorem test_address_r67 : takePage .two 30925 = 15462 ∧ blockInPage .two 30925 = 1 ∧ chainIndex 15462 = 241 ∧
    pageInUnit 15462 = 38 ∧ sectorOf .two 1 0 = 2 ∧ sectorOf .two 1 1 = 3 := by decide +kernel
theorem test_gap_codes_r18 : gapCodes 65536 = [65535, 1] ∧ gapCodes 65535 = [65535] := by decide +kernel
theorem test_tag_r199 : (Tag.bytes ⟨300, 5, .regular, .four, 0x010203, 1, 0x0A0B0C0D⟩).map BitVec.toNat =
    [0x2C, 0x01, 0x55, 0x03, 0x02, 0x01, 1, 0x0D, 0x0C, 0x0B, 0x0A] := by decide +kernel
theorem test_slot_r199 : (slotBytes (some ⟨.gap, 0x010203, 0x0405, some .lost⟩)).map BitVec.toNat = [6, 3, 2, 1, 5, 4] := by
  decide +kernel

/-! ### A small machine -/

/-- A link that is UP. -/
def up : LinkRec := ⟨true, .hunt, none, []⟩
/-- A closed segment. -/
def closed (i first last : Nat) (w : WorkState) : Segment := { newSegment i first with last := some last, work := some w }
/-- A take of room `r` with segments. -/
def takeOf (id : Nat) (r : RoomId) (st : TakeState) (c : Channels) (length : Nat) (gs : List Segment) : Take :=
  { newTake id r .default ⟨⟨2026, 3, 14, 9, 30, 0⟩, some .daily⟩ with
    state := st, channels := c, overlap := 2, length := length, segments := gs }
/-- The growing segment of take 1. -/
def grow : Segment := newSegment 0 0
/-- Take 1: two channels, RECORDING in room 0, three blocks long. -/
def take1 : Take := takeOf 1 0 .recording .two 3 [grow]
/-- Segment 0 of take 2, that station 0 holds. -/
def seg20 : Segment := { closed 0 0 19 .assigned with holder := some (0, .current) }
/-- Segment 1 of take 2, QUEUED as returned work. -/
def seg21 : Segment := { closed 1 20 39 .queued with band := 0, sequence := 4, resume := some 30 }
/-- Segment 2 of take 2, that station 1 holds. -/
def seg22 : Segment := { closed 2 40 47 .assigned with holder := some (1, .current) }
/-- Take 2: one channel, CLOSED, 48 blocks in three segments, a SPEAKER mark at block 25. -/
def take2 : Take :=
  { takeOf 2 1 .closed .one 48 [seg20, seg21, seg22] with marks := [⟨.speaker, 25, 7, none⟩] }
/-- Take 3: COMPLETE and empty. -/
def take3 : Take := takeOf 3 2 .complete .one 0 [{ newSegment 0 0 with work := some .typed }]
/-- A unit in a chain. -/
def chained (n take chain next : Nat) (st : UnitState) : UnitEntry :=
  ⟨n, st, some take, some chain, some .chain, some n, next, none, false, 0⟩
/-- Unit 0 holds take 1's chain index 0, one page written. -/
def unit0 : UnitEntry := chained 0 1 0 1 .opened
/-- Unit 1 holds take 2's chain. -/
def unit1 : UnitEntry := { chained 1 2 0 12 .full with finalPage := some 11 }
/-- Four FREE units, at 5 to 8. -/
def freeUnits : List UnitEntry := [5, 6, 7, 8].map fun n => { newUnit n with state := .free }
/-- Room 0 records take 1 in buffer 0, its second page begun. -/
def room0 : Room :=
  { Room.reset with
    state := .recording, take := some 1, filling := some 0, slot := 1, active := { RoomSettings.default with channels := .two } }
/-- Room 1 is IDLE. -/
def roomIdle : Room := { Room.reset with state := .idle }
/-- Station 0 plays segment 0 of take 2. -/
def playing : Station := { Station.reset with state := .playing, current := some ⟨2, 0⟩, cursor := 3 }
/-- Station 1 stands PAUSED in segment 2 of take 2. -/
def paused : Station := { Station.reset with state := .paused, current := some ⟨2, 2⟩, cursor := 48 }
/-- The FILLING buffer of room 0. -/
def buf0 : Buffer := ⟨.filling, some (1, 1), 0, .room 0, none⟩
/-- A resident page of take 2, with one pin. -/
def buf1 : Buffer := ⟨.cached, some (2, 0), 1, .none_, none⟩
/-- A HELD page of take 2. -/
def buf2 : Buffer := ⟨.held, some (2, 11), 0, .reader (.station 1), some ⟨.clean, .clean, .clean, .clean⟩⟩

/-- A machine in READY with every link UP: room 0 records, room 1 and stations 2 to 6 are IDLE, station 0 plays and station 1 is
PAUSED, and station 7 is OFFLINE. -/
def machine : State :=
  { State.reset with
    roomLinks := Vector.replicate 6 up
    stationLinks := Vector.replicate 8 up
    supervisorLink := up
    rooms := #v[room0, roomIdle, roomIdle, roomIdle, roomIdle, roomIdle]
    takes := [take1, take2, take3]
    lastId := 3
    enqueueCounter := 5
    stations := #v[playing, paused, { Station.reset with state := .idle }, { Station.reset with state := .idle },
      { Station.reset with state := .idle }, { Station.reset with state := .idle }, { Station.reset with state := .idle }, .reset]
    buffers := (((Vector.replicate 48 Buffer.reset).set 0 buf0).set 1 buf1).set 2 buf2
    windows := #v[some ⟨0, 2048⟩, none, none, none]
    units := [unit0, unit1] ++ freeUnits
    freeList := [5, 6, 7, 8]
    writeSeq := 2
    banks := Vector.replicate 4 .idle
    readiness := .ready
    lowWater := 3 }

/-- The machine before CONFIGURE_BANK and REBUILD: a window at bank 0, its units in RECLAIM not listed. -/
def fresh : State := { machine with readiness := .notReady, takes := [], units := [], freeList := [] }

/-- A machine with another record of room 0. -/
def withRoom (x : Room) : State := machine.setRoom 0 x
/-- A machine with another record of station 0. -/
def withStation (x : Station) : State := machine.setStation 0 x
/-- A machine with an ACTIVE read-back of take 2 in room 1. -/
def reading : State :=
  machine.setReadback 1 { Readback.reset with active := true, take := some 2, cursor := 3 }

/-! ### One step of each command -/

theorem test_take_start : answerOf (.takeStart 1 9 (bodyOf [(1, [0xEA, 7, 3, 14, 9, 30, 0])])) (.room 1) machine =
    some (.ok, [1, 2, 4, 0]) := by decide +kernel
theorem test_take_start_id_wraps : (after (.takeStart 1 9 (bodyOf [(1, [0xEA, 7, 3, 14, 9, 30, 0])]))
    { machine with lastId := 65535 }).lastId = 4 := by decide +kernel
theorem test_block_stored : answerOf (.block 0 9 ([0, 0, 0, 0] ++ List.replicate 1024 1))
    (.room 0) (withRoom { room0 with slot := 0 }) = some (.ok, [3, 0, 0, 0, 0, 0]) := by decide +kernel
theorem test_block_wrong_length : answerOf (.block 0 9 [0, 0, 0, 0]) (.room 0) machine = some (.badArg, []) := by decide +kernel
theorem test_mark : answerOf (.mark 0 9 (bodyOf [(1, [1]), (2, [5])])) (.room 0) machine = some (.ok, [1, 4, 10, 0, 0, 0]) := by
  decide +kernel
theorem test_take_stop_idle : answerOf (.takeStop 1 9 []) (.room 1) machine = some (.refused, []) := by decide +kernel
theorem test_readback_start : answerOf (.readbackStart 1 9 (bodyOf [(1, [0]), (4, [0x9C, 0xFF, 0xFF, 0xFF]), (5, [1]), (7, [2, 0])]))
    (.room 1) machine = some (.ok, [1, 2, 2, 0, 2, 1, 1, 3, 4, 54, 0, 0, 0, 4, 4, 154, 0, 0, 0, 5, 4, 154, 0, 0, 0]) := by
  decide +kernel
theorem test_readback_stop : answerOf (.readbackStop 1 9 []) (.room 1) reading = some (.ok, [1, 4, 10, 0, 0, 0]) := by
  decide +kernel
theorem test_claim_start_point : ((after (.claim 2 9 []) machine).station 2).cursor = 28 := by decide +kernel
theorem test_pause : ((after (.pause 0 9 []) machine).station 0).state = .paused := by decide +kernel
theorem test_resume_skips_back : ((after (.resume 1 9 []) machine).station 1).cursor = 38 := by decide +kernel
theorem test_done : ((after (.done 1 9 (bodyOf [(1, [2, 0]), (2, [2, 0])])) machine).station 1).lastCompleted = some ⟨2, 2⟩ := by
  decide +kernel
theorem test_release_resume_point : (after (.release 1 9 (bodyOf [(1, [2, 0]), (2, [2, 0]), (3, [144, 0, 0, 0])])) machine).segment ⟨2, 2⟩ =
    some { seg22 with work := some .queued, band := 0, sequence := 5, holder := none, resume := some 45, returns := 1 } := by
  decide +kernel
theorem test_recall : ((after (.recall 9 (bodyOf [(1, [2, 0]), (2, [2, 0])])) machine).station 1).state = .idle := by decide +kernel
theorem test_direct : ((after (.direct 9 (bodyOf [(1, [2, 0]), (2, [1, 0]), (3, [0])])) machine).station 0).shadow =
    some ⟨⟨2, 0⟩, 3, true⟩ := by decide +kernel
theorem test_set_class : ((after (.setClass 9 (bodyOf [(1, [2, 0]), (2, [0])])) machine).alerts.map fun a => a.alert) =
    [.rushReady 2 1 5] := by decide +kernel
theorem test_release_take_frees : (after (.releaseTake 9 (bodyOf [(1, [3, 0])])) machine).takes.map Take.id = [1, 2] := by
  decide +kernel
theorem test_read_at_end : answerOf (.read 0 9 []) (.station 0) (withStation { playing with cursor := 20 }) =
    some (.end_, [1, 4, 64, 0, 0, 0]) := by decide +kernel
theorem test_link_down_station : (after (.linkDown (.station 0)) machine).alerts.map (fun a => a.alert) =
    [.stationLost 0 [⟨2, 0⟩]] := by decide +kernel

/-- CLAIM of a class set that names no class, before the part is READY (R194 step 4) and of a station that is not IDLE (R89). -/
theorem test_claim_no_class : answerOf (.claim 0 9 (bodyOf [(1, [0])])) (.station 0) { machine with readiness := .notReady } =
    some (.notReady, []) ∧ answerOf (.claim 0 9 (bodyOf [(1, [0])])) (.station 0) machine = some (.badArg, []) := by decide +kernel
/-- At END the end point stays until the next READBACK_START (R114, R115). -/
theorem test_end_keeps_the_end_point : (after (.readbackRead 1 9 []) (reading.setReadback 1
    { Readback.reset with active := true, take := some 2, cursor := 48, endPoint := some 60 })).readback 1 =
      { Readback.reset with cursor := 48, endPoint := some 60 } := by decide +kernel
/-- A take of length 0 in NO_BUFFER stops with a mark carried, and holds no unit (R33, R142). -/
theorem test_stop_without_a_buffer : (after (.takeStop 0 9 [])
    ({ withRoom { room0 with filling := none, slot := 0, dropping := some .noBuffer, carry := [⟨.note, 0, 0, none⟩] } with
      takes := [takeOf 1 0 .recording .two 0 [grow]], units := freeUnits, buffers := Vector.replicate 48 buf2 } : State)).units =
        freeUnits := by decide +kernel

/-- Every position of a QUERY_STATION answer stands in 8 bytes, centiseconds and then the block index: lo, E, the cursor and the stop
point (R182, R188). -/
theorem test_query_station_positions : (answerOf (.queryStation 9 (bodyOf [(1, [0])])) .supervisor
    (withStation { playing with stop := some 7 })).map (fun p => (p.2.drop 14).take 40) =
      some [6, 8, 0, 0, 0, 0, 0, 0, 0, 0, 7, 8, 64, 0, 0, 0, 20, 0, 0, 0, 8, 8, 10, 0, 0, 0, 3, 0, 0, 0, 9, 8, 22, 0, 0, 0, 7, 0, 0, 0] := by
  decide +kernel
/-- A busy pool, twenty pages to be programmed and a chain of forty units: their report would pass a frame's body, and the answer stops
with the last chain index that fits, each taking 27 bytes (R155, R197). -/
def backlog : State :=
  { machine with
    units := (List.range 40).map fun i => chained (100 + i) 2 i 64 .full
    buffers := (Vector.replicate 48 { buf2 with state := .programWait, owner := .programQueue }).set 0 buf0
    flashOps := (List.range 20).map fun i => ⟨2, i, .captureProgram 3 2 (704 + i)⟩ }
theorem test_query_store_fits_a_frame : (answerOf (.queryStore 9 (bodyOf [(2, [2, 0]), (3, [0, 0, 0, 0])])) .supervisor backlog).any
    (fun p => decide (p.1 = .ok ∧ 2052 < p.2.length + 27 ∧ p.2.length ≤ 2052)) = true := by decide +kernel
/-- The clip flag and gone are set or clear, coded 0 and 1 by their place in the tables of R27 and R110 (R196). -/
theorem test_set_or_clear : [false, true].map (fun b => (fieldBytes (readbackFields { Readback.reset with gone := b })).drop 16) =
      [[8, 1, 1], [8, 1, 0]] ∧
    [false, true].map (fun b => ((fieldBytes ((withRoom { roomIdle with clip := b }).roomFields 0)).drop 24).take 3) =
      [[10, 1, 1], [10, 1, 0]] := by decide +kernel
/-- A renumbering gives the pending operations the numbers of their places, and the next follows them (R157). -/
theorem test_renumber_r157 : (({ machine with requestNumber := 4294967296, flashOps := [⟨2, 4294967290, .erase 9⟩, ⟨1, 4294967295, .erase 8⟩]
    } : State).requestOp 5 (.erase 5)).flashOps.map FlashOp.number = [0, 1, 2] := by decide +kernel
/-- The operation of a page that fails to program is counted in a renumbering of the same event: the read that the rescue asks for comes
after it (R151, R157). -/
theorem test_failed_page_r157 : (after (.programComplete 0 .fail)
    (({ machine with requestNumber := 4294967296 }.setBuffer 0 { buf0 with state := .programming, owner := .programQueue }).setBank 0
      (.busy ⟨2, 4294967290, .captureProgram 0 1 1⟩ 0 1 0))).flashOps.map (fun o => (o.cls, o.number)) = [(2, 0)] := by decide +kernel

/-- The worked case of section 3.6: a cue to the second SPEAKER mark after block 30,000. -/
def cueTake : Take :=
  { takeOf 9 0 .closed .two 60000 [closed 1 28125 56249 .assigned] with
    overlap := 156, marks := [⟨.speaker, 30410, 0, none⟩, ⟨.speaker, 31002, 0, none⟩] }
def cueMachine : State :=
  ({ machine with takes := [cueTake] } : State).setStation 6 { playing with current := some ⟨9, 1⟩, cursor := 30000, cueLead := 100 }
theorem test_seek_section_3_6 : answerOf (.seek 6 9 (bodyOf [(1, [2]), (2, [0x6A, 0xFF, 0xFF, 0xFF]), (3, [0]), (4, [2]), (5, [1])]))
    (.station 6) cueMachine = some (.ok, [1, 4, 0x90, 0x82, 0x01, 0]) := by decide +kernel
theorem test_seek_clamped_low : ((after (.seek 6 9 (bodyOf [(1, [0]), (2, [0, 0, 0, 0])])) cueMachine).station 6).cursor = 27969 := by
  decide +kernel

/-- The list of the worked sequence of section 11.6, at its start. -/
def alertMachine : State :=
  { machine with
    alerts := (List.range 30).map fun i => ⟨970 + i, .clip 0 1 0⟩
    nextAlert := 1000
    alertMask := 3 }
def afterThree : State := ((alertMachine.raise (.storeLow 64 64)).raise (.gap 2 1 .lost 0 5)).raise (.damage 77 4410)
theorem test_alerts_section_11_6 : alertMachine.alertLine = false ∧ (alertMachine.raise (.storeLow 64 64)).alertLine = true ∧
    afterThree.alerts.length = 32 ∧ afterThree.alertOverflow = 1 ∧ afterThree.nextAlert = 1003 := by decide +kernel
theorem test_read_alerts_section_11_6 : ((after (.readAlerts 9 (bodyOf [(1, [8])])) afterThree).alerts.map AlertRec.number).head? =
    some 978 := by decide +kernel

/-! ### States and operands that meet the hypotheses of the statements, clause by clause -/

theorem witness_StepRunsFront : ({ machine with pending := [.deviceReset] } : State).pending = .deviceReset :: [] := rfl
theorem witness_StepIdles : machine.pending = [] := rfl
theorem witness_FramesDecodeToTheirRequests : (Instr.claim 3 7 []).wf = true ∧
    encodeRequest (.claim 3 7 []) = some (.station 3, [0xA5, 5, 0, 0, 0x20, 7, 0, 0, 0xC3]) ∧
    ∀ b ∈ ([0x00, 0xC3] : List Byte), b ≠ 0xA5 := by decide +kernel
theorem witness_BadFramesAreDropped : ((4 : Byte).toNat + 256 * (0 : Byte).toNat < 5 ∧
      2057 < (0x0A : Byte).toNat + 256 * (8 : Byte).toNat) ∧
    (5 ≤ (List.replicate 2057 (0 : Byte)).length ∧ (List.replicate 2057 (0 : Byte)).length ≤ 2057 ∧ (0xC2 : Byte) ≠ 0xC3) ∧
    ((List.replicate 2052 (0 : Byte)).length ≤ 2052 ∧ (1 : Byte) ≠ 0) ∧ requestOfKind (.room 0) 0x17 1 [] = none := by decide +kernel
/-- Station 0 with the page at its cursor held. -/
def holding : Station := { playing with cursor := 44, holding := some ⟨true, 2, 2, 11⟩, current := some ⟨2, 2⟩ }
theorem witness_LinksComeAndGo : (State.reset.link (.room 5)).up = false ∧ (State.reset.link (.station 7)).up = false ∧
    machine.supervisorLink.up = true ∧ ((machine.link (.room 1)).up = true ∧ (machine.room 1).state ≠ .recording) ∧
    ((machine.link (.room 0)).up = true ∧ (machine.room 0).state = .recording ∧ (machine.room 0).take = some 1 ∧
      machine.findTake 1 = some take1) ∧
    ((machine.link (.station 0)).up = true ∧ (withStation holding).noneWaits ∧ ((withStation holding).station 0).holding ≠ none) ∧
    reading.noneWaits := by decide +kernel
theorem witness_FramesAndMessages : (machine.link .supervisor).rx = .hunt ∧ (machine.link (.room 0)).up = true ∧
    ((after (.claim 2 9 []) machine).link (.station 2)).txq ≠ [] := by decide +kernel
/-- A machine whose station 0 waits for a READ's answer. -/
def waiting : State := machine.setLink (.station 0) { up with outstanding := some ⟨0x21, 8⟩ }
theorem witness_RequestsAnsweredAtTheLink : requestOfKind (.station 0) 0x21 9 [] = some (.read 0 9 []) ∧
    ((waiting.link (.station 0)).up = true ∧ (waiting.link (.station 0)).outstanding ≠ none) ∧
    requestOfKind (.station 0) 0x21 9 [1] = some (.read 0 9 [1]) ∧
    (machine.canTake (.station 0) ∧ (Instr.read 0 9 [1]).bodyCoded = false) ∧
    (fresh.canTake (.station 0) ∧ (Instr.read 0 9 []).bodyCoded = true ∧ fresh.readiness ≠ .ready) ∧
    (requestOfKind .supervisor 0x48 9 (bodyOf [(1, [2, 0]), (2, [0])]) = some (.setClass 9 (bodyOf [(1, [2, 0]), (2, [0])])) ∧
      (Instr.setClass 9 (bodyOf [(1, [2, 0]), (2, [0])])).bodyCoded = true ∧ 0x48 ≤ (0x48 : Byte).toNat) ∧
    (requestOfKind .supervisor 0x45 9 (bodyOf [(1, [2]), (2, [0])]) = some (.configureStation 9 (bodyOf [(1, [2]), (2, [0])])) ∧
      (Instr.configureStation 9 (bodyOf [(1, [2]), (2, [0])])).bodyCoded = true ∧
      ({ fresh with readiness := .rebuilding, rebuild := some ⟨[], none, none⟩ } : State).readiness = .rebuilding) := by
  decide +kernel
theorem witness_StepKeepsForms : (machine.memoryForm ∧ machine.alertLimits ∧ machine.deviceRanges) ∧ ∃ t, step machine = .next t :=
  ⟨by decide +kernel, _, rfl⟩
theorem witness_ReadinessMoves : (machine.rebuildAgrees ∧ machine.readiness = .ready ∧ ∃ t, step machine = .next t) ∧
    (fresh.rebuildAgrees ∧ fresh.readiness = .notReady ∧ ∃ t, step { fresh with pending := [.rebuild 9 []] } = .next t) :=
  ⟨⟨by decide +kernel, rfl, _, rfl⟩, by decide +kernel, rfl, _, rfl⟩
theorem witness_TakesKeepTheirIdentity : machine.rebuild = none ∧ ∃ t, step { machine with pending := [.takeStop 0 9 []] } = .next t :=
  ⟨rfl, _, rfl⟩
theorem witness_DeviceResetKeepsFlash : machine.memoryForm ∧
    ∀ (b : BankId) (op : FlashOp) (u p i : Nat), machine.bank b = .busy op u p i → False := by
  refine ⟨by decide +kernel, fun b op u p i h => ?_⟩
  have idle : ∀ c : BankId, machine.bank c = .idle := by decide +kernel
  rw [idle b] at h
  cases h
theorem witness_EnqueueAndReturn : (machine.segment ⟨2, 0⟩ = some seg20 ∧ machine.enqueueCounter < 4294967295) ∧
    ({ machine with enqueueCounter := 4294967295 } : State).entries.length < 4294967295 ∧
    (machine.canServe .supervisor ∧ parseSetClass (bodyOf [(1, [1, 0]), (2, [0])]) = some (1, .rush) ∧
      machine.findTake 1 = some take1 ∧ take1.state = .recording ∧ take1.cls ≠ .rush ∧ take1.growing = some grow ∧ grow.last = none ∧
      grow.work = none) := by decide +kernel
theorem witness_ClaimChoice : machine.chooseEntry 7 none = some ⟨⟨2, 1⟩, .daily, 0, 4⟩ ∧ machine.chooseEntry 5 none = none := by
  decide +kernel
theorem witness_ClaimGivesASegment : (machine.canServe (.station 2) ∧ parseClaim [] = some none ∧
    (machine.station 2).state = .idle ∧ machine.chooseEntry (claimFilter 7 none) none = some ⟨⟨2, 1⟩, .daily, 0, 4⟩ ∧
    machine.findTake 2 = some take2 ∧ take2.state ≠ .released ∧ take2.segment 1 = some seg21) ∧
    (parseClaim (bodyOf [(1, [1])]) = some (some 1) ∧ machine.chooseEntry (claimFilter 7 (some 1)) none = none) ∧
    parseClaim (bodyOf [(1, [0])]) = some (some 0) := by decide +kernel
theorem witness_ReadServesTheBlock : (machine.canServe (.station 0) ∧ parseNone [] = some () ∧ (machine.station 0).state = .playing ∧
    (machine.station 0).current = some ⟨2, 0⟩ ∧ machine.findTake 2 = some take2 ∧ take2.segment 0 = some seg20 ∧
    (machine.station 0).stop ≠ some 3 ∧ 3 < (windowOf take2 seg20).atEnd ∧ (machine.station 0).holding = none ∧
    machine.resident 2 (takePage .one 3) = some 1) ∧
    (holding.state = .playing ∧ take2.segment 2 = some seg22 ∧ 44 < (windowOf take2 seg22).atEnd ∧
      holding.holding = some ⟨true, 2, 2, takePage .one 44⟩) := by decide +kernel
/-- A machine whose station 0 stands at a block and holds a page: its own, resident one, or the page of another station. -/
def keeping (cursor : Nat) (h : Holding) : State := withStation { playing with cursor := cursor, holding := some h }
def pinned : Holding := ⟨false, 1, 2, 0⟩
def owned11 : Holding := ⟨true, 2, 2, 11⟩
theorem witness_ReadServesTheBlock_another : (keeping 3 owned11).canServe (.station 0) ∧ owned11.take = take2.id ∧
    owned11.page ≠ takePage .one 3 ∧ (keeping 3 owned11).noneWaits ∧
    ((keeping 3 owned11).withoutHolding (some owned11)).resident 2 (takePage .one 3) = some 1 ∧ ((machine.station 0).holding = none) := by
  decide +kernel
theorem witness_ReadWithoutABlock : (machine.canServe (.station 0) ∧ parseNone [] = some () ∧
    (withStation { playing with stop := some 3 }).station 0 = { playing with stop := some 3 } ∧ playing.holding = none) ∧
    (windowOf take2 seg20).atEnd ≤ 20 ∧
    (machine.resident 2 (takePage .one 19) = none ∧ 19 < (windowOf take2 seg20).atEnd ∧ playing.pendingRead = none ∧
      machine.nrec + 4 < machine.freeBuffers ∧ machine.firstFree = some 3 ∧ machine.chainUnit 2 (takePage .one 19 / 64) = some unit1 ∧
      machine.requestNumber ≤ 4294967295) ∧
    ({ machine with buffers := Vector.replicate 48 buf0 } : State).freeBuffers ≤ machine.nrec + 4 ∧
    { playing with cursor := 19, pendingRead := some .none_ }.pendingRead ≠ none := by decide +kernel
/-- Every buffer but two in use. -/
def buffersUsed (s : State) : State := { s with buffers := (Vector.replicate 48 buf0).set 1 buf1 }
theorem witness_ReadWithoutABlock_held : ((keeping 19 pinned).canServe (.station 0) ∧ pinned.page ≠ takePage .one 19 ∧
    (keeping 19 pinned).noneWaits ∧ ((keeping 19 pinned).withoutHolding (some pinned)).resident 2 (takePage .one 19) = none ∧
    machine.nrec + 4 < ((keeping 19 pinned).withoutHolding (some pinned)).freeBuffers ∧
    ((keeping 19 pinned).withoutHolding (some pinned)).firstFree = some 1 ∧ 19 < (windowOf take2 seg20).atEnd) ∧
    (buffersUsed (keeping 19 pinned)).noneWaits ∧
    ((buffersUsed (keeping 19 pinned)).withoutHolding (some pinned)).freeBuffers ≤ (buffersUsed (keeping 19 pinned)).nrec + 4 ∧
    (((keeping 3 pinned).setStation 0 { playing with stop := some 3, holding := some pinned }).noneWaits ∧ playing.cursor = 3) := by
  decide +kernel
theorem witness_PauseAndResume : (machine.canServe (.station 0) ∧ parseNone [] = some () ∧ (machine.station 0).state = .playing ∧
    (machine.station 0).holding = none) ∧
    (machine.canServe (.station 1) ∧ (machine.station 1).state = .paused ∧ (machine.station 1).current = some ⟨2, 2⟩ ∧
      machine.findTake 2 = some take2 ∧ take2.state ≠ .released ∧ take2.segment 2 = some seg22) := by decide +kernel
theorem witness_PauseAndResume_held : (keeping 3 owned11).canServe (.station 0) ∧ ((keeping 3 owned11).station 0).state = .playing ∧
    ((keeping 3 owned11).station 0).holding ≠ none ∧ (keeping 3 owned11).noneWaits := by decide +kernel
theorem witness_SeekSetsTheCursor : (cueMachine.canServe (.station 6) ∧
    parseSeek (bodyOf [(1, [2]), (2, [0, 0, 0, 0]), (3, [0]), (4, [2]), (5, [1])]) = some ⟨.mark .speaker 2 .after, 0⟩ ∧
    (cueMachine.station 6).state = .playing ∧ (cueMachine.station 6).current = some ⟨9, 1⟩ ∧ cueMachine.findTake 9 = some cueTake ∧
    cueTake.state ≠ .released ∧ cueTake.segment 1 = some (closed 1 28125 56249 .assigned)) ∧
    cueBase cueTake (closed 1 28125 56249 .assigned) 30000 (.mark .speaker 2 .after) = some 31002 ∧
    cueBase cueTake (closed 1 28125 56249 .assigned) 30000 (.mark .note 1 .before) = none := by decide +kernel
theorem witness_SetPlaybackAndStop : (machine.canServe (.station 2) ∧
    parseSetPlayback (bodyOf [(2, [0xFF, 0xFF])]) = some ⟨none, some 65535, none, none, none⟩ ∧ (machine.station 2).state ≠ .offline) ∧
    (machine.canServe (.station 1) ∧ parseSetStop [] = some none ∧ (machine.station 1).state = .paused) ∧
    (parseSetStop (bodyOf [(1, [0, 0, 0, 0])]) = some (some 0) ∧ (machine.station 1).current = some ⟨2, 2⟩ ∧
      machine.findTake 2 = some take2 ∧ take2.segment 2 = some seg22 ∧ (windowOf take2 seg22).lo ≤ (windowOf take2 seg22).atEnd) := by
  decide +kernel
/-- A machine whose station 1 has station 0's segment set aside. -/
def shadowed : State :=
  (machine.setStation 0 { Station.reset with state := .idle }).setStation 1 { paused with shadow := some ⟨⟨2, 0⟩, 3, true⟩ }
/-- A machine whose station 1 holds a page of its segment. -/
def held : State := machine.setStation 1 { paused with holding := some ⟨true, 2, 2, 11⟩ }
theorem witness_DoneTypesTheSegment : (held.canServe (.station 1) ∧ parseSegment (bodyOf [(1, [2, 0]), (2, [2, 0])]) = some (2, 2) ∧
    (held.station 1).state = .paused ∧ (held.station 1).current = some ⟨2, 2⟩ ∧ held.findTake 2 = some take2 ∧
    take2.state ≠ .released ∧ take2.segment 2 = some seg22 ∧ segmentOpen take2 seg22 = false ∧ held.noneWaits ∧
    (held.station 1).shadow = none) ∧
    (shadowed.canServe (.station 1) ∧ (shadowed.station 1).shadow = some ⟨⟨2, 0⟩, 3, true⟩ ∧
      ((shadowed.makeTyped ⟨2, 2⟩).findTake 2).any fun t => t.state ≠ .released ∧ t.segment 0 = some seg20) := by decide +kernel
theorem witness_ReleaseReturnsTheSegment : (held.canServe (.station 1) ∧
    parseRelease (bodyOf [(1, [2, 0]), (2, [2, 0]), (3, [128, 0, 0, 0])]) = some ⟨2, 2, some 128⟩ ∧ (held.station 1).state = .paused ∧
    (held.station 1).current = some ⟨2, 2⟩ ∧ held.findTake 2 = some take2 ∧ take2.state ≠ .released ∧
    take2.segment 2 = some seg22 ∧ held.noneWaits ∧ (held.station 1).shadow = none ∧ seg22.first ≤ (windowOf take2 seg22).atEnd) ∧
    ((shadowed.station 1).shadow = some ⟨⟨2, 0⟩, 3, true⟩ ∧
      (((shadowed.withoutHolding none).returnSegment ⟨2, 2⟩ none).findTake 2).any fun t =>
        t.state ≠ .released ∧ t.segment 0 = some seg20) := by decide +kernel
theorem witness_StationRefusals : parseClaim [] ≠ some (some 0) ∧ (requestOfKind (.station 2) 0x21 9 [] = some (.read 2 9 []) ∧ (Instr.read 2 9 []).bodyCoded = true ∧
    machine.canServe (.station 2) ∧ (machine.station 2).state = .idle ∧ (0x21 : Byte) ∉ [0x20, 0x25, 0x29]) ∧
    (machine.canServe (.station 7) ∧ (machine.station 7).state = .offline) ∧
    (machine.canServe (.station 1) ∧ (machine.station 1).state = .paused) ∧
    (machine.canServe (.station 0) ∧ (machine.station 0).state = .playing) ∧
    ((parseSegment (bodyOf [(1, [2, 0]), (2, [1, 0])])).all fun x => (machine.station 0).current ≠ some ⟨x.1, x.2⟩) ∧
    ((parseRelease (bodyOf [(1, [2, 0]), (2, [1, 0])])).all fun x => (machine.station 0).current ≠ some ⟨x.take, x.index⟩) := by
  decide +kernel
/-- Station 0 plays the growing segment of take 1. -/
theorem witness_StationRefusals_open : parseSegment (bodyOf [(1, [1, 0]), (2, [0, 0])]) = some (1, 0) ∧ machine.findTake 1 = some take1 ∧
    take1.segment 0 = some grow ∧ segmentOpen take1 grow = true := by decide +kernel
theorem witness_LastPinFreesABuffer : (machine.buffer 0).state ≠ .cached ∧ ((machine.buffer 1).state = .cached ∧
    (machine.buffer 1).pins = 1 ∧ machine.dropWait = []) ∧ machine.engine.work = none ∧
    ({ machine with dropWait := [0] } : State).dropWait = 0 :: [] ∧ (machine.room 0).take = some 1 ∧
    machine.findTake 1 = some take1 ∧ (machine.room 0).rescueWaiting = false ∧ (machine.room 0).dropped = 0 := by decide +kernel
theorem witness_ReadbackStarts : (machine.canServe (.room 1) ∧
    parseReadbackStart (bodyOf [(1, [0]), (4, [0, 0, 0, 0]), (5, [1]), (7, [2, 0])]) = some ⟨.fromEnd, 0, .now, some 2, none⟩ ∧
    machine.findTake 2 = some take2 ∧ take2.state ≠ .released ∧ take2.room = 1 ∧ (machine.readback 1).active = false ∧
    startBase take2 .fromEnd = some 48) ∧ startBase take2 (.mark .note 1) = none ∧ (reading.readback 1).active = true ∧
    (machine.canServe (.room 0) ∧ (machine.room 0).state = .recording ∧ (machine.room 0).take = some 1 ∧
      machine.findTake 1 = some take1) := by decide +kernel
theorem witness_ReadbackReads : (reading.canServe (.room 1) ∧ parseNone [] = some () ∧ (reading.readback 1).active = true ∧
    (reading.readback 1).take = some 2 ∧ reading.findTake 2 = some take2 ∧ (reading.readback 1).endPoint ≠ some 3 ∧ 3 < take2.length ∧
    (reading.readback 1).pendingRead = none ∧ (reading.readback 1).holding = none) ∧
    (take2.length - 1 < take2.length ∧ reading.resident 2 (takePage .one 40) = none ∧ reading.nrec < reading.freeBuffers ∧
      reading.firstFree = some 3 ∧ reading.chainUnit 2 (takePage .one 40 / 64) = some unit1 ∧ reading.requestNumber ≤ 4294967295) ∧
    { (reading.readback 1) with cursor := 44, holding := some ⟨true, 2, 2, 11⟩ }.holding = some ⟨true, 2, 2, takePage .one 44⟩ := by
  decide +kernel
theorem witness_ReadbackReads_pages : let x := reading.readback 1
    (x.endPoint ≠ some 3 ∧ reading.resident 2 (takePage .one 3) = some 1) ∧
    (owned11.page ≠ takePage .one 3 ∧ (reading.setReadback 1 { x with holding := some owned11 }).noneWaits ∧
      ((reading.setReadback 1 { x with holding := some owned11 }).withoutHolding (some owned11)).resident 2 (takePage .one 3) = some 1) ∧
    (((reading.setReadback 1 { x with cursor := 19, holding := some owned11 }).withoutHolding (some owned11)).resident 2
        (takePage .one 19) = none ∧
      ((reading.setReadback 1 { x with cursor := 19, holding := some owned11 }).withoutHolding (some owned11)).firstFree = some 2) ∧
    (({ reading with buffers := Vector.replicate 48 buf0 } : State).freeBuffers ≤ reading.nrec ∧
      ({ reading with buffers := Vector.replicate 48 buf0 } : State).resident 2 (takePage .one 19) = none) ∧
    ({ x with pendingRead := some ⟨2, 4, .discard⟩ }.pendingRead = some ⟨2, 4, .discard⟩ ∧ Fate.discard ≠ .none_) := by decide +kernel
theorem witness_ReadbackEnds : (reading.canServe (.room 1) ∧ parseNone [] = some () ∧ reading.noneWaits ∧
    (reading.readback 1).active = true ∧ { (reading.readback 1) with holding := some ⟨true, 2, 2, 0⟩ }.holding ≠ none) ∧
    ((reading.setReadback 1 { (reading.readback 1) with endPoint := some 3 }).readback 1).endPoint = some 3 ∧
    (take2.length ≤ { (reading.readback 1) with cursor := 48 }.cursor ∧ take2.state ≠ .recording ∧ take1.state = .recording) ∧
    (machine.readback 1).active = false := by decide +kernel
theorem witness_AlertLine : afterThree.alerts.length = 32 := by decide +kernel
theorem witness_ReadAlerts : machine.canTake .supervisor ∧ parseByte (bodyOf [(1, [0])]) = some 0 ∧
    parseByte (bodyOf [(1, [9])]) = some 9 := by decide +kernel
theorem witness_ConfigureBank : (fresh.canTake .supervisor ∧
    parseConfigureBank (bodyOf [(1, [1]), (2, [0, 8]), (3, [0, 8])]) = some ⟨1, some (2048, 2048)⟩ ∧ fresh.readiness = .notReady ∧
    fresh.windows[(1 : BankId)] = none) ∧
    (parseConfigureBank (bodyOf [(1, [1]), (2, [0xFF, 7]), (3, [0, 8])]) = some ⟨1, some (2047, 2048)⟩ ∧
      fresh.windows[(0 : BankId)] = some ⟨0, 2048⟩) ∧
    parseConfigureBank (bodyOf [(1, [0])]) = some ⟨0, none⟩ ∧ machine.readiness ≠ .notReady := by decide +kernel
theorem witness_ConfigureBank_had : parseConfigureBank (bodyOf [(1, [4])]) = some ⟨4, none⟩ ∧
    (parseConfigureBank (bodyOf [(1, [0]), (2, [0, 16]), (3, [0, 8])]) = some ⟨0, some (4096, 2048)⟩ ∧
      fresh.windows[(0 : BankId)] = some ⟨0, 2048⟩ ∧ fresh.windows[(1 : BankId)] = none ∧ fresh.windows[(2 : BankId)] = none ∧
      fresh.windows[(3 : BankId)] = none) := by decide +kernel
theorem witness_RebuildBegins : (fresh.canTake .supervisor ∧ parseNone [] = some () ∧ fresh.readiness = .notReady ∧
    ([0, 1, 2, 3] : List BankId).filterMap (fun b => fresh.windows[b].map Window.base) = [0] ∧ fresh.requestNumber ≤ 4294967292) ∧
    machine.canTake .supervisor ∧ machine.readiness ≠ .notReady := by decide +kernel
theorem witness_DeviceSettings : (machine.canTake .supervisor ∧ machine.readiness ≠ .rebuilding) ∧
    parseConfigureDevice (bodyOf [(1, [0]), (2, [0, 128])]) = some ⟨some 0, some 32768, none⟩ ∧
    parseSettingsHold (bodyOf [(1, [0])]) = some true ∧ parseSettingsHold (bodyOf [(1, [1])]) = some false ∧
    machine.settingsHold = false ∧ ({ machine with settingsHold := true } : State).settingsHold = true := by decide +kernel
theorem witness_ConfigureRoom : (machine.canTake .supervisor ∧ machine.readiness ≠ .rebuilding ∧
    ((parseConfigureRoom (bodyOf [(1, [0]), (2, [3])])).any fun a => a.room = 0 ∧ a.channels = some 3) ∧
    ((parseConfigureRoom (bodyOf [(1, [0]), (2, [4])])).any fun a => a.channels = some 4 ∧ carriesIdleSetting a = true) ∧
    (machine.room 0).state = .recording ∧
    ((parseConfigureRoom (bodyOf [(1, [0]), (10, [9, 0])])).any fun a =>
      a.channels = none ∧ carriesIdleSetting a = false ∧ a.target = some 9)) ∧
    machine.settingsHold = false ∧ ({ machine with settingsHold := true } : State).settingsHold = true := by decide +kernel
/-- A CONFIGURE_ROOM of an IDLE room with every setting, most beyond their ranges. -/
def roomBody : List Byte := bodyOf [(1, [1]), (2, [4]), (3, [1]), (4, [1]), (5, [0xFF, 0xFF]), (6, [1, 0]), (7, [0, 16]), (8, [9, 0]), (9, [2]),
  (10, [5, 0]), (11, [0, 20]), (12, [0, 20]), (13, [0xFF, 0xFF]), (14, [0xFF, 0xFF]), (15, [0])]
theorem witness_ConfigureRoom_all : (parseConfigureRoom roomBody = some ⟨1, some 4, some .paced, some .big, some 65535, some 1, some 4096,
    some 9, some .regular, some 5, some 5120, some 5120, some 65535, some 65535, some true⟩ ∧ (machine.room 1).state ≠ .recording) ∧
    ((parseConfigureRoom (bodyOf [(1, [6])])).any fun a => 5 < a.room) := by decide +kernel
theorem witness_StationClassesHoldsAndClasses : machine.canTake .supervisor ∧ machine.readiness = .ready ∧
    parseConfigureStation (bodyOf [(1, [7]), (2, [0])]) = some (7, 0) ∧ parseSetHold (bodyOf [(1, [2, 0]), (2, [0])]) = some (2, true) ∧
    machine.findTake 2 = some take2 ∧ parseSetClass (bodyOf [(1, [2, 0]), (2, [1])]) = some (2, .daily) ∧ take2.cls = .daily ∧
    parseSetClass (bodyOf [(1, [2, 0]), (2, [2])]) = some (2, .regular) ∧ take2.state ≠ .released := by decide +kernel
theorem witness_StationClassesHoldsAndClasses_unknown : parseConfigureStation (bodyOf [(1, [8]), (2, [0])]) = some (8, 0) ∧
    parseSetHold (bodyOf [(1, [9, 0]), (2, [0])]) = some (9, true) ∧ machine.findTake 9 = none ∧
    parseSetClass (bodyOf [(1, [9, 0]), (2, [1])]) = some (9, .daily) := by decide +kernel
theorem witness_DirectGivesASegment : (machine.canServe .supervisor ∧
    parseDirect (bodyOf [(1, [2, 0]), (2, [1, 0]), (3, [2])]) = some ⟨2, 1, 2⟩ ∧ machine.findTake 2 = some take2 ∧
    take2.state ≠ .released ∧ take2.segment 1 = some seg21 ∧ seg21.work = some .queued ∧ (machine.station 2).state ≠ .offline ∧
    (machine.station 2).shadow = none ∧ (machine.station 2).current = none ∧ (machine.station 2).pendingRead = none ∧
    (machine.link (.station 2)).up = true) ∧
    (seg20.work ≠ some .queued ∧ (machine.station 7).state = .offline) ∧ (shadowed.station 1).shadow ≠ none ∧
    ((machine.station 0).current = some ⟨2, 0⟩ ∧ (machine.station 0).shadow = none ∧ (machine.station 0).holding = none ∧
      (machine.station 0).pendingRead = none) := by decide +kernel
theorem witness_DirectGivesASegment_held : (parseDirect (bodyOf [(1, [9, 0]), (2, [1, 0]), (3, [8])]) = some ⟨9, 1, 8⟩ ∧
    parseDirect (bodyOf [(1, [9, 0]), (2, [1, 0]), (3, [7])]) = some ⟨9, 1, 7⟩ ∧ machine.findTake 9 = none ∧
    parseDirect (bodyOf [(1, [2, 0]), (2, [9, 0]), (3, [7])]) = some ⟨2, 9, 7⟩ ∧ take2.segment 9 = none) ∧
    ((keeping 3 owned11).noneWaits ∧ ((keeping 3 owned11).station 0).shadow = none ∧
      ((keeping 3 owned11).station 0).current = some ⟨2, 0⟩ ∧ { playing with pendingRead := some .none_ }.pendingRead = some .none_) := by
  decide +kernel
/-- That machine with the record of the segment set aside. -/
def setAside : State :=
  { shadowed with takes := [take1, { take2 with segments := [{ seg20 with holder := some (1, .shadow) }, seg21, seg22] }, take3] }
theorem witness_RecallReturnsASegment : (held.canServe .supervisor ∧
    parseSegment (bodyOf [(1, [2, 0]), (2, [2, 0])]) = some (2, 2) ∧ held.findTake 2 = some take2 ∧ take2.state ≠ .released ∧
    take2.segment 2 = some seg22 ∧ seg22.work = some .assigned ∧ seg22.holder = some (1, .current) ∧
    (held.station 1).shadow = none ∧ held.noneWaits ∧ (held.link (.station 1)).up = true) ∧
    (take2.segment 1 = some seg21 ∧ seg21.work ≠ some .assigned) ∧
    (setAside.canServe .supervisor ∧ setAside.segment ⟨2, 0⟩ = some { seg20 with holder := some (1, .shadow) } ∧
      (setAside.link (.station 1)).up = true ∧ setAside.segment ⟨2, 2⟩ = some seg22 ∧
      (setAside.station 1).shadow = some ⟨⟨2, 0⟩, 3, true⟩) := by decide +kernel
theorem witness_RecallReturnsASegment_unknown : parseSegment (bodyOf [(1, [9, 0]), (2, [0, 0])]) = some (9, 0) ∧
    machine.findTake 9 = none ∧ parseSegment (bodyOf [(1, [2, 0]), (2, [9, 0])]) = some (2, 9) ∧ take2.segment 9 = none := by
  decide +kernel
theorem witness_MarkTyped : (machine.canServe .supervisor ∧ machine.findTake 2 = some take2 ∧ take2.state ≠ .released ∧
    take2.state ≠ .recording) ∧
    (parseMarkTyped (bodyOf [(1, [2, 0]), (2, [1, 0])]) = some (2, some 1) ∧ take2.segment 1 = some seg21 ∧ seg21.work = some .queued) ∧
    (take2.segment 0 = some seg20 ∧ seg20.work = some .assigned) ∧
    (machine.findTake 3 = some take3 ∧ ((take3.segment 0).any fun g => g.work = some .typed)) ∧
    parseMarkTyped (bodyOf [(1, [2, 0]), (3, [])]) = some (2, none) ∧ take1.state = .recording := by decide +kernel
theorem witness_MarkTyped_unknown : parseMarkTyped (bodyOf [(1, [9, 0]), (2, [9, 0])]) = some (9, some 9) ∧ machine.findTake 9 = none ∧
    parseMarkTyped (bodyOf [(1, [1, 0]), (2, [9, 0])]) = some (1, some 9) ∧ take1.segment 9 = none := by decide +kernel
/-- A machine in which only take 2's chain holds it: CLOSED, or COMPLETE. -/
def releasable (st : TakeState) : State :=
  { machine with
    takes := [take1, { take2 with state := st }, take3]
    stations := Vector.replicate 8 { Station.reset with state := .idle } }
theorem witness_ReleaseTake : (machine.canServe .supervisor ∧ parseReleaseTake (bodyOf [(1, [3, 0])]) = some (3, false) ∧
    machine.findTake 3 = some take3 ∧ take3.hold = false ∧ take3.state = .complete ∧ machine.chainUnits 3 = [] ∧
    machine.reclaimFifo = [] ∧ machine.engine = .idle ∧ (∀ r : RoomId, (machine.readback r).active = false) ∧
    (∀ b : BufId, (machine.buffer b).state ≠ .programWait) ∧
    (∀ k : StationId, (machine.station k).shadow = none ∧ ((machine.station k).current.all fun x => x.take ≠ 3))) ∧
    (take2.state = .closed ∧ parseReleaseTake (bodyOf [(1, [2, 0])]) = some (2, false) ∧ take1.state = .recording) := by decide +kernel
theorem witness_ReleaseTake_chain : ((releasable .closed).canServe .supervisor ∧
    parseReleaseTake (bodyOf [(1, [2, 0]), (2, [])]) = some (2, true) ∧ (releasable .closed).findTake 2 = some take2 ∧
    take2.hold = false ∧ (releasable .complete).findTake 2 = some { take2 with state := .complete } ∧
    (releasable .closed).chainUnits 2 = [unit1] ∧ (releasable .closed).unit unit1.number = some unit1 ∧ unit1.inFlight = 0 ∧
    (releasable .closed).reclaimFifo = [] ∧ (releasable .closed).requestNumber ≤ 4294967295 ∧
    (∀ k : StationId, ((releasable .closed).station k).current = none ∧ ((releasable .closed).station k).shadow = none) ∧
    (∀ r : RoomId, ((releasable .closed).readback r).active = false) ∧
    (∀ b : BufId, ((releasable .closed).buffer b).state ≠ .programWait) ∧ (releasable .closed).engine.work = none) ∧
    ((held.station 1).current = some ⟨2, 2⟩ ∧ (held.station 1).shadow = none ∧ held.noneWaits ∧
      (held.link (.station 1)).up = true) ∧
    ((reading.readback 1).active = true ∧ (reading.readback 1).take = some 2 ∧ reading.noneWaits) := by decide +kernel
/-- A machine in which take 2 has a chain of two units. -/
def twoUnits : State := { machine with units := [unit0, { unit1 with chain := some 1 }, chained 2 2 0 64 .full] ++ freeUnits }
theorem witness_ReleaseTake_units : (parseReleaseTake (bodyOf [(1, [9, 0])]) = some (9, false) ∧ machine.findTake 9 = none) ∧
    ((releasable .released).findTake 2 = some { take2 with state := .released } ∧ (releasable .released).canServe .supervisor) ∧
    (twoUnits.readiness = .ready ∧ (twoUnits.units.map UnitEntry.number).Nodup ∧ twoUnits.reclaimFifo = [] ∧
      twoUnits.chainUnits 2 = [{ unit1 with chain := some 1 }, chained 2 2 0 64 .full] ∧ twoUnits.engine.work = none ∧
      twoUnits.requestNumber + 2 ≤ 4294967296) := by decide +kernel
theorem witness_ReportsAndQueries : (machine.canServe (.station 2) ∧ parseNone [] = some () ∧ (machine.station 2).state ≠ .offline) ∧
    (machine.canTake .supervisor ∧ parseByte (bodyOf [(1, [7])]) = some (7 : StationId).val ∧
      parseByte (bodyOf [(1, [5])]) = some (5 : RoomId).val) ∧
    (parseQueryTakes (bodyOf [(1, [255])]) = some (255, none) ∧ parseQueryTake (bodyOf [(1, [2, 0])]) = some 2 ∧
      machine.findTake 2 = some take2 ∧ parseQuerySegments (bodyOf [(1, [2, 0]), (2, [0, 4])]) = some (2, 1024) ∧
      parseQueryMarks (bodyOf [(1, [2, 0]), (2, [0, 16])]) = some ⟨2, 4096, none⟩) ∧
    (parseQueryRoom (bodyOf [(1, [5]), (2, [])]) = some ((5 : RoomId).val, true) ∧
      parseQueryQueue (bodyOf [(1, [0, 4])]) = some (1024, none) ∧
      parseQueryStore (bodyOf [(1, [1, 0]), (2, [2, 0]), (3, [0, 0, 4, 0])]) = some ⟨some 1, some (2, 262144)⟩ ∧
      machine.unit 1 ≠ none ∧ machine.findTake 2 ≠ none) ∧
    parseQueryQueue (bodyOf [(1, [0, 4]), (2, [0])]) = some (1024, some 0) := by decide +kernel
theorem witness_ReportsAndQueries_fits : 1 ≤ [fNum 1 1 0, fNum 2 1 0].length ∧
    (fieldBytes ([fNum 1 1 0, fNum 2 1 0].take 1)).length ≤ 5 ∧ fitFields 5 [fNum 1 1 0, fNum 2 1 0] = [fNum 1 1 0] := by decide +kernel
theorem witness_ReportsAndQueries_unknown : parseByte (bodyOf [(1, [8])]) = some 8 ∧ parseByte (bodyOf [(1, [6])]) = some 6 ∧
    parseQueryRoom (bodyOf [(1, [6])]) = some (6, false) ∧ (parseQueryTake (bodyOf [(1, [9, 0])]) = some 9 ∧ machine.findTake 9 = none) ∧
    parseQuerySegments (bodyOf [(1, [9, 0]), (2, [0, 0])]) = some (9, 0) ∧
    parseQueryMarks (bodyOf [(1, [9, 0]), (2, [0, 0])]) = some ⟨9, 0, none⟩ ∧
    (parseQueryStore (bodyOf [(1, [99, 0])]) = some ⟨some 99, none⟩ ∧ machine.unit 99 = none) ∧
    parseQueryStore (bodyOf [(1, [1, 0]), (2, [9, 0]), (3, [0, 0, 0, 0])]) = some ⟨some 1, some (9, 0)⟩ := by decide +kernel
theorem witness_NewTakeId : machine.takes.length < 256 ∧ machine.lastId ≤ 65535 ∧ (machine.takes.map Take.id).Nodup := by
  decide +kernel
theorem witness_TakeStartBeginsATake : machine.canServe (.room 1) ∧
    ((parseTakeStart (bodyOf [(1, [0xEA, 7, 3, 14, 9, 30, 0])])).any fun a => a.cls.getD .regular ≠ .rush) ∧
    (machine.room 1).state ≠ .recording ∧ machine.takes.length < 256 ∧ 0 < machine.freeSegments ∧ machine.firstFree = some 3 ∧
    (machine.room 1).active.cls = .regular := by decide +kernel
/-- The machine with no buffer FREE. -/
def noBuffer (s : State) : State := { s with buffers := (Vector.replicate 48 buf2).set 0 (s.buffer 0) }
theorem witness_TakeStartBeginsATake_noBuffer : (noBuffer machine).canServe (.room 1) ∧ (noBuffer machine).firstFree = none := by
  decide +kernel
theorem witness_TakeStartRushOrRefused : (machine.canServe (.room 1) ∧
    ((parseTakeStart (bodyOf [(1, [0xEA, 7, 3, 14, 9, 30, 0]), (2, [0])])).any fun a => a.cls.getD .regular = .rush) ∧
    (machine.room 1).state ≠ .recording ∧ machine.takes.length < 256 ∧ 0 < machine.freeSegments ∧
    machine.enqueueCounter < 4294967295 ∧ machine.rushCount = 0) ∧
    (machine.canServe (.room 0) ∧ (machine.room 0).state = .recording) ∧
    256 ≤ ({ machine with takes := List.replicate 256 take3 } : State).takes.length ∧
    ({ machine with takes := [{ take2 with segments := List.replicate 1024 seg21 }] } : State).freeSegments = 0 := by decide +kernel
/-- A BLOCK body of two channels, answering no call. -/
def blockBody : List Byte := [0, 0, 0, 0] ++ List.replicate 1024 1
theorem witness_BlockIsStored : ((withRoom { room0 with slot := 0 }).canServe (.room 0) ∧
    parseBlock .two blockBody = some (0, List.replicate 1024 1) ∧ room0.state = .recording ∧ room0.active.timing = .pushed ∧
    room0.dropping = none ∧ room0.take = some 1 ∧ machine.findTake 1 = some take1 ∧ room0.filling = some 0 ∧ room0.filledRun = none ∧
    opensChain take1 0 = false ∧ 0 + 1 ≠ take1.channels.bpp ∧ take1.length + 1 < 16777215) ∧
    ∀ g, take1.growing = some g → take1.length + 1 - g.first < secToBlocks room0.active.target + secToBlocks room0.active.extension := by
  refine ⟨by decide +kernel, fun g h => ?_⟩
  have e : take1.growing = some grow := by decide +kernel
  rw [e] at h
  cases h
  decide +kernel
theorem witness_BlockHandsItsPageOff : (machine.canServe (.room 0) ∧ (machine.room 0).active.channels = .two ∧
    (machine.room 0).state = .recording ∧ (machine.room 0).active.timing = .pushed ∧ (machine.room 0).dropping = none ∧
    (machine.room 0).take = some 1 ∧ machine.findTake 1 = some take1 ∧ (machine.room 0).filling = some 0 ∧
    (machine.buffer 0).state = .filling ∧ (machine.room 0).filledRun = none ∧ opensChain take1 1 = false ∧
    1 + 1 = take1.channels.bpp ∧ machine.firstFree = some 3 ∧ machine.requestNumber ≤ 4294967295) ∧
    parseBlock .two blockBody = some (0, List.replicate 1024 1) ∧ take1.growing = some grow := by decide +kernel
/-- Take 1 with a length and its growing segment. -/
def longTake (n : Nat) (g : Segment) : Take := { take1 with length := n, segments := [g] }
/-- Take 1 in four channels, so that each block fills a page. -/
def wideTake (n : Nat) (g : Segment) : Take := { longTake n g with channels := .four }
/-- A BLOCK body of four channels. -/
def wideBody : List Byte := [0, 0, 0, 0] ++ List.replicate 2048 0x7F
theorem witness_Blocks_units : (opensChain (longTake 128 grow) 0 = true ∧ 2 < machine.freeList.length ∧ machine.writeSeq < 4294967295 ∧
    { room0 with filledRun := some ⟨126, 2⟩ }.filledRun ≠ none ∧ 0 + 1 ≠ (longTake 128 grow).channels.bpp) ∧
    ((longTake 16777214 grow).length + 1 = 16777215 ∧ opensChain (longTake 16777214 grow) 0 = false) ∧
    (parseBlock .four wideBody = some (0, List.replicate 2048 0x7F) ∧ opensChain (wideTake 64 grow) 0 = true ∧
      0 + 1 = (wideTake 64 grow).channels.bpp ∧ (wideTake 16777214 grow).length + 1 ≤ 16777215) ∧
    (noBuffer machine).firstFree = none ∧ ((noBuffer machine).buffer 0).state = .filling := by decide +kernel
/-- Room 0 in paced timing with call 7 open. -/
def paced : Room :=
  { room0 with call := some ⟨7, true⟩, callCounter := 8, cadence := true, active := { room0.active with timing := .paced } }
theorem witness_BlockIsNotStored : (machine.canServe (.room 0) ∧ ([0, 0, 0, 0] : List Byte).length ≠ 4 + 512 * Channels.two.count) ∧
    (machine.canServe (.room 1) ∧ (machine.room 1).state ≠ .recording ∧
      parseBlock .one (List.replicate 516 0) = some (0, List.replicate 512 0)) ∧
    ((withRoom paced).canServe (.room 0) ∧ paced.active.timing = .paced ∧ paced.call ≠ some ⟨0, true⟩) ∧
    { room0 with dropping := some .noBuffer }.dropping = some .noBuffer ∧
    (opensChain { take1 with length := 128 } 0 = true ∧ machine.chainUnit 1 (chainIndex (takePage .two 128)) = none ∧
      ({ machine with freeList := [5, 6] } : State).freeList.length ≤ 2) := by decide +kernel
/-- A machine whose rescue of unit 0 is due. -/
def rescueDue : State := { machine with rescues := [⟨1, 0, 0, 1⟩] }
theorem witness_GrantsForCapture : (machine.chainUnit 1 (64 / 64) = none ∧ machine.freeList = 5 :: [6, 7, 8] ∧
    machine.writeSeq < 4294967295 ∧ 2 ≤ [6, 7, 8].length ∧ [6, 7, 8].length = machine.lowWater ∧
    ({ machine with freeList := [5, 6] } : State).freeList = 5 :: [6] ∧ [6].length < 2) ∧
    (rescueDue.readiness = .ready ∧ rescueDue.engine = .idle ∧ rescueDue.firstFree = some 3 ∧ rescueDue.requestNumber ≤ 4294967295) ∧
    (({ rescueDue with freeList := [] } : State).freeList = [] ∧ rescueDue.findTake 1 = some take1 ∧
      (rescueDue.room take1.room).filledRun = none) ∧
    (({ machine with refreshFifo := [1] } : State).refreshFifo = 1 :: [] ∧ machine.unit 1 = some unit1 ∧ unit1.owner = some 2 ∧
      unit1.chain = some 0 ∧ machine.nrec + 8 < machine.freeBuffers ∧ machine.rescues = []) ∧
    ({ machine with freeList := [5, 6] } : State).freeList.length ≤ 2 := by decide +kernel
theorem witness_GrantsForCapture_there : machine.chainUnit 1 (3 / 64) ≠ none := by decide +kernel
theorem witness_CadenceExpiry : (machine.room 1).cadence = false ∧
    (paced.cadence = true ∧ paced.state = .recording ∧ ((withRoom paced).link (.room 0)).up = true ∧ paced.take = some 1 ∧
      machine.findTake 1 = some take1 ∧ paced.call = some ⟨7, true⟩ ∧ paced.dropping = none ∧ paced.filling = some 0) ∧
    ({ paced with call := some ⟨7, false⟩ }.call = some ⟨7, false⟩) ∧
    { paced with dropping := some .noUnit }.dropping = some .noUnit ∧
    ({ paced with slot := 0 }.slot + 1 ≠ take1.channels.bpp ∧ opensChain take1 0 = false) ∧
    (paced.slot + 1 = take1.channels.bpp ∧ (machine.buffer 0).state = .filling ∧ machine.firstFree = some 3 ∧
      machine.requestNumber ≤ 4294967295) ∧
    (opensChain { take1 with length := 128 } 0 = true ∧ machine.chainUnit 1 (chainIndex (takePage .two 128)) = none ∧
      ({ machine with freeList := [5, 6] } : State).freeList.length ≤ 2) ∧
    (take1.growing = some grow ∧ secToBlocks 0 + secToBlocks 0 ≤ take1.length + 1 - grow.first) := by decide +kernel
theorem witness_CadenceExpiry_units : (opensChain (longTake 128 grow) 0 = true ∧ 2 < machine.freeList.length ∧
    { paced with filledRun := some ⟨126, 2⟩ }.filledRun ≠ none) ∧
    (opensChain (longTake 16777214 grow) 0 = false ∧ (longTake 16777214 grow).length + 1 = 16777215 ∧
      (longTake 16777214 grow).growing = some grow) ∧
    (noBuffer (withRoom paced)).firstFree = none ∧ ((noBuffer (withRoom paced)).buffer 0).state = .filling := by decide +kernel
theorem witness_MarksOfARoom : (machine.canServe (.room 0) ∧ parseMark (bodyOf [(1, [3]), (2, [5])]) = some ⟨.break_, 5, none⟩ ∧
    (machine.room 0).state = .recording ∧ (machine.room 0).take = some 1 ∧ machine.findTake 1 = some take1 ∧
    (machine.room 0).carry.length < 7 ∧ 16 < machine.freeMarks ∧ take1.growing = some grow ∧
    take1.length - grow.first < secToBlocks (machine.room 0).active.minimum) ∧
    (machine.canServe (.room 1) ∧ (machine.room 1).state ≠ .recording) ∧
    parseMark (bodyOf [(1, [4]), (2, [5])]) = some ⟨.gap, 5, none⟩ ∧
    7 ≤ { room0 with carry := List.replicate 7 ⟨.note, 0, 0, none⟩ }.carry.length := by decide +kernel
/-- Take 1 in class RUSH, its growing segment held by station 3. -/
def rushTake : Take := { take1 with cls := .rush, segments := [{ grow with work := some .assigned, holder := some (3, .current) }] }
/-- A machine in which station 3 follows take 1, with a stop point. -/
def following : State :=
  ({ machine with takes := [rushTake, take2, take3] } : State).setStation 3
    { playing with current := some ⟨1, 0⟩, cursor := 2, stop := some 3 }
theorem witness_Cuts : (machine.findTake take1.id = some take1 ∧ take1.growing = some grow ∧ 0 < machine.freeSegments ∧
    0 < machine.freeMarks ∧ (∀ h ∈ take1.segments, h.index ≤ grow.index) ∧ (∀ h ∈ take1.segments, h.index = grow.index → h = grow) ∧
    take1.cls ≠ .rush ∧ grow.work = none ∧ machine.enqueueCounter < 4294967294 ∧ (machine.room take1.room).carry.length < 8) ∧
    (({ machine with takes := [take1, { take2 with segments := List.replicate 1023 seg21 }] } : State).freeSegments = 0 ∧
      take1.cutDeferred = false ∧ { take1 with cutDeferred := true }.cutDeferred = true) := by decide +kernel
theorem witness_Cuts_followed : (following.findTake rushTake.id = some rushTake ∧
    rushTake.growing = some { grow with work := some .assigned, holder := some (3, .current) } ∧ 0 < following.freeSegments ∧
    0 < following.freeMarks ∧ following.enqueueCounter < 4294967294 ∧ (following.room 0).carry.length < 8 ∧
    (following.station 3).current = some ⟨1, 0⟩ ∧ (following.link (.station 3)).up = true) ∧
    ((following.setStation 1 { paused with shadow := some ⟨⟨1, 0⟩, 2, true⟩ }).station 1).shadow = some ⟨⟨1, 0⟩, 2, true⟩ := by
  decide +kernel
/-- Room 0 with segment lengths of no seconds, its page's first slot next. -/
def cutting : Room := { room0 with slot := 0, active := { room0.active with target := 0, extension := 0, minimum := 0 } }
theorem witness_Cuts_made : ((withRoom cutting).canServe (.room 0) ∧
    parseMark (bodyOf [(1, [3]), (2, [5])]) = some ⟨.break_, 5, none⟩ ∧
    parseMark (bodyOf [(1, [0]), (2, [5])]) = some ⟨.speaker, 5, none⟩ ∧ cutting.state = .recording ∧ cutting.take = some 1 ∧
    (withRoom cutting).findTake 1 = some take1 ∧ take1.growing = some grow ∧ cutting.carry.length < 7 ∧
    16 < (withRoom cutting).freeMarks ∧ secToBlocks cutting.active.target ≤ take1.length - grow.first) ∧
    (parseBlock cutting.active.channels ([0, 0, 0, 0] ++ List.replicate 1024 1) = some (0, List.replicate 1024 1) ∧
      cutting.active.timing = .pushed ∧ cutting.dropping = none ∧ cutting.filling = some 0 ∧ cutting.filledRun = none ∧
      opensChain take1 0 = false ∧ cutting.slot + 1 ≠ take1.channels.bpp ∧ take1.length + 1 < 16777215 ∧
      secToBlocks cutting.active.target + secToBlocks cutting.active.extension ≤ take1.length + 1 - grow.first) := by decide +kernel
theorem witness_Cuts_gaps : (machine.room 0).take = some take1.id ∧
    { room0 with filledRun := some ⟨1, 2⟩ }.filledRun = some ⟨1, 2⟩ ∧ { room0 with dropped := 70000 }.dropped ≠ 0 ∧
    0 < machine.freeMarks ∧ (machine.room 0).carry.length < 8 ∧
    ({ machine with takes := [take1, { take2 with marks := List.replicate 4096 ⟨.note, 0, 0, none⟩ }] } : State).freeMarks = 0 ∧
    (1 : Nat) ≤ 70000 := by decide +kernel
/-- Eight marks of a full carry list, its first a CUT; and eight CUT marks. -/
def carried : List Mark := ⟨.cut, 1, 1, none⟩ :: List.replicate 7 ⟨.note, 2, 0, none⟩
def carriedCuts : List Mark := List.replicate 8 ⟨.cut, 1, 1, none⟩
theorem witness_Cuts_displaced : (8 ≤ carried.length ∧
    carried = [⟨.cut, 1, 1, none⟩] ++ ⟨.note, 2, 0, none⟩ :: List.replicate 6 ⟨.note, 2, 0, none⟩ ∧
    (∀ z ∈ ([⟨.cut, 1, 1, none⟩] : List Mark), z.kind = .cut)) ∧
    (8 ≤ carriedCuts.length ∧ carriedCuts = [] ++ ⟨.cut, 1, 1, none⟩ :: List.replicate 7 ⟨.cut, 1, 1, none⟩ ∧
      ∀ z ∈ carriedCuts, z.kind = .cut) ∧
    ((withRoom { room0 with carry := carried }).room 0).carry = carried ∧ 0 < (withRoom { room0 with carry := carried }).freeMarks := by
  decide +kernel
theorem witness_TakeStopClosesTheTake : (machine.canServe (.room 0) ∧ parseNone [] = some () ∧ (machine.room 0).state = .recording ∧
    (machine.room 0).take = some 1 ∧ machine.findTake 1 = some take1 ∧ take1.room = 0 ∧ take1.growing = some grow ∧
    grow.first < take1.length ∧ (∀ h ∈ take1.segments, h.index = grow.index → h = grow) ∧ grow.work = none ∧
    (machine.room 0).filledRun = none ∧ (machine.room 0).dropped = 0 ∧ (machine.room 0).carry = [] ∧
    (machine.room 0).filling = some 0 ∧ 0 < (machine.room 0).slot ∧ (machine.room 0).slot < take1.channels.bpp ∧
    machine.chainUnit 1 (chainIndex (takePage .two 3)) = some unit0 ∧ unit0.nextPage ≤ pageInUnit (takePage .two 3) ∧
    unit0.nextPage < 64 ∧ unit0.state = .opened ∧ machine.enqueueCounter < 4294967295 ∧ machine.requestNumber ≤ 4294967295 ∧
    ∀ k : StationId, (machine.station k).current ≠ some ⟨1, 0⟩ ∧ (machine.station k).shadow = none) ∧
    (machine.canServe (.room 1) ∧ (machine.room 1).state ≠ .recording) := by decide +kernel
/-- An empty take of room 2, and one whose last cut stands at its length. -/
def emptyTake : Take := takeOf 4 2 .recording .one 0 [grow]
def cutTake : Take := takeOf 4 2 .recording .one 3 [closed 0 0 2 .queued, newSegment 1 3]
theorem witness_TakeStopClosesTheTake_empty : (({ machine with takes := [emptyTake] } : State).findTake 4 = some emptyTake ∧
    emptyTake.growing = some grow ∧ grow.first = emptyTake.length ∧ grow.work ≠ some .assigned ∧ emptyTake.segments = [grow] ∧
    ∀ y ∈ [emptyTake], y.id = emptyTake.id → y = emptyTake) ∧
    (({ machine with takes := [cutTake] } : State).findTake 4 = some cutTake ∧ cutTake.growing = some (newSegment 1 3) ∧
      (newSegment 1 3).first = cutTake.length ∧ (newSegment 1 3).work ≠ some .assigned ∧ 0 < cutTake.length) := by decide +kernel
theorem witness_TakeStopClosesTheTake_tail : (roomIdle.filling = none ∧ roomIdle.carry = []) ∧
    ({ roomIdle with carry := [⟨.note, 1, 0, none⟩] }.carry ≠ [] ∧
      ({ machine with buffers := Vector.replicate 48 buf2 } : State).firstFree = none) ∧
    ({ roomIdle with carry := [⟨.note, 1, 0, none⟩] }.carry.length ≤ 2 ∧ takePage take1.channels take1.length ≠ 0 ∧
      machine.firstFree = some 3 ∧ machine.chainUnit 1 (chainIndex (takePage take1.channels take1.length)) = some unit0) ∧
    ({ room0 with slot := 0 }.filling = some 0 ∧ { room0 with slot := 0 }.carry = [] ∧ machine.noneWaits) := by decide +kernel
/-- A machine with the capture page of room 0 waiting to be programmed. -/
def programWaits : State :=
  { machine.setBuffer 0 { buf0 with state := .programWait, owner := .programQueue } with flashOps := [⟨2, 0, .captureProgram 0 1 1⟩] }
theorem witness_OperationsAreIssued : (firstByClass (programWaits.eligible [] programWaits.flashOps)).any
    (fun x => decide (x ∈ programWaits.eligible [] programWaits.flashOps)) = true ∧ machine.settled ∧
    (programWaits.flashOps.Pairwise fun a b => a.number < b.number) ∧
    programWaits.opTarget (.captureProgram 0 1 1) = some (0, 1) ∧ (programWaits.unit 0 = some unit0 ∧ unit0.writeSeq = some 0) ∧
    (OpKind.erase 5).programBuf = none := by decide +kernel
/-- A machine with that page being programmed into page 1 of unit 0. -/
def programming : State :=
  (machine.setBuffer 0 { buf0 with state := .programming, owner := .programQueue }).setBank 0
    (.busy ⟨2, 0, .captureProgram 0 1 1⟩ 0 1 0)
/-- A refresh of unit 1 into unit 5, its first page being programmed. -/
def copying : Work := ⟨2, 0, 1, some 5, some 3, 0, .program, 0, false, false⟩
theorem witness_ProgramsComplete : (programming.bank 0 = .busy ⟨2, 0, .captureProgram 0 1 1⟩ 0 1 0 ∧ programming.unit 0 = some unit0 ∧
    unit0.state = .opened ∧ unit0.role = some .chain ∧ unit0.nextPage + 1 ≠ 64 ∧ unit0.finalPage = none ∧ programming.dropWait = [] ∧
    programming.engine = .idle ∧ programming.refreshFifo = []) ∧
    ({ unit0 with nextPage := 63 }.nextPage + 1 = 64 ∧ { unit0 with finalPage := some 1 }.finalPage = some unit0.nextPage ∧
      { unit0 with refreshWanted := true }.refreshWanted = true) ∧
    (({ programming with engine := .rescue copying } : State).engine = .rescue copying ∧
      ({ programming with engine := .refresh copying } : State).engine = .refresh copying ∧ copying.flight ≠ .none_ ∧
      { copying with flight := .none_ }.flight = .none_) := by decide +kernel
/-- The engine at that work, a refresh or a rescue, with a rescue listed. -/
def engineAt (z : Bool) (w : Work) (rescues : List Rescue) : State :=
  { machine.setBank 0 (.busy ⟨if z then 2 else 4, 0, .copyProgram 5 w.page 3⟩ 5 w.page 0) with
    engine := if z then .rescue w else .refresh w, rescues := rescues, freeList := [6, 7, 8] }
theorem witness_ProgramsComplete_copies : ((engineAt false copying []).bank 0 = .busy ⟨4, 0, .copyProgram 5 0 3⟩ 5 0 0 ∧
    (engineAt false copying []).engine = .refresh copying ∧ (engineAt false copying []).unit copying.source = some unit1 ∧
    copying.source ≠ 5 ∧ copying.buf = some 3 ∧ (engineAt false copying []).requestNumber ≤ 4294967295) ∧
    (copying.stopping = false ∧ copying.aside = false ∧ copying.page + 1 < unit1.nextPage) ∧
    (unit1.nextPage ≤ { copying with page := 11 }.page + 1 ∧ (engineAt false copying []).readiness = .ready ∧
      (engineAt false copying []).rescues = [] ∧ (engineAt false copying []).refreshFifo = [] ∧
      (engineAt false copying []).reclaimFifo = [] ∧ (engineAt false copying []).dropWait = [] ∧ unit1.inFlight = 0) ∧
    ((engineAt true copying [⟨2, 0, 1, 12⟩]).bank 0 = .busy ⟨2, 0, .copyProgram 5 0 3⟩ 5 0 0 ∧
      (engineAt true copying [⟨2, 0, 1, 12⟩]).engine = .rescue copying ∧
      (engineAt true copying [⟨2, 0, 1, 12⟩]).rescues = [⟨2, 0, copying.source, 12⟩] ∧ 12 ≤ { copying with page := 11 }.page + 1 ∧
      machine.bankOf copying.source = some (0, 1)) ∧
    ((engineAt false copying []).freeList = 6 :: [7, 8] ∧ 2 ≤ [7, 8].length ∧ [7, 8].length ≠ machine.lowWater ∧
      machine.writeSeq < 4294967295 ∧ machine.bankOf 5 = some (0, 5)) ∧
    ({ copying with stopping := true }.stopping = true ∧ { copying with aside := true }.aside = true) ∧
    (machine.unit 5 = some { newUnit 5 with state := .free } ∧ (newUnit 5).inFlight = 0) := by decide +kernel
/-- A machine in which a READ of station 0 waits for page 4 of take 2. -/
def pageReading : State :=
  { ((machine.setStation 0 { playing with cursor := 19, pendingRead := some .none_ }).setBuffer 3
      ⟨.readWait, some (2, 4), 0, .reader (.station 0), none⟩).setBank 0 (.busy ⟨3, 0, .pageRead 1 4 3 (.reader (.station 0))⟩ 1 4 0) with
    flash := [(flashAddr 0 1 4 + 2048, 2)] }.setLink (.station 0) { up with outstanding := some ⟨0x21, 8⟩ }
/-- Its spare area is not all ones: its first byte is programmed. -/
theorem witness_StationReadsComplete_spare : spareErased (pageReading.flashPage 1 4) = false := by
  have hb : pageReading.bankOf 1 = some (0, 1) := by decide +kernel
  rw [State.flashPage, hb]
  show spareErased (Memory.readBytes _ _ _ _) = false
  rw [spareErased, Memory.drop_readBytes]
  decide +kernel
theorem witness_StationReadsComplete : (pageReading.bank 0 = .busy ⟨3, 0, .pageRead 1 4 3 (.reader (.station 0))⟩ 1 4 0 ∧
    pageReading.reclaimFifo = [] ∧ pageReading.unit 1 = some unit1 ∧
    (pageReading.link (.station 0)).outstanding = some ⟨0x21, 8⟩) ∧
    ((pageReading.station 0).pendingRead = some .none_ ∧ (pageReading.station 0).state = .playing ∧
      (pageReading.station 0).current = some ⟨2, 0⟩ ∧ pageReading.findTake 2 = some take2 ∧ take2.state ≠ .released ∧
      take2.segment 0 = some seg20 ∧ (pageReading.station 0).stop ≠ some 19 ∧ 19 < (windowOf take2 seg20).atEnd ∧
      (pageReading.buffer 3).page = some (2, takePage .one 19)) ∧
    ((pageReading.setStation 0 { playing with pendingRead := some .gone }).station 0).pendingRead = some .gone ∧
    pageReading.dropWait = [] ∧ pageReading.engine = .idle := by decide +kernel
/-- A page whose code word 0 the medium lost. -/
def lostRead : PageRead := ⟨[], [], .uncorrectable, .clean, .clean, .clean⟩
theorem witness_StationReadsComplete_readback :
    (((reading.setReadback 1 { (reading.readback 1) with pendingRead := some ⟨2, 4, .none_⟩ }).setBank 0
      (.busy ⟨1, 0, .pageRead 1 4 3 (.reader (.readback 1))⟩ 1 4 0)).bank 0 =
        .busy ⟨1, 0, .pageRead 1 4 3 (.reader (.readback 1))⟩ 1 4 0 ∧ reading.reclaimFifo = [] ∧
      (reading.setReadback 1 { (reading.readback 1) with pendingRead := some ⟨2, 4, .none_⟩ }).readback 1 =
        { (reading.readback 1) with pendingRead := some ⟨2, 4, .none_⟩ }) ∧
    (List.replicate 2112 (0 : Byte)).length = 2112 ∧ (List.replicate 64 (0xFF : Byte)).length = 64 ∧ lostRead.spare = [] := by
  decide +kernel
theorem witness_StationReadsComplete_table : ((pageReading.buffer 3).page = some (2, 4) ∧ pageReading.findTake 2 = some take2 ∧
    lostBlocksOf take2 4 ⟨.uncorrectable, .clean, .clean, .clean⟩ = [16]) ∧
    (pageReading.unit 1 = some unit1 ∧ unit1.inChain = true ∧ unit1.refreshWanted = false ∧ unit1.state = .full ∧
      ({ machine with engine := .refresh copying } : State).engine ≠ .idle) ∧
    (unit0.inChain = true ∧ unit0.state = .opened) ∧ (newUnit 5).inChain = false ∧
    (take2.state ≠ .released ∧ { take2 with state := .released }.state = .released) := by decide +kernel
/-- The engine at a read of the page it copies, into unit 5. -/
def copyReading : State :=
  { machine.setBank 0 (.busy ⟨4, 0, .pageRead 1 0 3 .engine⟩ 1 0 0) with
    engine := .refresh copying
    units := [unit0, unit1, ⟨5, .opened, some 2, some 0, some .destination, some 2, 0, none, false, 0⟩] }
theorem witness_StationReadsComplete_copy : copyReading.bank 0 = .busy ⟨4, 0, .pageRead 1 0 3 .engine⟩ 1 0 0 ∧
    copyReading.reclaimFifo = [] ∧ copyReading.engine = .refresh copying ∧ copying.stopping = false ∧ copying.aside = false ∧
    copying.dest = some 5 ∧ ((copyReading.unit 5).bind UnitEntry.writeSeq) = some 2 ∧ copyReading.findTake copying.take = some take2 ∧
    copyReading.requestNumber ≤ 4294967295 := by decide +kernel
/-- A rebuild whose scan stands at page 0 of unit 0, that page holding a tag of take 7. -/
def scanning : State :=
  { fresh with
    readiness := .rebuilding
    rebuild := some ⟨[⟨0, none, [], none⟩], none, none⟩
    banks := fresh.banks.set 0 (.busy ⟨6, 0, .spareRead 0 0⟩ 0 0 0)
    flash := Memory.writeBytes flashUnlisted [] 2048 (Tag.bytes ⟨7, 0, .daily, .one, 0, 4, 9⟩) }
/-- The tag read, its page's mark slots still ones. -/
theorem witness_ScansGoOn_counted : judge none (readSpare (scanning.flashPage 0 0) ⟨[], .clean⟩) =
    .counted ⟨7, 0, .daily, .one, 0, 4, 9⟩ ⟨.daily, 4, List.replicate 12 0xFF⟩ := by
  have hb : scanning.bankOf 0 = some (0, 0) := by decide +kernel
  rw [State.flashPage, hb]
  show judge none (readSpare (Memory.readBytes _ _ _ _) _) = _
  simp only [readSpare, rawPage, fitOver, spareErased, leaveWord, CodeWordRead.result, Memory.drop_readBytes]
  decide +kernel
/-- A page whose spare area reads all ones is ERASED. -/
theorem witness_ScansGoOn_erased : judge none (readSpare (scanning.flashPage 0 0) ⟨List.replicate 64 0xFF, .clean⟩) = .ends .erased := by
  have hb : scanning.bankOf 0 = some (0, 0) := by decide +kernel
  rw [State.flashPage, hb]
  show judge none (readSpare (Memory.readBytes _ _ _ _) _) = _
  simp only [readSpare, rawPage, fitOver, spareErased, leaveWord, CodeWordRead.result, Memory.drop_readBytes]
  decide +kernel
theorem witness_ScansGoOn : scanning.bank 0 = .busy ⟨6, 0, .spareRead 0 0⟩ 0 0 0 ∧
    scanning.rebuild = some ⟨[⟨0, none, [], none⟩], none, none⟩ ∧ scanning.windows[(0 : BankId)] = some ⟨0, 2048⟩ ∧ 0 + 1 < 0 + 2048 ∧
    scanning.requestNumber ≤ 4294967295 := by decide +kernel
/-- A page of four blocks with a CUT mark at block 5, and a scan of two such pages that ended unreadable. -/
def scanPageOf (slots : List Byte) (valid : Nat) : ScanPage := ⟨.daily, valid, slots⟩
def scanOf (unit : Nat) : ScanRec :=
  ⟨unit, some ⟨7, 0, .daily, .one, 0, 4, 9⟩, [scanPageOf (List.replicate 12 0) 4, scanPageOf (slotBytes (some ⟨.cut, 5, 1, none⟩)) 3],
    some .unreadable⟩
theorem witness_ScansGoOn_restored : (keptClaim [scanOf 3, scanOf 4] 7 0 = some (scanOf 3) ∧ (scanOf 3).claims 7 0 = true) ∧
    ((keptChain [scanOf 3] 7).run.head? = some (scanOf 3) ∧ (keptChain [scanOf 3] 7).short = true) ∧
    ((scanPageOf [] 4).valid = 4 ∧ (scanPageOf [] 3).valid < 4) ∧
    (keptChain [scanOf 3] 7).marks 7 = [⟨.cut, 5, 1, none⟩] ∧ 5 < 7 ∧
    chainPlace [keptChain [scanOf 3] 7] 3 = some (7, 0, scanOf 3, true) ∧ chainPlace [keptChain [scanOf 3] 7] 4 = none := by
  decide +kernel
/-- A machine whose rebuild has entered take 7, three marks on its pages. -/
def restored : State := ({ fresh with takes := [] } : State).restoreTake (keptChain [scanOf 3] 7)
theorem witness_ScansGoOn_stages : (restored.takes.map Take.id = [7] ∧ (restored.takes.map Take.length) = [7] ∧
    (restored.findTake (keptChain [scanOf 3] 7).take).isSome = true) ∧
    (take3.length = 0 ∧ emptyTake.segments = [⟨0, 0, none, none, 1, 0, none, none, 0⟩] ∧
      { emptyTake with state := .closed }.state = .closed) := by decide +kernel
/-- A machine with unit 5 being erased. -/
def erasing : State :=
  { machine with
    units := [unit0, unit1, { newUnit 5 with state := .erasing }]
    freeList := []
    banks := machine.banks.set 0 (.busy ⟨5, 0, .erase 5⟩ 5 0 0) }
theorem witness_ErasesAndChipResets : (erasing.bank 0 = .busy ⟨5, 0, .erase 5⟩ 5 0 0 ∧
    erasing.unit 5 = some { newUnit 5 with state := .erasing } ∧ erasing.bankOf 5 = some (0, 5) ∧ erasing.unitWait = [] ∧
    erasing.engine = .idle) ∧ State.reset.bank 3 = .resetting ∧ machine.bank 0 ≠ .resetting ∧
    (machine.readiness = .ready ∧ ({ machine with units := [newUnit 5], reclaimFifo := [5] } : State).unit 5 = some (newUnit 5) ∧
      (newUnit 5).state = .reclaim ∧ (newUnit 5).inFlight = 0 ∧ { newUnit 5 with inFlight := 1 }.inFlight ≠ 0) := by decide +kernel
/-- A machine whose rescue of unit 0 waits for a unit, its room told. -/
def rescueWaits : State :=
  { withRoom { room0 with dropping := some .noUnit, rescueWaiting := true } with
    rescues := [⟨1, 0, 0, 1⟩], engine := .rescue ⟨1, 0, 0, none, none, 0, .none_, 0, false, false⟩ }
theorem witness_ErasesAndChipResets_offered : (machine.freeList = 5 :: [6, 7, 8] ∧ machine.writeSeq < 4294967295 ∧
    [6, 7, 8].length ≠ ({ machine with lowWater := 64 } : State).lowWater ∧ machine.engine = .idle ∧
    ({ machine with unitWait := [⟨0, 1, 1⟩] } : State).unitWait = [⟨0, 1, 1⟩] ∧ 2 ≤ [6, 7, 8].length) ∧
    (rescueWaits.engine = .rescue ⟨1, 0, 0, none, none, 0, .none_, 0, false, false⟩ ∧ rescueWaits.unitWait = [] ∧
      rescueWaits.rescues = ⟨1, 0, 0, 1⟩ :: [] ∧ rescueWaits.firstFree = some 3 ∧ rescueWaits.findTake 1 = some take1 ∧
      (rescueWaits.room take1.room).dropping = some .noUnit ∧ (rescueWaits.room take1.room).dropped = 0) ∧
    ((programming.bank 0 = .busy ⟨2, 0, .captureProgram 0 1 1⟩ 0 1 0 ∧ (OpKind.captureProgram 0 1 1).isProgram = true) ∧
      copyReading.bank 0 = .busy ⟨4, 0, .pageRead 1 0 3 .engine⟩ 1 0 0 ∧ scanning.bank 0 = .busy ⟨6, 0, .spareRead 0 0⟩ 0 0 0) := by
  decide +kernel

end Sys2Proof.Tests
end

section
/-! The id a new take receives (R3): the search for the first free candidate, its bound by counting, and the ids in the take table
after a take is created. -/

namespace Sys2Proof.Machine

/-! ### The search over the candidates -/

/-- The `k`-th candidate after the last assigned id, 65535 being followed by 1 (R3). -/
def takeCandidate (last k : Nat) : Nat := (last + k) % 65535 + 1

theorem takeCandidate_mod_add_one (last k : Nat) : takeCandidate last k % Config.max16 + 1 = takeCandidate last (k + 1) := by
  simp only [takeCandidate, Config.max16]
  omega

theorem takeCandidate_inj {last i j : Nat} (hi : i < 65535) (hj : j < 65535) (h : takeCandidate last i = takeCandidate last j) :
    i = j := by
  simp only [takeCandidate] at h
  omega

/-- The search from candidate `i` passes only held candidates, and it ends at a free one unless its fuel runs out. -/
theorem nextTakeId_spec (takes : List Take) (last : Nat) : ∀ n i, ∃ k, i ≤ k ∧ k ≤ i + n ∧
    nextTakeId takes n (takeCandidate last i) = takeCandidate last k ∧
    (∀ j, i ≤ j → j < k → takeCandidate last j ∈ takes.map Take.id) ∧
    (k < i + n → takeCandidate last k ∉ takes.map Take.id)
  | 0, i => ⟨i, by omega, by omega, rfl, by omega, by omega⟩
  | n + 1, i => by
    by_cases held : takeCandidate last i ∈ takes.map Take.id
    · obtain ⟨k, hik, hkn, heq, hbelow, hfree⟩ := nextTakeId_spec takes last n (i + 1)
      have hstep : nextTakeId takes (n + 1) (takeCandidate last i) = nextTakeId takes n (takeCandidate last (i + 1)) := by
        rw [nextTakeId, if_pos (by simpa using held), takeCandidate_mod_add_one]
      refine ⟨k, by omega, by omega, hstep.trans heq, fun j hij hjk => ?_, fun hk => hfree (by omega)⟩
      obtain rfl | hlt := Nat.eq_or_lt_of_le hij
      · exact held
      · exact hbelow j hlt hjk
    · refine ⟨i, by omega, by omega, ?_, by omega, fun _ => held⟩
      rw [nextTakeId, if_neg (by simpa using held)]

/-- Counting: at most 65535 candidates in a row, all of them held, are no more than the records. -/
theorem le_length_of_takeCandidates_held {takes : List Take} {last k : Nat} (hk : k ≤ 65535)
    (h : ∀ j < k, takeCandidate last j ∈ takes.map Take.id) : k ≤ takes.length := by
  have hnodup : ((List.range k).map (takeCandidate last)).Nodup := by
    refine List.pairwise_map.mpr (List.nodup_range.imp_of_mem fun {i j} hi hj hne heq => hne ?_)
    have hik : i < k := List.mem_range.mp hi
    have hjk : j < k := List.mem_range.mp hj
    exact takeCandidate_inj (by omega) (by omega) heq
  have hsub : (List.range k).map (takeCandidate last) ⊆ takes.map Take.id := by
    intro c hc
    obtain ⟨j, hj, rfl⟩ := List.mem_map.mp hc
    exact h j (List.mem_range.mp hj)
  have hlen := List.Nodup.length_le_of_subset hnodup hsub
  rwa [List.length_map, List.length_map, List.length_range] at hlen

/-- With fewer than 256 records the new id is the first candidate that no record holds, at most 255 after the first. -/
theorem State.newTakeId_first_free (s : State) (h : s.takes.length < 256) :
    ∃ k < 256, s.newTakeId = takeCandidate s.lastId k ∧ takeCandidate s.lastId k ∉ s.takes.map Take.id ∧
      ∀ j < k, takeCandidate s.lastId j ∈ s.takes.map Take.id := by
  obtain ⟨k, -, hfuel, heq, hheld, hfree⟩ := nextTakeId_spec s.takes s.lastId (Config.takeRecords + 1) 0
  replace hheld : ∀ j < k, takeCandidate s.lastId j ∈ s.takes.map Take.id := fun j => hheld j j.zero_le
  simp only [Config.takeRecords] at hfuel hfree
  have hk : k ≤ s.takes.length := le_length_of_takeCandidates_held (by omega) hheld
  exact ⟨k, by omega, heq, hfree (by omega), hheld⟩

theorem State.newTakeId_notMem (s : State) (h : s.takes.length < 256) : s.newTakeId ∉ s.takes.map Take.id := by
  obtain ⟨k, -, heq, hfree, -⟩ := s.newTakeId_first_free h
  rwa [heq]

/-! ### The ids in the take table -/

theorem insertTake_perm (t : Take) (ts : List Take) : (insertTake t ts).Perm (t :: ts) := by
  induction ts with
  | nil => exact .refl _
  | cons u rest ih =>
    unfold insertTake
    split
    · exact .refl _
    · exact (ih.cons u).trans (.swap t u rest)

/-- A change of one record that keeps its id keeps every id. -/
theorem State.modTake_takeIds (s : State) (n : Nat) {f : Take → Take} (hf : ∀ t, (f t).id = t.id) :
    (s.modTake n f).takes.map Take.id = s.takes.map Take.id := by
  simp only [State.modTake, List.map_map, List.map_inj_left]
  intro t _
  simp only [Function.comp_apply]
  split
  · exact hf t
  · rfl

@[simp] theorem State.modSegment_takeIds (s : State) (x : SegRef) (f : Segment → Segment) :
    (s.modSegment x f).takes.map Take.id = s.takes.map Take.id := s.modTake_takeIds x.take fun _ => rfl

@[simp] theorem State.renumberQueue_takeIds (s : State) : s.renumberQueue.takes.map Take.id = s.takes.map Take.id := by
  simp [State.renumberQueue]

@[simp] theorem State.enqueue_takeIds (s : State) (x : SegRef) (band : Nat) :
    (s.enqueue x band).takes.map Take.id = s.takes.map Take.id := by
  unfold State.enqueue
  split <;> simp

@[simp] theorem State.handOver_takeIds (s : State) (x : SegRef) : (s.handOver x).takes.map Take.id = s.takes.map Take.id :=
  s.enqueue_takeIds x 1

@[simp] theorem State.handOver_lastId (s : State) (x : SegRef) : (s.handOver x).lastId = s.lastId := by
  rw [State.handOver, State.enqueue_eq]

/-! ### The creation of a take -/

/-- The id of the take created becomes the last assigned id (R3). -/
@[simp] theorem State.createTake_lastId (s : State) (t : Take) : (s.createTake t).lastId = t.id := by
  unfold State.createTake
  split <;> simp

/-- The creation of a take adds its id to the table's, whether or not the take is handed over at once (R8). -/
theorem State.createTake_takeIds_perm (s : State) (t : Take) :
    ((s.createTake t).takes.map Take.id).Perm (t.id :: s.takes.map Take.id) := by
  have hids : (s.createTake t).takes.map Take.id = (insertTake t s.takes).map Take.id := by
    unfold State.createTake
    split <;> simp
  rw [hids]
  exact (insertTake_perm t s.takes).map Take.id

/-- Settles O45: the search passes held candidates only, and fewer than 256 records cannot hold 256 different ones. -/
theorem newTakeId : Obligations.NewTakeId := by
  intro s hlen _ cand
  constructor
  · obtain ⟨k, hk, heq, hfree, hheld⟩ := s.newTakeId_first_free hlen
    exact ⟨k, hk, heq, fun t ht hid => hfree (List.mem_map.mpr ⟨t, ht, hid⟩), fun j hj => List.mem_map.mp (hheld j hj)⟩
  · intro r a x u
    have hperm : (u.takes.map Take.id).Perm (s.newTakeId :: s.takes.map Take.id) := s.createTake_takeIds_perm _
    exact ⟨s.createTake_lastId _, hperm, fun hnodup =>
      hperm.nodup_iff.mpr (List.nodup_cons.mpr ⟨s.newTakeId_notMem hlen, hnodup⟩)⟩

end Sys2Proof.Machine
end

section
/-! The scaling stage (R36): its rounding and its limits, its run over a list of inputs, and the factor that
capture applies to each channel. -/

namespace Sys2Proof.Machine

/-! ### One input -/

/-- The scaled value before the limits: the product over 256, rounded (R36). -/
def scaledValue (x : Int) (f : Nat) : Int := (x * f + 128).fdiv 256

/-- The rounding is to the nearest integer, halves toward positive infinity. -/
theorem scaledValue_nearest (x : Int) (f : Nat) :
    (2 * scaledValue x f - 1) * 256 ≤ 2 * (x * f) ∧ 2 * (x * f) < (2 * scaledValue x f + 1) * 256 := by
  rw [scaledValue, Int.fdiv_eq_ediv_of_nonneg _ (by decide)]
  omega

/-- The three outcomes of the stage. -/
theorem scale_eq (x : Int) (f : Nat) : scale x f =
    if 32767 < scaledValue x f then (0x7FFF, true)
    else if scaledValue x f < -32768 then (0x8000, true)
    else (BitVec.ofInt 16 (scaledValue x f), false) := by
  rw [scaledValue, Int.fdiv_eq_ediv_of_nonneg _ (by decide)]
  rfl

/-- The output is the scaled value, limited to a sample's range. -/
theorem scale_toInt (x : Int) (f : Nat) : (scale x f).1.toInt =
    if 32767 < scaledValue x f then 32767 else if scaledValue x f < -32768 then -32768 else scaledValue x f := by
  rw [scale_eq]
  split
  next => rfl
  next hhigh =>
    split
    next => rfl
    next hlow => exact BitVec.toInt_ofInt_eq_self (by decide) (by simpa using hlow) (by omega)

theorem scale_saturated_iff (x : Int) (f : Nat) :
    (scale x f).2 = true ↔ 32767 < scaledValue x f ∨ scaledValue x f < -32768 := by
  rw [scale_eq]
  split
  next hhigh => simp [hhigh]
  next hhigh =>
    split
    next hlow => simp [hlow]
    next hlow => simp [hhigh, hlow]

/-- The factor 256 rounds nothing, so a sample stays within its limits. -/
theorem scale_unity (w : Sample) : scale w.toInt 256 = (w, false) := by
  have hvalue : scaledValue w.toInt 256 = w.toInt := by
    have hnear := scaledValue_nearest w.toInt 256
    omega
  have hlow : -32768 ≤ w.toInt := BitVec.le_toInt w
  have hhigh : w.toInt < 32768 := BitVec.toInt_lt
  rw [scale_eq, hvalue, if_neg (by omega), if_neg (by omega), BitVec.ofInt_toInt]

/-! ### A run of inputs -/

/-- A run goes through the stage input by input, and the saturated outputs are counted. -/
theorem scaleAll_eq (f : Nat) (xs : List Int) :
    scaleAll f xs = (xs.map fun x => (scale x f).1, (xs.filter fun x => (scale x f).2).length) := by
  induction xs with
  | nil => rfl
  | cons x xs ih =>
    rw [scaleAll, ih, List.map_cons, List.filter_cons]
    cases (scale x f).2 <;> rfl

/-! ### The stage in capture and playback -/

/-- A block has at most four channels, and a room has a capture factor for each: the default of `captureBytes` is not used. -/
theorem RoomSettings.capture_getD (a : RoomSettings) {j : Nat} (hj : j < 4) : a.capture[j]?.getD 256 = a.capture[j]! := by
  rw [getElem?_pos a.capture j hj, getElem!_pos a.capture j hj, Option.getD_some]

/-- Settles O43: the rounding is that of a division by 256, unity rounds nothing, and both users of the stage run it over a
list of inputs, capture with the factor of the channel it is at. -/
theorem scalingStage : Obligations.ScalingStage := by
  refine ⟨fun x f => ?rounds, scaleAll_eq, scale_unity, fun a n j bs hj => ?captures, fun s b c k mask f => ⟨rfl, rfl⟩⟩
  case rounds =>
    obtain ⟨hlow, hhigh⟩ := scaledValue_nearest x f
    exact ⟨hlow, hhigh, scale_toInt x f, scale_saturated_iff x f⟩
  case captures => rw [captureBytes, a.capture_getD hj]

end Sys2Proof.Machine
end

section
/-! The ALERT line (R192): what it depends on, what raising an alert does to it, and its state after a device reset. -/

namespace Sys2Proof.Machine

/-! ### What the line depends on -/

/-- The line is asserted exactly while a listed record is of a kind that is not masked. -/
theorem State.alertLine_iff (s : State) :
    s.alertLine = true ↔ ∃ a ∈ s.alerts, s.alertMask.getLsbD a.alert.kind.code = false := by
  simp only [State.alertLine, State.masked, List.any_eq_true, Bool.not_eq_true']

/-- Nothing but the list and the mask decides the line: neither the overflow count nor a link's carrier. -/
theorem State.alertLine_congr {s t : State} (halerts : t.alerts = s.alerts) (hmask : t.alertMask = s.alertMask) :
    t.alertLine = s.alertLine := by
  rw [Bool.eq_iff_iff, t.alertLine_iff, s.alertLine_iff, halerts, hmask]

theorem State.alertLine_of_alerts_nil {s : State} (h : s.alerts = []) : s.alertLine = false := by
  rw [State.alertLine, h, List.any_nil]

theorem State.masked_of_alertMask_zero {s : State} (h : s.alertMask = 0) (k : AlertKind) : s.masked k = false := by
  rw [State.masked, h]
  exact BitVec.getLsbD_zero

/-! ### Raising an alert -/

@[simp] theorem State.raise_alertMask (s : State) (a : Alert) : (s.raise a).alertMask = s.alertMask := by
  unfold State.raise
  split <;> rfl

theorem State.raise_alerts_of_lt {s : State} (h : s.alerts.length < Config.alertRecords) (a : Alert) :
    (s.raise a).alerts = s.alerts ++ [⟨s.nextAlert, a⟩] := by
  rw [State.raise, if_pos h]

/-- A full list drops the alert (R189). -/
theorem State.raise_alerts_of_full {s : State} (h : Config.alertRecords ≤ s.alerts.length) (a : Alert) :
    (s.raise a).alerts = s.alerts := by
  rw [State.raise, if_neg (Nat.not_lt.mpr h)]

/-- A listed alert asserts the line unless its kind is masked, and never releases it. -/
theorem State.alertLine_raise_of_lt {s : State} (h : s.alerts.length < Config.alertRecords) (a : Alert) :
    (s.raise a).alertLine = (s.alertLine || !s.masked a.kind) := by
  simp only [State.alertLine, State.raise_alerts_of_lt h, State.masked, State.raise_alertMask, List.any_append,
    List.any_cons, List.any_nil, Bool.or_false]

/-- A dropped alert leaves the line as it was. -/
theorem State.alertLine_raise_of_full {s : State} (h : Config.alertRecords ≤ s.alerts.length) (a : Alert) :
    (s.raise a).alertLine = s.alertLine :=
  State.alertLine_congr (State.raise_alerts_of_full h a) (s.raise_alertMask a)

/-- The first alert raised into an empty list, no kind masked, asserts the line. -/
theorem State.alertLine_raise_first {s : State} (hempty : s.alerts = []) (hmask : s.alertMask = 0) (a : Alert) :
    (s.raise a).alertLine = true := by
  have hroom : s.alerts.length < Config.alertRecords := by rw [hempty]; decide
  rw [State.alertLine_raise_of_lt hroom, State.masked_of_alertMask_zero hmask, Bool.not_false, Bool.or_true]

/-! ### Device reset -/

/-- A device reset empties the alert list, whatever the state it interrupts. -/
theorem exec_deviceReset_alerts (s : State) : ∃ t, exec .deviceReset s = .next t ∧ t.alerts = [] :=
  ⟨_, rfl, rfl⟩

/-- Settles O30: only the list and the mask decide the line, a full list drops the alert, the reset state lists nothing and masks
nothing, and a device reset empties the list. -/
theorem alertLine : Obligations.AlertLine := by
  refine ⟨State.alertLine_iff, fun s a hfull => State.alertLine_raise_of_full (Nat.le_of_eq hfull.symm) a,
    State.alertLine_of_alerts_nil rfl, State.alertLine_raise_first rfl rfl, fun s => ?released⟩
  case released =>
    obtain ⟨t, hexec, hempty⟩ := exec_deviceReset_alerts s
    exact ⟨t, hexec, State.alertLine_of_alerts_nil hempty⟩

end Sys2Proof.Machine
end

section
/-! Facts about lists that the proofs below share. -/

namespace Sys2Proof.Machine

section Lists

variable {α β : Type}

theorem filter_always (l : List α) : l.filter (fun _ => true) = l := List.filter_eq_self.mpr fun _ _ => rfl

theorem flatMap_congr_mem {f g : α → List β} {l : List α} (h : ∀ x ∈ l, f x = g x) : l.flatMap f = l.flatMap g := by
  rw [List.flatMap_def, List.flatMap_def, List.map_congr_left h]

/-- Where the keys of a list's members differ, a key gives its member. -/
theorem eq_of_nodup_map {f : α → β} {l : List α} (hnd : (l.map f).Nodup) {x y : α} (hx : x ∈ l) (hy : y ∈ l) (h : f x = f y) :
    x = y := by
  induction l with
  | nil => cases hx
  | cons z l ih =>
    obtain ⟨hz, hnd⟩ := List.nodup_cons.mp hnd
    obtain rfl | hx' := List.mem_cons.mp hx
    · obtain rfl | hy' := List.mem_cons.mp hy
      · rfl
      · exact absurd (List.mem_map.mpr ⟨y, hy', h.symm⟩) hz
    · obtain rfl | hy' := List.mem_cons.mp hy
      · exact absurd (List.mem_map.mpr ⟨x, hx', h⟩) hz
      · exact ih hnd hx' hy'

end Lists

end Sys2Proof.Machine
end

section
/-! The rebuild store (R174): every shared operation outside the rebuild's own leaves it alone, said once for each. -/

namespace Sys2Proof.Machine

variable (s : State)

/-- A fold of operations that leave the rebuild store alone leaves it alone. -/
theorem rebuild_foldl {α : Type} {f : State → α → State} (hf : ∀ u x, (f u x).rebuild = u.rebuild) (xs : List α) (s : State) :
    (xs.foldl f s).rebuild = s.rebuild := by
  induction xs generalizing s with
  | nil => rfl
  | cons x xs ih => exact (ih (f s x)).trans (hf s x)

@[simp] theorem State.rebuild_raise (a : Alert) : (s.raise a).rebuild = s.rebuild := by
  unfold State.raise; split <;> rfl

@[simp] theorem State.rebuild_ite (p : Prop) [Decidable p] (u v : State) :
    (if p then u else v).rebuild = if p then u.rebuild else v.rebuild := apply_ite ..

@[simp] theorem State.rebuild_modSegment (x : SegRef) (f : Segment → Segment) : (s.modSegment x f).rebuild = s.rebuild := rfl

@[simp] theorem State.rebuild_send (l : LinkId) (m : Message) : (s.send l m).rebuild = s.rebuild := by
  unfold State.send; dsimp only; (repeat' split) <;> simp

@[simp] theorem State.rebuild_answer (l : LinkId) (st : Status) (ind : Indications) (body : List Byte) :
    (s.answer l st ind body).rebuild = s.rebuild := by
  unfold State.answer; dsimp only; (repeat' split) <;> simp

@[simp] theorem State.rebuild_answerFields (l : LinkId) (st : Status) (ind : Indications) (fs : List BodyField) :
    (s.answerFields l st ind fs).rebuild = s.rebuild := by
  unfold State.answerFields; simp

@[simp] theorem State.rebuild_reply (l : LinkId) (kind : Nat) (tag : Byte) (st : Status) :
    (s.reply l kind tag st).rebuild = s.rebuild := by
  unfold State.reply; simp

@[simp] theorem State.rebuild_notify (l : LinkId) (kind : Nat) (body : List Byte) :
    (s.notify l kind body).rebuild = s.rebuild := by
  unfold State.notify; simp

@[simp] theorem State.rebuild_renumberQueue : s.renumberQueue.rebuild = s.rebuild := rfl

@[simp] theorem State.rebuild_enqueue (x : SegRef) (band : Nat) : (s.enqueue x band).rebuild = s.rebuild :=
  by unfold State.enqueue; split <;> rfl

@[simp] theorem State.rebuild_handOver (x : SegRef) : (s.handOver x).rebuild = s.rebuild := State.rebuild_enqueue ..

@[simp] theorem State.rebuild_returnSegment (x : SegRef) (resume : Option Nat) :
    (s.returnSegment x resume).rebuild = s.rebuild := by
  unfold State.returnSegment; (repeat' split) <;> simp

@[simp] theorem State.rebuild_assign (x : SegRef) (k : StationId) (slot : Slot) :
    (s.assign x k slot).rebuild = s.rebuild :=
  rfl

@[simp] theorem State.rebuild_rushCheck (before : State) : (State.rushCheck before s).rebuild = s.rebuild := by
  unfold State.rushCheck; (repeat' split) <;> simp

@[simp] theorem State.rebuild_addMark (take : Nat) (m : Mark) : (s.addMark take m).rebuild = s.rebuild := rfl

@[simp] theorem State.rebuild_loseMarks (r : RoomId) (take : Nat) (n : Nat) :
    (s.loseMarks r take n).rebuild = s.rebuild := by
  unfold State.loseMarks; simp

@[simp] theorem State.rebuild_carry (r : RoomId) (take : Nat) (m : Mark) : (s.carry r take m).rebuild = s.rebuild := by
  unfold State.carry; dsimp only; (repeat' split) <;> simp

@[simp] theorem State.rebuild_placeMark (r : RoomId) (take : Nat) (m : Mark) :
    (s.placeMark r take m).rebuild = s.rebuild := by
  unfold State.placeMark; simp

@[simp] theorem State.rebuild_placeGapMarks (r : RoomId) (take : Nat) (g : GapType) (first : Nat) (codes : List Nat) :
    (s.placeGapMarks r take g first codes).rebuild = s.rebuild := by
  induction codes generalizing s first with
  | nil => rfl
  | cons c cs ih => unfold State.placeGapMarks; dsimp only; rw [ih]; split <;> simp

@[simp] theorem State.rebuild_reportGap (r : RoomId) (take : Nat) (g : GapType) (first n : Nat) :
    (s.reportGap r take g first n).rebuild = s.rebuild := by
  unfold State.reportGap; cases g <;> simp

@[simp] theorem State.rebuild_reportFilledRun (r : RoomId) : (s.reportFilledRun r).rebuild = s.rebuild := by
  unfold State.reportFilledRun; (repeat' split) <;> simp

@[simp] theorem State.rebuild_tellClosed (x : SegRef) (last : Nat) (bound : Option Nat) (k : StationId) :
    (State.tellClosed x last bound s k).rebuild = s.rebuild := by
  unfold State.tellClosed; dsimp only; (repeat' split) <;> simp

@[simp] theorem State.rebuild_tellAllClosed (x : SegRef) (last : Nat) (bound : Option Nat) :
    (s.tellAllClosed x last bound).rebuild = s.rebuild :=
  rebuild_foldl (fun u k => State.rebuild_tellClosed u x last bound k) _ s

@[simp] theorem State.rebuild_makeCut (t : Take) (g : Segment) (b : Nat) : (s.makeCut t g b).rebuild = s.rebuild := by
  unfold State.makeCut; simp

@[simp] theorem State.rebuild_cutAt (take b : Nat) : (s.cutAt take b).rebuild = s.rebuild := by
  unfold State.cutAt; (repeat' split) <;> simp

@[simp] theorem State.rebuild_lengthCut (r : RoomId) (take : Nat) : (s.lengthCut r take).rebuild = s.rebuild := by
  unfold State.lengthCut; dsimp only; (repeat' split) <;> simp

@[simp] theorem State.rebuild_markCut (r : RoomId) (take : Nat) (k : MarkKind) (b : Nat) :
    (s.markCut r take k b).rebuild = s.rebuild := by
  unfold State.markCut; dsimp only; (repeat' split) <;> simp

@[simp] theorem State.rebuild_checkComplete (take : Nat) : (s.checkComplete take).rebuild = s.rebuild := rfl

@[simp] theorem State.rebuild_makeTyped (x : SegRef) : (s.makeTyped x).rebuild = s.rebuild := rfl

@[simp] theorem State.rebuild_reportDamage (take b : Nat) : (s.reportDamage take b).rebuild = s.rebuild := by
  unfold State.reportDamage; (repeat' split) <;> simp

@[simp] theorem State.rebuild_freeTake (take : Nat) : (s.freeTake take).rebuild = s.rebuild := rfl

@[simp] theorem State.rebuild_encodePage (b : BufId) : (s.encodePage b).rebuild = s.rebuild := rfl

@[simp] theorem State.rebuild_storePage (unit page : Nat) (bs : List Byte) :
    (s.storePage unit page bs).rebuild = s.rebuild := by
  unfold State.storePage; (repeat' split) <;> simp

@[simp] theorem State.rebuild_eraseUnit (unit : Nat) : (s.eraseUnit unit).rebuild = s.rebuild := by
  unfold State.eraseUnit; (repeat' split) <;> simp

@[simp] theorem State.rebuild_spoilPage (unit : Nat) (page : Nat) : (s.spoilPage unit page).rebuild = s.rebuild := by
  unfold State.spoilPage; simp

@[simp] theorem State.rebuild_spoilUnit (unit : Nat) : (s.spoilUnit unit).rebuild = s.rebuild := by
  unfold State.spoilUnit; simp

@[simp] theorem State.rebuild_renumberOps : s.renumberOps.rebuild = s.rebuild := rfl

@[simp] theorem State.rebuild_requestOp (cls : Nat) (kind : OpKind) : (s.requestOp cls kind).rebuild = s.rebuild := by
  unfold State.requestOp; dsimp only; (repeat' split) <;> simp

@[simp] theorem State.rebuild_writeSeqTag (b : BufId) (unit : Nat) : (s.writeSeqTag b unit).rebuild = s.rebuild := rfl

@[simp] theorem State.rebuild_issueOp (x : Ready) : (s.issueOp x).rebuild = s.rebuild := by
  unfold State.issueOp; (repeat' split) <;> simp

@[simp] theorem State.rebuild_issueSome (n : Nat) : (State.issueSome n s).rebuild = s.rebuild := by
  induction n generalizing s with
  | zero => rfl
  | succ n ih => unfold State.issueSome; split <;> simp [ih]

@[simp] theorem State.rebuild_issue : s.issue.rebuild = s.rebuild := State.rebuild_issueSome s 4

@[simp] theorem State.rebuild_settle (before : State) : (State.settle before s).rebuild = s.rebuild := by
  unfold State.settle; simp

@[simp] theorem State.rebuild_countWords (rs : List SectorResult) : (s.countWords rs).rebuild = s.rebuild := rfl

@[simp] theorem State.rebuild_countErased : s.countErased.rebuild = s.rebuild := rfl

@[simp] theorem State.rebuild_countProgramFailure : s.countProgramFailure.rebuild = s.rebuild := rfl

@[simp] theorem State.rebuild_countEraseFailure : s.countEraseFailure.rebuild = s.rebuild := rfl

@[simp] theorem State.rebuild_countTimeout : s.countTimeout.rebuild = s.rebuild := rfl

@[simp] theorem State.rebuild_leaveDropping (r : RoomId) : (s.leaveDropping r).rebuild = s.rebuild := by
  unfold State.leaveDropping; dsimp only; (repeat' split) <;> simp

@[simp] theorem State.rebuild_enterDropping (r : RoomId) (c : DropCause) (n : Nat) :
    (s.enterDropping r c n).rebuild = s.rebuild := by
  unfold State.enterDropping; simp

@[simp] theorem State.rebuild_tellRescueWait (r : RoomId) : (s.tellRescueWait r).rebuild = s.rebuild := by
  unfold State.tellRescueWait; (repeat' split) <;> simp

@[simp] theorem State.rebuild_tellRescueHasUnit (r : RoomId) : (s.tellRescueHasUnit r).rebuild = s.rebuild := by
  unfold State.tellRescueHasUnit; dsimp only; (repeat' split) <;> simp

@[simp] theorem State.rebuild_tellUnitGranted (r : RoomId) : (s.tellUnitGranted r).rebuild = s.rebuild := by
  unfold State.tellUnitGranted; (repeat' split) <;> simp

@[simp] theorem State.rebuild_giveFilling (r : RoomId) (t : Take) (b : BufId) :
    (s.giveFilling r t b).rebuild = s.rebuild := by
  unfold State.giveFilling; dsimp only; (repeat' split) <;> simp

@[simp] theorem State.rebuild_obtainFilling (r : RoomId) : (s.obtainFilling r).rebuild = s.rebuild := by
  unfold State.obtainFilling; dsimp only; (repeat' split) <;> simp

@[simp] theorem State.rebuild_blockBoundary (r : RoomId) : (s.blockBoundary r).rebuild = s.rebuild := by
  unfold State.blockBoundary; (repeat' split) <;> simp

theorem State.rebuild_grantUnit {s s' : State} {need take chain u : Nat} {role : Role} (e : s.grantUnit need take chain role = some (u, s')) :
    s'.rebuild = s.rebuild := by
  unfold State.grantUnit at e
  split at e
  · cases e
  · split at e
    · simp only [Option.some.injEq, Prod.mk.injEq] at e
      rw [← e.2]
      split <;> simp
    · cases e

@[simp] theorem State.rebuild_ensureUnit (take tp : Nat) : (s.ensureUnit take tp).2.rebuild = s.rebuild := by
  unfold State.ensureUnit
  split
  · rfl
  · split
    · rename_i e; exact State.rebuild_grantUnit e
    · rfl

@[simp] theorem State.rebuild_requestErase (n : Nat) : (s.requestErase n).rebuild = s.rebuild := by
  unfold State.requestErase; (repeat' split) <;> simp

@[simp] theorem State.rebuild_drainReclaim : s.drainReclaim.rebuild = s.rebuild := by
  unfold State.drainReclaim; split
  · exact rebuild_foldl (fun u n => State.rebuild_requestErase u n) _ s
  · rfl

@[simp] theorem State.rebuild_reclaimUnit (n : Nat) : (s.reclaimUnit n).rebuild = s.rebuild := by
  unfold State.reclaimUnit; simp

@[simp] theorem State.rebuild_retireUnit (n : Nat) (c : RetireCause) : (s.retireUnit n c).rebuild = s.rebuild :=
  by unfold State.retireUnit; simp

@[simp] theorem State.rebuild_requestCopyRead (isRescue : Bool) (w : Work) (b : BufId) :
    (s.requestCopyRead isRescue w b).rebuild = s.rebuild := by
  unfold State.requestCopyRead; simp

@[simp] theorem State.rebuild_askCopyBuffer (isRescue : Bool) (w : Work) :
    (s.askCopyBuffer isRescue w).rebuild = s.rebuild := by
  unfold State.askCopyBuffer; (repeat' split) <;> simp

@[simp] theorem State.rebuild_engineRetry : s.engineRetry.rebuild = s.rebuild := by
  unfold State.engineRetry; (repeat' split) <;> simp

@[simp] theorem State.rebuild_freeBuffer (b : BufId) : (s.freeBuffer b).rebuild = s.rebuild := by
  unfold State.freeBuffer; (repeat' split) <;> simp

@[simp] theorem State.rebuild_freeOptBuffer (b : Option BufId) : (s.freeOptBuffer b).rebuild = s.rebuild := by
  unfold State.freeOptBuffer; (repeat' split) <;> simp

theorem State.rebuild_endRescue {next : State → State} (hn : ∀ u, (next u).rebuild = u.rebuild) (w : Work) (d : Nat) :
    (s.endRescue next w d).rebuild = s.rebuild := by
  unfold State.endRescue
  simp [hn]

theorem State.rebuild_rescueHasUnit {next : State → State} (hn : ∀ u, (next u).rebuild = u.rebuild) (w : Work) (d : Nat) :
    (s.rescueHasUnit next w d).rebuild = s.rebuild := by
  unfold State.rescueHasUnit
  dsimp only
  split
  · rw [State.rebuild_endRescue _ hn]
  · split <;> simp

theorem State.rebuild_rescueAsks {next : State → State} (hn : ∀ u, (next u).rebuild = u.rebuild) (w : Work) :
    (s.rescueAsks next w).rebuild = s.rebuild := by
  unfold State.rescueAsks
  split
  · rename_i e; rw [State.rebuild_rescueHasUnit _ hn, State.rebuild_grantUnit e]
  · dsimp only; (repeat' split) <;> simp

@[simp] theorem State.rebuild_takeWork (n : Nat) : (State.takeWork n s).rebuild = s.rebuild := by
  induction n generalizing s with
  | zero => rfl
  | succ n ih =>
    unfold State.takeWork
    dsimp only
    split
    · rfl
    · split
      · rw [State.rebuild_rescueAsks _ ih]
      · split
        · rfl
        · split
          · rw [ih]
          · split
            · rename_i e; simpa using State.rebuild_grantUnit e
            · rw [ih]; simp

@[simp] theorem State.rebuild_engineNext : s.engineNext.rebuild = s.rebuild := State.rebuild_takeWork s _

@[simp] theorem State.rebuild_engineKick : s.engineKick.rebuild = s.rebuild := by
  unfold State.engineKick; (repeat' split) <;> simp

@[simp] theorem State.rebuild_reclaimOpt (d : Option Nat) : (s.reclaimOpt d).rebuild = s.rebuild := by
  unfold State.reclaimOpt; (repeat' split) <;> simp

@[simp] theorem State.rebuild_setAside (w : Work) : (s.setAside w).rebuild = s.rebuild := by
  unfold State.setAside; simp

@[simp] theorem State.rebuild_stopWork (w : Work) : (s.stopWork w).rebuild = s.rebuild := by
  unfold State.stopWork; simp

@[simp] theorem State.rebuild_enterRescue (e : Rescue) : (s.enterRescue e).rebuild = s.rebuild := by
  unfold State.enterRescue; dsimp only; (repeat' split) <;> simp

@[simp] theorem State.rebuild_abandonRefresh (w : Work) : (s.abandonRefresh w).rebuild = s.rebuild := by
  unfold State.abandonRefresh; simp

@[simp] theorem State.rebuild_restartRefresh (w : Work) : (s.restartRefresh w).rebuild = s.rebuild := by
  unfold State.restartRefresh
  split
  · simp
  · rename_i e
    have h := State.rebuild_grantUnit e
    dsimp only; split <;> simp [h]

@[simp] theorem State.rebuild_endRefresh (w : Work) (d : Nat) : (s.endRefresh w d).rebuild = s.rebuild := by
  unfold State.endRefresh; simp

@[simp] theorem State.rebuild_offerWaiters (n : Nat) : (State.offerWaiters n s).rebuild = s.rebuild := by
  induction n generalizing s with
  | zero => rfl
  | succ n ih =>
    unfold State.offerWaiters
    split
    · rfl
    · split
      · rfl
      · rename_i e; simp [ih, State.rebuild_grantUnit e]

@[simp] theorem State.rebuild_offerUnit : s.offerUnit.rebuild = s.rebuild := by
  unfold State.offerUnit
  rw [State.rebuild_offerWaiters]
  split
  · split
    · split
      · rfl
      · rename_i e
        rw [State.rebuild_rescueHasUnit _ fun u => State.rebuild_engineNext u]
        split <;> simp [State.rebuild_grantUnit e]
    · rfl
  · rfl

@[simp] theorem State.rebuild_checkFull (n : Nat) : (s.checkFull n).rebuild = s.rebuild := by
  unfold State.checkFull; dsimp only; (repeat' split) <;> simp

@[simp] theorem State.rebuild_advanceUnit (n : Nat) : (s.advanceUnit n).rebuild = s.rebuild := by
  unfold State.advanceUnit; simp

@[simp] theorem State.rebuild_setFinalPage (take : Nat) (tp : Nat) : (s.setFinalPage take tp).rebuild = s.rebuild := by
  unfold State.setFinalPage; (repeat' split) <;> simp

@[simp] theorem State.rebuild_wantRefresh (n : Nat) : (s.wantRefresh n).rebuild = s.rebuild := by
  unfold State.wantRefresh; dsimp only; (repeat' split) <;> simp

@[simp] theorem State.rebuild_pin (b : BufId) : (s.pin b).rebuild = s.rebuild := by
  unfold State.pin; simp

@[simp] theorem State.rebuild_unpin (b : BufId) : (s.unpin b).rebuild = s.rebuild := by
  unfold State.unpin; dsimp only; (repeat' split) <;> simp

@[simp] theorem State.rebuild_dropHolding (d : Holding) : (s.dropHolding d).rebuild = s.rebuild := by
  unfold State.dropHolding; simp

@[simp] theorem State.rebuild_releaseHolding (k : StationId) : (s.releaseHolding k).rebuild = s.rebuild := by
  unfold State.releaseHolding; (repeat' split) <;> simp

@[simp] theorem State.rebuild_releaseReadback (r : RoomId) : (s.releaseReadback r).rebuild = s.rebuild := by
  unfold State.releaseReadback; (repeat' split) <;> simp

@[simp] theorem State.rebuild_requestPageRead (x : Reader) (cls : Nat) (take : Nat) (tp : Nat) (u : UnitEntry) (b : BufId) :
    (s.requestPageRead x cls take tp u b).rebuild = s.rebuild := by
  unfold State.requestPageRead; dsimp only; simp

@[simp] theorem State.rebuild_serveStation (k : StationId) (t : Take) (g : Segment) (b : BufId) :
    (s.serveStation k t g b).rebuild = s.rebuild := by
  unfold State.serveStation; dsimp only; simp

@[simp] theorem State.rebuild_stationFlashRead (k : StationId) (take : Nat) (tp : Nat) :
    (s.stationFlashRead k take tp).rebuild = s.rebuild := by
  unfold State.stationFlashRead; dsimp only; (repeat' split) <;> simp

@[simp] theorem State.rebuild_stationRead (k : StationId) : (s.stationRead k).rebuild = s.rebuild := by
  unfold State.stationRead; dsimp only; (repeat' split) <;> simp

@[simp] theorem State.rebuild_stationReadDone (k : StationId) (b : BufId) :
    (s.stationReadDone k b).rebuild = s.rebuild := by
  unfold State.stationReadDone; dsimp only; (repeat' split) <;> simp

@[simp] theorem State.rebuild_serveReadback (r : RoomId) (t : Take) (b : BufId) :
    (s.serveReadback r t b).rebuild = s.rebuild := by
  unfold State.serveReadback; dsimp only; simp

@[simp] theorem State.rebuild_readbackFlashRead (r : RoomId) (take : Nat) (tp : Nat) :
    (s.readbackFlashRead r take tp).rebuild = s.rebuild := by
  unfold State.readbackFlashRead; dsimp only; (repeat' split) <;> simp

@[simp] theorem State.rebuild_restReadback (r : RoomId) : (s.restReadback r).rebuild = s.rebuild := by
  unfold State.restReadback; simp

@[simp] theorem State.rebuild_idleReadback (r : RoomId) : (s.idleReadback r).rebuild = s.rebuild := by
  unfold State.idleReadback; simp

@[simp] theorem State.rebuild_readbackRead (r : RoomId) : (s.readbackRead r).rebuild = s.rebuild := by
  unfold State.readbackRead; dsimp only; (repeat' split) <;> simp

@[simp] theorem State.rebuild_readbackReadDone (r : RoomId) (b : BufId) :
    (s.readbackReadDone r b).rebuild = s.rebuild := by
  unfold State.readbackReadDone; dsimp only; (repeat' split) <;> simp

@[simp] theorem State.rebuild_endReadback (r : RoomId) : (s.endReadback r).rebuild = s.rebuild := by
  unfold State.endReadback; simp

@[simp] theorem State.rebuild_setFate (k : StationId) (f : Fate) : (s.setFate k f).rebuild = s.rebuild := by
  unfold State.setFate; simp

@[simp] theorem State.rebuild_leaveCurrent (k : StationId) : (s.leaveCurrent k).1.rebuild = s.rebuild := by
  unfold State.leaveCurrent; dsimp only; split <;> simp

@[simp] theorem State.rebuild_loseSlot (k : StationId) (slot : Slot) (f : Fate) : (s.loseSlot k slot f).1.rebuild = s.rebuild := by
  cases slot <;> simp [State.loseSlot]

@[simp] theorem State.rebuild_seize (x : SegRef) (k : StationId) (slot : Slot) (emptied : Bool) :
    (s.seize x k slot emptied).rebuild = s.rebuild := by
  unfold State.seize; dsimp only; simp

@[simp] theorem State.rebuild_seizeEmpty (x : SegRef) (g : Segment) : (s.seizeEmpty x g).rebuild = s.rebuild := by
  unfold State.seizeEmpty; (repeat' split) <;> simp

@[simp] theorem State.rebuild_stopSegment (t : Take) (g : Segment) : (s.stopSegment t g).rebuild = s.rebuild := by
  unfold State.stopSegment; dsimp only; simp

@[simp] theorem State.rebuild_stopTake (take : Nat) : (s.stopTake take).rebuild = s.rebuild := by
  unfold State.stopTake; dsimp only; (repeat' split) <;> simp

@[simp] theorem State.rebuild_handOff (r : RoomId) (t : Take) (b : BufId) (tp : Nat) (valid : Nat) :
    (s.handOff r t b tp valid).rebuild = s.rebuild := by
  unfold State.handOff; dsimp only; (repeat' split) <;> simp

@[simp] theorem State.rebuild_endStoredBlock (r : RoomId) (take : Nat) (b : BufId) :
    (s.endStoredBlock r take b).rebuild = s.rebuild := by
  unfold State.endStoredBlock; dsimp only; (repeat' split) <;> simp

@[simp] theorem State.rebuild_unitForBlock (r : RoomId) (t : Take) : ((s.unitForBlock r t).2).rebuild = s.rebuild := by
  unfold State.unitForBlock; (repeat' split) <;> simp

@[simp] theorem State.rebuild_dropForUnit (r : RoomId) (t : Take) : (s.dropForUnit r t).rebuild = s.rebuild := by
  unfold State.dropForUnit; dsimp only; simp

@[simp] theorem State.rebuild_dropBlock (r : RoomId) : (s.dropBlock r).rebuild = s.rebuild := by
  unfold State.dropBlock; simp

@[simp] theorem State.rebuild_answerDropped (r : RoomId) : (s.answerDropped r).rebuild = s.rebuild := by
  unfold State.answerDropped; dsimp only; simp

@[simp] theorem State.rebuild_noteClip (r : RoomId) (take : Nat) (block : Nat) (n : Nat) :
    (s.noteClip r take block n).rebuild = s.rebuild := by
  unfold State.noteClip; dsimp only; (repeat' split) <;> simp

@[simp] theorem State.rebuild_giveUpCarry (r : RoomId) (take : Nat) : (s.giveUpCarry r take).rebuild = s.rebuild := by
  unfold State.giveUpCarry; dsimp only; (repeat' split) <;> simp

@[simp] theorem State.rebuild_tailPage (r : RoomId) (t : Take) (b : BufId) (tp : Nat) :
    (s.tailPage r t b tp).rebuild = s.rebuild := by
  unfold State.tailPage; simp

@[simp] theorem State.rebuild_tailPages (n : Nat) (r : RoomId) (t : Take) (tp : Nat) :
    (State.tailPages n s r t tp).1.rebuild = s.rebuild := by
  induction n generalizing s tp with
  | zero => simp [State.tailPages]
  | succ n ih =>
    have h := fun s : State => State.rebuild_ensureUnit s t.id tp
    unfold State.tailPages
    split
    · rfl
    · split
      · simp
      · split <;> rename_i e <;> have h := h s <;> rw [e] at h
        · simpa using h
        · rw [ih]; simpa using h

@[simp] theorem State.rebuild_flushPages (r : RoomId) (t : Take) : (s.flushPages r t).1.rebuild = s.rebuild := by
  unfold State.flushPages
  dsimp only
  split
  · simp
  · split
    · simp
    · split
      · simp
      · have h := State.rebuild_ensureUnit s t.id (takePage t.channels t.length)
        split <;> rename_i e <;> rw [e] at h <;> simpa using h

@[simp] theorem State.rebuild_leaveForStop (r : RoomId) : (s.leaveForStop r).rebuild = s.rebuild := by
  unfold State.leaveForStop; dsimp only; simp

@[simp] theorem State.rebuild_stopRoom (r : RoomId) (after : RoomState) : (s.stopRoom r after).rebuild = s.rebuild := by
  unfold State.stopRoom; dsimp only; (repeat' split) <;> simp

@[simp] theorem State.rebuild_limitStop (r : RoomId) (take : Nat) : (s.limitStop r take).rebuild = s.rebuild := by
  unfold State.limitStop; (repeat' split) <;> simp

@[simp] theorem State.rebuild_sendCall (r : RoomId) : (s.sendCall r).rebuild = s.rebuild := by
  unfold State.sendCall; dsimp only; simp

@[simp] theorem State.rebuild_beginRecording (r : RoomId) (take : Nat) :
    (s.beginRecording r take).rebuild = s.rebuild := by
  unfold State.beginRecording; simp

@[simp] theorem State.rebuild_storeBlock (r : RoomId) (t : Take) (b : BufId) (bytes : List Byte) :
    (s.storeBlock r t b bytes).rebuild = s.rebuild := by
  have h := State.rebuild_unitForBlock (s.reportFilledRun r) r t
  unfold State.storeBlock
  split <;> rename_i e <;> rw [e] at h <;> simpa using h

@[simp] theorem State.rebuild_takeBlock (r : RoomId) (bytes : List Byte) :
    (s.takeBlock r bytes).rebuild = s.rebuild := by
  unfold State.takeBlock; dsimp only; (repeat' split) <;> simp

@[simp] theorem State.rebuild_serveBlock (r : RoomId) (body : List Byte) :
    (serveBlock r body s).rebuild = s.rebuild := by
  unfold serveBlock; dsimp only; (repeat' split) <;> simp

@[simp] theorem State.rebuild_storeSilence (r : RoomId) (t : Take) (b : BufId) : (s.storeSilence r t b).rebuild = s.rebuild := by
  have h := State.rebuild_unitForBlock s r t
  unfold State.storeSilence
  split <;> rename_i e <;> rw [e] at h <;> simpa using h

@[simp] theorem State.rebuild_endPeriod (r : RoomId) : (s.endPeriod r).rebuild = s.rebuild := by
  unfold State.endPeriod; dsimp only; (repeat' split) <;> simp

@[simp] theorem State.rebuild_serveMark (r : RoomId) (a : MarkArgs) : (serveMark r a s).rebuild = s.rebuild := by
  unfold serveMark; dsimp only; (repeat' split) <;> simp

@[simp] theorem State.rebuild_serveTakeStop (r : RoomId) : (serveTakeStop r s).rebuild = s.rebuild := by
  unfold serveTakeStop; dsimp only; (repeat' split) <;> simp

@[simp] theorem State.rebuild_dropReadback (r : RoomId) : (s.dropReadback r).rebuild = s.rebuild := by
  unfold State.dropReadback; simp

@[simp] theorem State.rebuild_loseRoom (r : RoomId) : (s.loseRoom r).rebuild = s.rebuild := by
  unfold State.loseRoom; dsimp only; (repeat' split) <;> simp

@[simp] theorem State.rebuild_giveCurrent (k : StationId) (x : SegRef) (start : Nat) :
    (s.giveCurrent k x start).rebuild = s.rebuild := by
  unfold State.giveCurrent; simp

@[simp] theorem State.rebuild_serveClaim (k : StationId) (own : Option Nat) :
    (serveClaim k own s).rebuild = s.rebuild := by
  unfold serveClaim; dsimp only; (repeat' split) <;> simp

@[simp] theorem State.rebuild_serveRead (k : StationId) : (serveRead k s).rebuild = s.rebuild := by
  unfold serveRead; (repeat' split) <;> simp

@[simp] theorem State.rebuild_servePause (k : StationId) : (servePause k s).rebuild = s.rebuild := by
  unfold servePause; dsimp only; (repeat' split) <;> simp

@[simp] theorem State.rebuild_serveResume (k : StationId) : (serveResume k s).rebuild = s.rebuild := by
  unfold serveResume; dsimp only; (repeat' split) <;> simp

@[simp] theorem State.rebuild_serveSeek (k : StationId) (a : SeekArgs) : (serveSeek k a s).rebuild = s.rebuild := by
  unfold serveSeek; dsimp only; (repeat' split) <;> simp

@[simp] theorem State.rebuild_serveSetPlayback (k : StationId) (a : SetPlaybackArgs) :
    (serveSetPlayback k a s).rebuild = s.rebuild := by
  unfold serveSetPlayback; dsimp only; (repeat' split) <;> simp

@[simp] theorem State.rebuild_serveSetStop (k : StationId) (a : Option Nat) :
    (serveSetStop k a s).rebuild = s.rebuild := by
  unfold serveSetStop; dsimp only; (repeat' split) <;> simp

@[simp] theorem State.rebuild_serveDone (k : StationId) (a : Nat × Nat) : (serveDone k a s).rebuild = s.rebuild := by
  unfold serveDone; dsimp only; (repeat' split) <;> simp

@[simp] theorem State.rebuild_serveRelease (k : StationId) (a : ReleaseArgs) :
    (serveRelease k a s).rebuild = s.rebuild := by
  unfold serveRelease; dsimp only; (repeat' split) <;> simp

@[simp] theorem State.rebuild_serveStatus (k : StationId) : (serveStatus k s).rebuild = s.rebuild := by
  unfold serveStatus; (repeat' split) <;> simp

@[simp] theorem State.rebuild_returnOpt (x : Option SegRef) : (s.returnOpt x).rebuild = s.rebuild := by
  unfold State.returnOpt; (repeat' split) <;> simp

@[simp] theorem State.rebuild_loseStation (k : StationId) : (s.loseStation k).rebuild = s.rebuild := by
  unfold State.loseStation; dsimp only; simp

@[simp] theorem State.rebuild_serveReadbackStart (r : RoomId) (a : ReadbackStartArgs) :
    (serveReadbackStart r a s).rebuild = s.rebuild := by
  unfold serveReadbackStart; dsimp only; (repeat' split) <;> simp

@[simp] theorem State.rebuild_serveReadbackRead (r : RoomId) : (serveReadbackRead r s).rebuild = s.rebuild := by
  unfold serveReadbackRead; dsimp only; (repeat' split) <;> simp

@[simp] theorem State.rebuild_serveReadbackStop (r : RoomId) : (serveReadbackStop r s).rebuild = s.rebuild := by
  unfold serveReadbackStop; dsimp only; (repeat' split) <;> simp

@[simp] theorem State.rebuild_serveSetClass (a : Nat × Cls) : (serveSetClass a s).rebuild = s.rebuild := by
  unfold serveSetClass; (repeat' split) <;> simp

@[simp] theorem State.rebuild_serveSetHold (a : Nat × Bool) : (serveSetHold a s).rebuild = s.rebuild := by
  unfold serveSetHold; (repeat' split) <;> simp

@[simp] theorem State.rebuild_takeBack (take : Nat) (k : StationId) : (State.takeBack take s k).rebuild = s.rebuild := by
  unfold State.takeBack; dsimp only; (repeat' split) <;> simp

@[simp] theorem State.rebuild_releaseEndsReadback (take : Nat) (r : RoomId) :
    (State.releaseEndsReadback take s r).rebuild = s.rebuild := by
  unfold State.releaseEndsReadback; dsimp only; (repeat' split) <;> simp

@[simp] theorem State.rebuild_withdraw (take : Nat) (b : BufId) : (State.withdraw take s b).rebuild = s.rebuild := by
  unfold State.withdraw; dsimp only; (repeat' split) <;> simp

@[simp] theorem State.rebuild_reclaimChainUnit (n : Nat) : (s.reclaimChainUnit n).rebuild = s.rebuild := by
  unfold State.reclaimChainUnit; dsimp only; simp

@[simp] theorem State.rebuild_stopEngineFor (take : Nat) : (s.stopEngineFor take).rebuild = s.rebuild := by
  unfold State.stopEngineFor; dsimp only; (repeat' split) <;> simp

@[simp] theorem State.rebuild_reclaimChain (take : Nat) : (s.reclaimChain take).rebuild = s.rebuild := by
  unfold State.reclaimChain
  rw [State.rebuild_stopEngineFor, State.rebuild_drainReclaim]
  exact rebuild_foldl (f := State.reclaimChainUnit) (fun _ _ => rfl) _ s

@[simp] theorem State.rebuild_releaseTake (take : Nat) : (s.releaseTake take).rebuild = s.rebuild := by
  have h1 := fun u => rebuild_foldl (fun v k => State.rebuild_takeBack v take k) allStations u
  have h2 := fun u => rebuild_foldl (fun v r => State.rebuild_releaseEndsReadback v take r) allRooms u
  have h3 := fun u => rebuild_foldl (fun v b => State.rebuild_withdraw v take b) allBuffers u
  unfold State.releaseTake
  dsimp only
  split <;> simp [h1, h2, h3]

@[simp] theorem State.rebuild_serveReleaseTake (a : Nat × Bool) : (serveReleaseTake a s).rebuild = s.rebuild := by
  unfold serveReleaseTake; (repeat' split) <;> simp

@[simp] theorem State.rebuild_setShadow (k : StationId) (cur : SegRef) : (s.setShadow k cur).1.rebuild = s.rebuild := by
  simp [State.setShadow]

@[simp] theorem State.rebuild_serveDirect (a : DirectArgs) : (serveDirect a s).rebuild = s.rebuild := by
  unfold serveDirect; dsimp only; (repeat' split) <;> simp

@[simp] theorem State.rebuild_serveRecall (a : Nat × Nat) : (serveRecall a s).rebuild = s.rebuild := by
  unfold serveRecall; dsimp only; (repeat' split) <;> simp

@[simp] theorem State.rebuild_typeAllQueued (take : Nat) : (s.typeAllQueued take).rebuild = s.rebuild := by
  unfold State.typeAllQueued; simp

@[simp] theorem State.rebuild_serveMarkTyped (a : Nat × Option Nat) : (serveMarkTyped a s).rebuild = s.rebuild := by
  unfold serveMarkTyped; dsimp only; (repeat' split) <;> simp

@[simp] theorem State.rebuild_applyIdleStaged : s.applyIdleStaged.rebuild = s.rebuild := by
  unfold State.applyIdleStaged; simp

@[simp] theorem State.rebuild_serveConfigureRoom (a : ConfigureRoomArgs) :
    (serveConfigureRoom a s).rebuild = s.rebuild := by
  unfold serveConfigureRoom; dsimp only; (repeat' split) <;> simp

@[simp] theorem State.rebuild_serveConfigureStation (a : Nat × Nat) :
    (serveConfigureStation a s).rebuild = s.rebuild := by
  unfold serveConfigureStation; (repeat' split) <;> simp

@[simp] theorem State.rebuild_serveQueryTakes (a : Nat × Option Nat) : (serveQueryTakes a s).rebuild = s.rebuild := by
  unfold serveQueryTakes; dsimp only; simp

@[simp] theorem State.rebuild_serveQueryTake (id : Nat) : (serveQueryTake id s).rebuild = s.rebuild := by
  unfold serveQueryTake; (repeat' split) <;> simp

@[simp] theorem State.rebuild_serveQuerySegments (a : Nat × Nat) : (serveQuerySegments a s).rebuild = s.rebuild := by
  unfold serveQuerySegments; (repeat' split) <;> simp

@[simp] theorem State.rebuild_serveQueryMarks (a : QueryMarksArgs) : (serveQueryMarks a s).rebuild = s.rebuild := by
  unfold serveQueryMarks; dsimp only; (repeat' split) <;> simp

@[simp] theorem State.rebuild_serveQueryStation (n : Nat) : (serveQueryStation n s).rebuild = s.rebuild := by
  unfold serveQueryStation; dsimp only; (repeat' split) <;> simp

@[simp] theorem State.rebuild_serveQueryReadback (n : Nat) : (serveQueryReadback n s).rebuild = s.rebuild := by
  unfold serveQueryReadback; (repeat' split) <;> simp

@[simp] theorem State.rebuild_serveQueryRoom (a : Nat × Bool) : (serveQueryRoom a s).rebuild = s.rebuild := by
  unfold serveQueryRoom; dsimp only; (repeat' split) <;> simp

@[simp] theorem State.rebuild_serveQueryQueue (a : Nat × Option Nat) : (serveQueryQueue a s).rebuild = s.rebuild := by
  unfold serveQueryQueue; dsimp only; simp

@[simp] theorem State.rebuild_serveQueryStore (a : QueryStoreArgs) : (serveQueryStore a s).rebuild = s.rebuild := by
  unfold serveQueryStore; (repeat' split) <;> simp

@[simp] theorem State.rebuild_handOverTake (take : Nat) : (s.handOverTake take).rebuild = s.rebuild := by
  unfold State.handOverTake
  split
  · rfl
  · exact rebuild_foldl (f := fun q (g : Segment) => q.handOver ⟨take, g.index⟩) (fun u g => State.rebuild_handOver u ⟨take, g.index⟩) _ s

@[simp] theorem State.rebuild_confirmBuffer (buf : BufId) : (s.confirmBuffer buf).rebuild = s.rebuild := by
  unfold State.confirmBuffer; (repeat' split) <;> simp

@[simp] theorem State.rebuild_waitAgain (op : FlashOp) (buf : BufId) : (s.waitAgain op buf).rebuild = s.rebuild := by
  unfold State.waitAgain; dsimp only; simp

@[simp] theorem State.rebuild_captureDone (op : FlashOp) (buf : BufId) (unit : Nat) (page : Nat) (result : OpResult) :
    (s.captureDone op buf unit page result).rebuild = s.rebuild := by
  unfold State.captureDone; dsimp only; (repeat' split) <;> simp

@[simp] theorem State.rebuild_copyAdvance (isRescue : Bool) (w : Work) (d : Nat) (buf : BufId) :
    (s.copyAdvance isRescue w d buf).rebuild = s.rebuild := by
  unfold State.copyAdvance
  dsimp only
  split
  · simp
  · split
    · rw [State.rebuild_endRescue _ fun u => State.rebuild_engineNext u]; rfl
    · simp

@[simp] theorem State.rebuild_copyFailed (isRescue : Bool) (w : Work) (d : Nat) : (s.copyFailed isRescue w d).rebuild = s.rebuild := by
  unfold State.copyFailed
  dsimp only
  split
  · rw [State.rebuild_rescueAsks _ fun u => State.rebuild_engineNext u]; simp
  · simp

@[simp] theorem State.rebuild_copyDone (buf : BufId) (unit : Nat) (page : Nat) (result : OpResult) :
    (s.copyDone buf unit page result).rebuild = s.rebuild := by
  unfold State.copyDone; dsimp only; (repeat' split) <;> simp

@[simp] theorem State.rebuild_programDone (op : FlashOp) (unit : Nat) (page : Nat) (result : OpResult) :
    (s.programDone op unit page result).rebuild = s.rebuild := by
  unfold State.programDone; (repeat' split) <;> simp

@[simp] theorem State.rebuild_reportPage (take tp : Nat) (d : DecodeRecord) : (s.reportPage take tp d).1.rebuild = s.rebuild := by
  unfold State.reportPage
  split
  · rfl
  · exact rebuild_foldl (fun u b => State.rebuild_reportDamage u take b) _ s

@[simp] theorem State.rebuild_readLeaves (n : Nat) : (s.readLeaves n).rebuild = s.rebuild := by
  unfold State.readLeaves; simp

@[simp] theorem State.rebuild_zeroLost (buf : BufId) (d : DecodeRecord) : (s.zeroLost buf d).rebuild = s.rebuild :=
  rebuild_foldl (f := fun q j => q.writeBuf buf (j * Config.sectorBytes) (State.zeroLost.zeroes Config.sectorBytes)) (fun _ _ => rfl) _ s

@[simp] theorem State.rebuild_rewriteTag (buf : BufId) (t : Take) (w : Work) (tp : Nat) (dest : Nat) (d : DecodeRecord) :
    (s.rewriteTag buf t w tp dest d).rebuild = s.rebuild := by
  unfold State.rewriteTag; dsimp only; (repeat' split) <;> simp

@[simp] theorem State.rebuild_copyReadOn (isRescue : Bool) (w : Work) (dest : Nat) (buf : BufId) (d : DecodeRecord) :
    (s.copyReadOn isRescue w dest buf d).rebuild = s.rebuild := by
  unfold State.copyReadOn; dsimp only; (repeat' split) <;> simp

@[simp] theorem State.rebuild_copyReadDone (buf : BufId) (d : DecodeRecord) :
    (s.copyReadDone buf d).rebuild = s.rebuild := by
  unfold State.copyReadDone; dsimp only; (repeat' split) <;> simp

@[simp] theorem State.rebuild_tableRead (unit : Nat) (buf : BufId) (d : DecodeRecord) :
    (s.tableRead unit buf d).rebuild = s.rebuild := by
  unfold State.tableRead; dsimp only; (repeat' split) <;> simp

@[simp] theorem State.rebuild_pageReadDone (unit : Nat) (buf : BufId) (for_ : ReadFor) (bytes : List Byte) (d : DecodeRecord) :
    (s.pageReadDone unit buf for_ bytes d).rebuild = s.rebuild := by
  unfold State.pageReadDone; dsimp only; (repeat' split) <;> simp

@[simp] theorem State.rebuild_countPage (d : Option DecodeRecord) : (s.countPage d).rebuild = s.rebuild := by
  unfold State.countPage; (repeat' split) <;> simp

@[simp] theorem State.rebuild_erased (unit : Nat) (result : OpResult) : (s.erased unit result).rebuild = s.rebuild := by
  unfold State.erased; (repeat' split) <;> simp

@[simp] theorem State.rebuild_eraseDone (n : Nat) (result : OpResult) : (s.eraseDone n result).rebuild = s.rebuild := by
  unfold State.eraseDone; dsimp only; (repeat' split) <;> simp

@[simp] theorem State.rebuild_interrupt (b : BankId) : (s.interrupt b).rebuild = s.rebuild := by
  unfold State.interrupt; (repeat' split) <;> simp

end Sys2Proof.Machine
end

section
/-! What a command keeps: the admission of a request, and the commands that keep what Kept names. -/

namespace Sys2Proof.Machine

/-! ### A request and what serving it keeps -/

section Requests

variable {s t : State} {α : Type} {l : LinkId} {kind : Nat} {tag : Byte} {g : Group} {args : Option α} {f : α → State → State}

/-- A request leaves the state alone, is answered by the Link Interface, or is served as the outstanding request. -/
theorem State.request_cases (s : State) (l : LinkId) (kind : Nat) (tag : Byte) (g : Group) (args : Option α) (f : α → State → State) :
    s.request l kind tag g args f = s ∨ (∃ st, s.request l kind tag g args f = s.reply l kind tag st) ∨
      ∃ a, args = some a ∧ g.admits s.readiness = true ∧ s.canTake l ∧
        s.request l kind tag g args f = f a (s.taken l kind tag) := by
  by_cases hup : (s.link l).up = true
  · by_cases hout : (s.link l).outstanding = none
    · cases args with
      | none => exact .inr (.inl ⟨.badArg, by simp [State.request, hup, hout]⟩)
      | some a =>
        by_cases hg : g.admits s.readiness = true
        · exact .inr (.inr ⟨a, rfl, hg, ⟨hup, hout⟩, State.request_served ⟨hup, hout⟩ rfl hg⟩)
        · exact .inr (.inl ⟨.notReady, by simp [State.request, hup, hout, hg]⟩)
    · exact .inr (.inl ⟨.busy, by simp [State.request, hup, Option.isSome_iff_ne_none, hout]⟩)
  · exact .inl (by simp [State.request, hup])

@[simp] theorem kept_taken {s₀ : State} (h : Kept s₀ s) (l : LinkId) (kind : Nat) (tag : Byte) : Kept s₀ (s.taken l kind tag) :=
  kept_setLink h ..

@[simp] theorem State.rebuild_taken (s : State) (l : LinkId) (kind : Nat) (tag : Byte) : (s.taken l kind tag).rebuild = s.rebuild :=
  State.setLink_rebuild ..

/-- A request keeps what serving it keeps. -/
theorem kept_of_request (h : Host.Outcome.next (φ := Fault) (ρ := Refusal) (s.request l kind tag g args f) = .next t)
    (hf : ∀ a u, Kept s u → Kept s (f a u)) (hr : ∀ a u, (f a u).rebuild = u.rebuild) : Kept s t ∧ t.rebuild = s.rebuild := by
  obtain rfl := Host.Outcome.next.inj h
  obtain e | ⟨st, e⟩ | ⟨a, -, -, -, e⟩ := s.request_cases l kind tag g args f <;> rw [e]
  · exact ⟨Kept.refl s, rfl⟩
  · exact ⟨kept_reply (Kept.refl s) .., State.rebuild_reply ..⟩
  · exact ⟨hf _ _ (kept_taken (Kept.refl s) ..), (hr _ _).trans (State.rebuild_taken ..)⟩

end Requests

/-- A list of alerts cut short, the overflow count at 0, keeps its bounds. -/
theorem kept_serveReadAlerts {s₀ s : State} (h : Kept s₀ s) (count : Nat) : Kept s₀ (serveReadAlerts count s) := by
  have cut : ∀ n, Kept s { s with alerts := s.alerts.drop n, alertOverflow := 0 } := fun n =>
    ⟨id, fun ⟨hlen, _, hnext⟩ => ⟨Nat.le_trans (by simp) hlen, Nat.zero_le _, hnext⟩, rfl, rfl, rfl, rfl, rfl, rfl, rfl,
      rfl, fun b hb => ⟨b, hb, b.follows_refl⟩⟩
  unfold serveReadAlerts
  split
  · exact kept_answerFields (h.trans (cut 0)) ..
  · exact kept_answerFields (h.trans (cut _)) ..

@[simp] theorem State.rebuild_serveReadAlerts (s : State) (count : Nat) : (serveReadAlerts count s).rebuild = s.rebuild := by
  unfold serveReadAlerts; dsimp only; split <;> simp

/-! ### What a command keeps -/

/-- The commands that change more than Kept allows: a setting, a window, the readiness state or the rebuild store, the ids of the
take table, or, at a reset, everything. -/
def Instr.reshapes : Instr → Bool
  | .deviceReset | .takeStart .. | .configureBank .. | .rebuild .. | .configureDevice .. | .settingsHold .. => true
  | .spareReadComplete .. | .operationTimeout .. => true
  | _ => false

/-- Every other command keeps what Kept names, and the rebuild store. -/
theorem exec_kept {s t : State} (i : Instr) (hi : Instr.reshapes i = false) (h : exec i s = .next t) :
    Kept s t ∧ t.rebuild = s.rebuild := by
  have keep : ∀ u : State, Kept s u → u.rebuild = s.rebuild → Host.Outcome.next (φ := Fault) (ρ := Refusal) u = .next t →
      Kept s t ∧ t.rebuild = s.rebuild := fun u hu hr e => Host.Outcome.next.inj e ▸ ⟨hu, hr⟩
  cases i with
  | deviceReset | takeStart | configureBank | rebuild | configureDevice | settingsHold | spareReadComplete | operationTimeout =>
    cases hi
  | linkUp l =>
    simp only [exec, execLinkUp] at h
    split at h
    · exact keep s (Kept.refl s) rfl h
    · refine keep _ ?_ ?_ h
      · cases l <;> simp [State.linkCame]
      · cases l <;> simp [State.linkCame]
  | linkDown l =>
    simp only [exec, execLinkDown] at h
    split at h
    · have hd := kept_setLink (Kept.refl s) l .reset
      refine keep _ (kept_settle ?_ _) ?_ h
      · cases l with
        | room r => exact kept_loseRoom hd r
        | station k => exact kept_loseStation hd k
        | supervisor => exact hd
      · cases l <;> simp [State.linkLost]
    · exact keep s (Kept.refl s) rfl h
  | droppedFrame l why => exact keep _ (kept_setLink (Kept.refl s) ..) (State.setLink_rebuild ..) h
  | unknownRequestKind l kind tag => exact keep _ (kept_reply (Kept.refl s) ..) (State.rebuild_reply ..) h
  | messageTransmitted l => exact keep _ (kept_setLink (Kept.refl s) ..) (State.setLink_rebuild ..) h
  | takeStop r tag body => exact kept_of_request h (fun _ _ hu => kept_serveTakeStop hu ..) fun _ _ => State.rebuild_serveTakeStop ..
  | readbackStart r tag body => exact kept_of_request h (fun _ _ hu => kept_serveReadbackStart hu ..) fun _ _ => State.rebuild_serveReadbackStart ..
  | readbackRead r tag body => exact kept_of_request h (fun _ _ hu => kept_serveReadbackRead hu ..) fun _ _ => State.rebuild_serveReadbackRead ..
  | readbackStop r tag body => exact kept_of_request h (fun _ _ hu => kept_serveReadbackStop hu ..) fun _ _ => State.rebuild_serveReadbackStop ..
  | mark r tag body => exact kept_of_request h (fun _ _ hu => kept_serveMark hu ..) fun _ _ => State.rebuild_serveMark ..
  | block r tag body => exact kept_of_request h (fun _ _ hu => kept_serveBlock hu ..) fun _ _ => State.rebuild_serveBlock ..
  | claim k tag body => exact kept_of_request h (fun _ _ hu => kept_serveClaim hu ..) fun _ _ => State.rebuild_serveClaim ..
  | read k tag body => exact kept_of_request h (fun _ _ hu => kept_serveRead hu ..) fun _ _ => State.rebuild_serveRead ..
  | pause k tag body => exact kept_of_request h (fun _ _ hu => kept_servePause hu ..) fun _ _ => State.rebuild_servePause ..
  | resume k tag body => exact kept_of_request h (fun _ _ hu => kept_serveResume hu ..) fun _ _ => State.rebuild_serveResume ..
  | seek k tag body => exact kept_of_request h (fun _ _ hu => kept_serveSeek hu ..) fun _ _ => State.rebuild_serveSeek ..
  | setPlayback k tag body => exact kept_of_request h (fun _ _ hu => kept_serveSetPlayback hu ..) fun _ _ => State.rebuild_serveSetPlayback ..
  | setStop k tag body => exact kept_of_request h (fun _ _ hu => kept_serveSetStop hu ..) fun _ _ => State.rebuild_serveSetStop ..
  | done k tag body => exact kept_of_request h (fun _ _ hu => kept_serveDone hu ..) fun _ _ => State.rebuild_serveDone ..
  | release k tag body => exact kept_of_request h (fun _ _ hu => kept_serveRelease hu ..) fun _ _ => State.rebuild_serveRelease ..
  | status k tag body => exact kept_of_request h (fun _ _ hu => kept_serveStatus hu ..) fun _ _ => State.rebuild_serveStatus ..
  | configureRoom tag body => exact kept_of_request h (fun _ _ hu => kept_serveConfigureRoom hu ..) fun _ _ => State.rebuild_serveConfigureRoom ..
  | configureStation tag body => exact kept_of_request h (fun _ _ hu => kept_serveConfigureStation hu ..) fun _ _ => State.rebuild_serveConfigureStation ..
  | setClass tag body => exact kept_of_request h (fun _ _ hu => kept_serveSetClass hu ..) fun _ _ => State.rebuild_serveSetClass ..
  | setHold tag body => exact kept_of_request h (fun _ _ hu => kept_serveSetHold hu ..) fun _ _ => State.rebuild_serveSetHold ..
  | releaseTake tag body => exact kept_of_request h (fun _ _ hu => kept_serveReleaseTake hu ..) fun _ _ => State.rebuild_serveReleaseTake ..
  | direct tag body => exact kept_of_request h (fun _ _ hu => kept_serveDirect hu ..) fun _ _ => State.rebuild_serveDirect ..
  | markTyped tag body => exact kept_of_request h (fun _ _ hu => kept_serveMarkTyped hu ..) fun _ _ => State.rebuild_serveMarkTyped ..
  | readAlerts tag body => exact kept_of_request h (fun _ _ hu => kept_serveReadAlerts hu ..) fun _ _ => State.rebuild_serveReadAlerts ..
  | queryTakes tag body => exact kept_of_request h (fun _ _ hu => kept_serveQueryTakes hu ..) fun _ _ => State.rebuild_serveQueryTakes ..
  | queryTake tag body => exact kept_of_request h (fun _ _ hu => kept_serveQueryTake hu ..) fun _ _ => State.rebuild_serveQueryTake ..
  | querySegments tag body => exact kept_of_request h (fun _ _ hu => kept_serveQuerySegments hu ..) fun _ _ => State.rebuild_serveQuerySegments ..
  | queryMarks tag body => exact kept_of_request h (fun _ _ hu => kept_serveQueryMarks hu ..) fun _ _ => State.rebuild_serveQueryMarks ..
  | queryStation tag body => exact kept_of_request h (fun _ _ hu => kept_serveQueryStation hu ..) fun _ _ => State.rebuild_serveQueryStation ..
  | queryReadback tag body => exact kept_of_request h (fun _ _ hu => kept_serveQueryReadback hu ..) fun _ _ => State.rebuild_serveQueryReadback ..
  | queryRoom tag body => exact kept_of_request h (fun _ _ hu => kept_serveQueryRoom hu ..) fun _ _ => State.rebuild_serveQueryRoom ..
  | queryQueue tag body => exact kept_of_request h (fun _ _ hu => kept_serveQueryQueue hu ..) fun _ _ => State.rebuild_serveQueryQueue ..
  | queryStore tag body => exact kept_of_request h (fun _ _ hu => kept_serveQueryStore hu ..) fun _ _ => State.rebuild_serveQueryStore ..
  | queryDevice tag body => exact kept_of_request h (fun _ _ hu => kept_answerFields hu ..) fun _ _ => State.rebuild_answerFields ..
  | cadenceExpiry r =>
    simp only [exec, execCadenceExpiry] at h
    split at h
    · have hp := kept_endPeriod (Kept.refl s) r
      exact keep _ (kept_settle (kept_ite (kept_sendCall hp r) hp) _) (by simp) h
    · exact keep s (Kept.refl s) rfl h
  | programComplete b result =>
    simp only [exec, execProgramComplete] at h
    split at h
    · split at h
      · exact keep _ (kept_settle (kept_programDone (kept_setBank (Kept.refl s) ..) ..) _) (by simp) h
      · exact keep s (Kept.refl s) rfl h
    · exact keep s (Kept.refl s) rfl h
  | pageReadComplete b page =>
    simp only [exec, execPageReadComplete] at h
    split at h
    · exact keep _ (kept_settle (kept_pageReadDone (kept_countPage (kept_setBank (Kept.refl s) ..) _) ..) _) (by simp) h
    · exact keep s (Kept.refl s) rfl h
  | eraseComplete b result =>
    simp only [exec, execEraseComplete] at h
    split at h
    · exact keep _ (kept_settle (kept_eraseDone (kept_setBank (Kept.refl s) ..) ..) _) (by simp) h
    · exact keep s (Kept.refl s) rfl h
  | chipResetReady b =>
    simp only [exec, execChipResetReady] at h
    split at h
    · exact keep _ (kept_settle (kept_setBank (Kept.refl s) ..) _) (by simp) h
    · exact keep s (Kept.refl s) rfl h
  -- RECALL, the one case left: its constructor's name is a Lean keyword, so that no alternative can name it.
  | _ => exact kept_of_request h (fun _ _ hu => kept_serveRecall hu ..) fun _ _ => State.rebuild_serveRecall ..

end Sys2Proof.Machine
end

section
/-! The commands that change more: the rebuild's stages, the end of a spare read, REBUILD and TAKE_START. -/

namespace Sys2Proof.Machine

/-! ### The forms of the memories, the alert list and the device settings -/

/-- The forms every step keeps. -/
def State.Forms (s : State) : Prop := s.memoryForm ∧ s.alertLimits ∧ s.deviceRanges

theorem Kept.forms {s t : State} (h : Kept s t) (f : s.Forms) : t.Forms := by
  obtain ⟨hmem, halerts, hlow, hhigh, hwater⟩ := f
  refine ⟨h.memory hmem, h.alerts halerts, ?_⟩
  rw [State.deviceRanges, h.threshold, h.lowWater]
  exact ⟨hlow, hhigh, hwater⟩

theorem forms_foldl {α : Type} {f : State → α → State} (hf : ∀ u x, u.Forms → (f u x).Forms) (xs : List α) {s : State} (h : s.Forms) :
    (xs.foldl f s).Forms := by
  induction xs generalizing s with
  | nil => exact h
  | cons x xs ih => exact ih (hf s x h)

/-! ### The stages of the rebuild -/

theorem kept_restoreMarks (take : Nat) (ms : List Mark) {s₀ s : State} (h : Kept s₀ s) : Kept s₀ (State.restoreMarks take ms s).1 := by
  induction ms generalizing s with
  | nil => exact h
  | cons m ms ih =>
    unfold State.restoreMarks
    split
    · exact ih (kept_addMark h ..)
    · exact ih h

theorem kept_restoreChainMarks {s₀ s : State} (h : Kept s₀ s) (c : Chain) : Kept s₀ (s.restoreChainMarks c) := by
  unfold State.restoreChainMarks
  split
  · exact h
  · rename_i t _
    have hm := kept_modTake (kept_restoreMarks t.id (c.marks t.length) h) t.id
      (f := fun x => { x with lostBlocks := min (lostOf x.marks) Config.max32 }) fun t => t.follows_refl
    exact kept_ite (kept_raise hm _) hm

theorem kept_restoreTakeSegments {s₀ s : State} (h : Kept s₀ s) (take : Nat) : Kept s₀ (s.restoreTakeSegments take) := by
  unfold State.restoreTakeSegments
  split
  · exact h
  · rename_i t _
    have hm := kept_modTake h take (f := fun x =>
      { x with
        segments := (restoreSegments t.length t.marks s.freeSegments 0 0).segments
        marks := (restoreSegments t.length t.marks s.freeSegments 0 0).marks }) fun t => t.follows_refl
    exact kept_ite (kept_makeTyped h _) (kept_ite (kept_raise hm _) hm)

theorem forms_restoreTake {s : State} (h : s.Forms) (c : Chain) : (s.restoreTake c).Forms := by
  unfold State.restoreTake
  split
  · exact h
  · rename_i t _
    have ht : ({ s with takes := insertTake (s.restoredTake c t) s.takes } : State).Forms := h
    dsimp only
    split
    · exact (kept_reportDamage (Kept.refl _) ..).forms ht
    · exact ht

/-- The rebuild's stages keep the forms. -/
theorem forms_finishRebuild {s : State} (h : s.Forms) (x : Rebuild) : (s.finishRebuild x).Forms := by
  unfold State.finishRebuild
  extract_lets scans ids chains u1 u2 u3 u4 u5 u6
  have h1 : u1.Forms := (kept_ite (kept_raise (Kept.refl s) _) (Kept.refl s)).forms h
  have h2 : u2.Forms := forms_foldl (fun _ c hu => forms_restoreTake hu c) chains h1
  have h3 : u3.Forms := forms_foldl (fun u c hu => (kept_restoreChainMarks (Kept.refl u) c).forms hu) chains h2
  have h4 : u4.Forms := forms_foldl (fun u n hu => (kept_restoreTakeSegments (Kept.refl u) n).forms hu) _ h3
  have h5 : u5.Forms := h4
  have h6 : u6.Forms := forms_foldl (fun u n hu => (kept_handOverTake (Kept.refl u) n).forms hu) _ h5
  have h7 : ({ u6 with readiness := .ready, rebuild := none } : State).Forms := h6
  exact (kept_engineKick (kept_drainReclaim (Kept.refl _))).forms h7

@[simp] theorem State.rebuild_finishRebuild (s : State) (x : Rebuild) : (s.finishRebuild x).rebuild = none := by
  simp [State.finishRebuild]

@[simp] theorem State.readiness_finishRebuild (s : State) (x : Rebuild) : (s.finishRebuild x).readiness = .ready :=
  (kept_engineKick (kept_drainReclaim (Kept.refl _))).readiness

/-! ### The scan -/

/-- A change of the rebuild store alone. -/
theorem kept_rebuild {s₀ s : State} (h : Kept s₀ s) (x : Option Rebuild) : Kept s₀ { s with rebuild := x } := kept_update h ..

theorem State.rebuild_beginScan_ne_none {s : State} (h : s.rebuild ≠ none) (n : Nat) : (s.beginScan n).rebuild ≠ none := by
  unfold State.beginScan
  split
  · assumption
  · simp

/-- The end of a unit's scan keeps all but the rebuild store, or finishes the rebuild. -/
theorem State.scanEnded_cases {s : State} (h : s.rebuild ≠ none) (b : BankId) (n : Nat) :
    Kept s (s.scanEnded b n) ∧ (s.scanEnded b n).rebuild ≠ none ∨ ∃ x, s.scanEnded b n = s.finishRebuild x := by
  unfold State.scanEnded
  split
  · rename_i x _ _
    split
    · exact .inl ⟨kept_beginScan (Kept.refl s) _, State.rebuild_beginScan_ne_none h _⟩
    · split
      · exact .inr ⟨x, rfl⟩
      · exact .inl ⟨Kept.refl s, h⟩
  · exact .inl ⟨Kept.refl s, h⟩

/-- A spare read's completion outside a rebuild changes nothing. -/
theorem State.scanPage_of_rebuild_none {s : State} (h : s.rebuild = none) (b : BankId) (n page : Nat)
    (r : Option (SectorResult × List Byte)) : s.scanPage b n page r = s := by
  simp [State.scanPage, h]

/-- A spare read's completion in a rebuild keeps all but the rebuild store, or finishes the rebuild. -/
theorem State.scanPage_cases {s : State} (h : s.rebuild ≠ none) (b : BankId) (n page : Nat) (r : Option (SectorResult × List Byte)) :
    Kept s (s.scanPage b n page r) ∧ (s.scanPage b n page r).rebuild ≠ none ∨
      ∃ u x, Kept s u ∧ s.scanPage b n page r = u.finishRebuild x := by
  have ended : ∀ y : Rebuild,
      Kept s (({ s with rebuild := some y } : State).scanEnded b n) ∧
          (({ s with rebuild := some y } : State).scanEnded b n).rebuild ≠ none ∨
        ∃ u x, Kept s u ∧ ({ s with rebuild := some y } : State).scanEnded b n = u.finishRebuild x := by
    intro y
    have hu := kept_rebuild (Kept.refl s) (some y)
    obtain ⟨hk, hr⟩ | ⟨x, e⟩ := State.scanEnded_cases (s := { s with rebuild := some y }) (by simp) b n
    · exact .inl ⟨hu.trans hk, hr⟩
    · exact .inr ⟨_, x, hu, e⟩
  obtain ⟨x, hx⟩ := Option.ne_none_iff_exists'.mp h
  simp only [State.scanPage, hx]
  split
  · exact ended _
  · split
    · exact ended _
    · exact .inl ⟨kept_requestOp (kept_rebuild (Kept.refl s) _) .., by simp⟩

/-! ### The commands with an effect of their own -/

/-- A command that ends with a page judged: a spare read's completion or timeout. -/
theorem exec_spareReadComplete_cases {s t : State} {b : BankId} {p : SpareRead} (h : exec (.spareReadComplete b p) s = .next t) :
    Kept s t ∧ t.rebuild = s.rebuild ∨ ∃ v n page r, Kept s v ∧ v.rebuild = s.rebuild ∧ t = State.settle s (v.scanPage b n page r) := by
  simp only [exec, execSpareReadComplete] at h
  split at h
  · refine .inr ⟨_, _, _, _, ?_, ?_, (Host.Outcome.next.inj h).symm⟩
    · exact kept_countWords (kept_setBank (Kept.refl s) ..) _
    · simp
  · exact .inl (Host.Outcome.next.inj h ▸ ⟨Kept.refl s, rfl⟩)

theorem exec_operationTimeout_cases {s t : State} {b : BankId} (h : exec (.operationTimeout b) s = .next t) :
    Kept s t ∧ t.rebuild = s.rebuild ∨ ∃ v n page r, Kept s v ∧ v.rebuild = s.rebuild ∧ t = State.settle s (v.scanPage b n page r) := by
  simp only [exec, execOperationTimeout] at h
  split at h
  · rename_i op u p _
    have hu : Kept s ((s.setBank b .resetting).countTimeout) := kept_countTimeout (kept_setBank (Kept.refl s) ..)
    obtain rfl := Host.Outcome.next.inj h
    cases hk : op.kind <;> dsimp only
    case captureProgram => exact .inl ⟨kept_settle (kept_programDone hu ..) _, by simp⟩
    case copyProgram => exact .inl ⟨kept_settle (kept_programDone hu ..) _, by simp⟩
    case pageRead => exact .inl ⟨kept_settle (kept_pageReadDone (kept_useFree hu) ..) _, by simp⟩
    case spareRead => exact .inr ⟨_, _, _, _, hu, by simp, rfl⟩
    case erase => exact .inl ⟨kept_settle (kept_eraseDone hu ..) _, by simp⟩
  · exact .inl (Host.Outcome.next.inj h ▸ ⟨Kept.refl s, rfl⟩)

/-- The beginning of a rebuild, past the change of the readiness state. -/
theorem serveRebuild_cases (s : State) :
    serveRebuild s = s.answer .supervisor .refused ∨
      s.readiness = .notReady ∧ (∃ b w, s.windows[(b : BankId)] = some w) ∧ (serveRebuild s).rebuild ≠ none ∧
        Kept { s with readiness := .rebuilding } (serveRebuild s) := by
  unfold serveRebuild
  extract_lets ws u v
  split
  · exact .inl rfl
  · rename_i hc
    obtain ⟨hn, hw⟩ := not_or.mp hc
    refine .inr ⟨Decidable.not_not.mp hn, ?_, ?_, ?_⟩
    · obtain ⟨w, hmem⟩ := List.exists_mem_of_ne_nil ws hw
      obtain ⟨b, -, hb⟩ := List.mem_filterMap.mp hmem
      exact ⟨b, w, hb⟩
    · have begun : ∀ (ws : List Window) (q : State), q.rebuild ≠ none → (ws.foldl (fun q w => q.beginScan w.base) q).rebuild ≠ none := by
        intro ws
        induction ws with
        | nil => exact fun _ h => h
        | cons w ws ih => exact fun q h => ih _ (State.rebuild_beginScan_ne_none h _)
      rw [State.rebuild_settle]
      exact begun ws v (by simp [v, u])
    · have hu : Kept { s with readiness := .rebuilding } u := kept_update (Kept.refl _) ..
      exact kept_settle (kept_foldl _ (fun _ w hq => kept_beginScan hq w.base) (kept_answerFields hu ..) _) _

/-- A TAKE_START keeps what Kept names, from the state in which its take has been created. -/
theorem serveTakeStart_cases (r : RoomId) (x : TakeStartArgs) (s : State) :
    Kept s (serveTakeStart r x s) ∨
      s.takes.length < 256 ∧ Kept (s.createTake (newTake s.newTakeId r (s.room r).active x)) (serveTakeStart r x s) := by
  unfold serveTakeStart
  split
  · exact .inl (kept_answer (Kept.refl s) ..)
  · split
    · exact .inl (kept_answer (kept_raise (Kept.refl s) _) ..)
    · rename_i hlen
      split
      · exact .inl (kept_answer (kept_raise (Kept.refl s) _) ..)
      · refine .inr ⟨Nat.lt_of_not_le hlen, kept_settle ?_ _⟩
        split
        · exact kept_sendCall (kept_setRoom (kept_answerFields (kept_obtainFilling (kept_beginRecording (Kept.refl _) ..) _) ..) ..) _
        · exact kept_answerFields (kept_obtainFilling (kept_beginRecording (Kept.refl _) ..) _) ..

@[simp] theorem State.rebuild_serveTakeStart (r : RoomId) (x : TakeStartArgs) (s : State) :
    (serveTakeStart r x s).rebuild = s.rebuild := by
  unfold serveTakeStart State.createTake
  dsimp only
  (repeat' split) <;> simp

@[simp] theorem State.rebuild_serveConfigureBank (a : ConfigureBankArgs) (s : State) : (serveConfigureBank a s).rebuild = s.rebuild := by
  unfold serveConfigureBank State.removeWindow State.addWindow
  dsimp only
  (repeat' split) <;> simp

@[simp] theorem State.rebuild_serveConfigureDevice (a : ConfigureDeviceArgs) (s : State) :
    (serveConfigureDevice a s).rebuild = s.rebuild := by
  simp [serveConfigureDevice]

@[simp] theorem State.rebuild_serveSettingsHold (x : Bool) (s : State) : (serveSettingsHold x s).rebuild = s.rebuild := by
  unfold serveSettingsHold
  dsimp only
  (repeat' split) <;> simp

end Sys2Proof.Machine
end

section
/-! The invariants of every step: the forms, the readiness state and the identity of takes. -/

namespace Sys2Proof.Machine

/-! ### The forms of every step -/

theorem clampNat_le (lo hi n : Nat) : clampNat lo hi n ≤ hi := Nat.min_le_right ..

theorem le_clampNat {lo hi : Nat} (h : lo ≤ hi) (n : Nat) : lo ≤ clampNat lo hi n := Nat.le_min.mpr ⟨Nat.le_max_right .., h⟩

theorem forms_answer {s : State} (h : s.Forms) (l : LinkId) (st : Status) (ind : Indications) (body : List Byte) :
    (s.answer l st ind body).Forms :=
  (kept_answer (Kept.refl s) ..).forms h

theorem forms_serveConfigureDevice {s : State} (h : s.Forms) (a : ConfigureDeviceArgs) : (serveConfigureDevice a s).Forms := by
  obtain ⟨hmem, halerts, hlow, hhigh, hwater⟩ := h
  refine (kept_answerFields (Kept.refl _) ..).forms ⟨hmem, halerts, ?_, ?_, ?_⟩
  · cases a.threshold with
    | none => exact hlow
    | some n => exact le_clampNat (by decide) n
  · cases a.threshold with
    | none => exact hhigh
    | some n => exact clampNat_le ..
  · cases a.lowWater with
    | none => exact hwater
    | some n => exact clampNat_le ..

/-- CONFIGURE_BANK changes the windows and the unit table, and answers. -/
theorem serveConfigureBank_cases (a : ConfigureBankArgs) (s : State) :
    ∃ ws us rf st ind body, serveConfigureBank a s =
      ({ s with windows := ws, units := us, reclaimFifo := rf } : State).answer .supervisor st ind body := by
  have removed : ∀ b, ∃ ws us rf, s.removeWindow b = { s with windows := ws, units := us, reclaimFifo := rf } := by
    intro b
    unfold State.removeWindow
    split
    · exact ⟨_, _, _, rfl⟩
    · exact ⟨_, _, _, rfl⟩
  unfold serveConfigureBank
  split
  · rename_i hb
    obtain ⟨ws, us, rf, e⟩ := removed ⟨a.bank, hb⟩
    dsimp only
    split
    · exact ⟨s.windows, s.units, s.reclaimFifo, _, _, _, rfl⟩
    · split
      · exact ⟨s.windows, s.units, s.reclaimFifo, _, _, _, rfl⟩
      · rw [e]
        split
        · exact ⟨_, _, _, _, _, _, rfl⟩
        · exact ⟨ws, us, rf, _, _, _, rfl⟩
  · exact ⟨s.windows, s.units, s.reclaimFifo, _, _, _, rfl⟩

/-- SETTINGS_HOLD changes the rooms and the hold, and answers. -/
theorem serveSettingsHold_cases (x : Bool) (s : State) :
    ∃ rooms hold st ind body, serveSettingsHold x s =
      ({ s with rooms := rooms, settingsHold := hold } : State).answer .supervisor st ind body := by
  unfold serveSettingsHold
  split
  · exact ⟨s.rooms, true, _, _, _, rfl⟩
  · dsimp only
    split
    · exact ⟨_, false, _, _, _, rfl⟩
    · exact ⟨s.rooms, s.settingsHold, _, _, _, rfl⟩

theorem forms_serveConfigureBank {s : State} (h : s.Forms) (a : ConfigureBankArgs) : (serveConfigureBank a s).Forms := by
  obtain ⟨ws, us, rf, st, ind, body, e⟩ := serveConfigureBank_cases a s
  rw [e]
  exact (kept_answer (Kept.refl _) ..).forms h

theorem forms_serveSettingsHold {s : State} (h : s.Forms) (x : Bool) : (serveSettingsHold x s).Forms := by
  obtain ⟨rooms, hold, st, ind, body, e⟩ := serveSettingsHold_cases x s
  rw [e]
  exact (kept_answer (Kept.refl _) ..).forms h

theorem forms_serveRebuild {s : State} (h : s.Forms) : (serveRebuild s).Forms := by
  obtain e | ⟨-, -, -, hk⟩ := serveRebuild_cases s
  · exact e ▸ forms_answer h ..
  · exact hk.forms h

theorem forms_createTake {s : State} (h : s.Forms) (t : Take) : (s.createTake t).Forms := by
  have ht : ({ s with takes := insertTake t s.takes, lastId := t.id } : State).Forms := h
  unfold State.createTake
  dsimp only
  split
  · exact (kept_handOver (Kept.refl _) _).forms ht
  · exact ht

theorem forms_serveTakeStart {s : State} (h : s.Forms) (r : RoomId) (x : TakeStartArgs) : (serveTakeStart r x s).Forms := by
  obtain hk | ⟨-, hk⟩ := serveTakeStart_cases r x s
  · exact hk.forms h
  · exact hk.forms (forms_createTake h _)

theorem forms_scanPage {s : State} (h : s.Forms) (b : BankId) (n page : Nat) (r : Option (SectorResult × List Byte)) :
    (s.scanPage b n page r).Forms := by
  by_cases hr : s.rebuild = none
  · rwa [State.scanPage_of_rebuild_none hr]
  · obtain ⟨hk, -⟩ | ⟨u, x, hk, e⟩ := State.scanPage_cases hr b n page r
    · exact hk.forms h
    · exact e ▸ forms_finishRebuild (hk.forms h) x

/-- A device reset keeps the forms: the memories' cells change by the interrupted operations alone. -/
theorem forms_deviceReset {s t : State} (h : s.Forms) (e : exec .deviceReset s = .next t) : t.Forms := by
  obtain rfl := Host.Outcome.next.inj e
  have hf := (kept_foldl State.interrupt (fun _ b hu => kept_interrupt hu b) (Kept.refl s) allBanks).forms h
  obtain ⟨⟨hram, -⟩, -, -⟩ := h
  obtain ⟨⟨-, hflash⟩, -, -⟩ := hf
  have hreset : State.reset.alertLimits ∧ State.reset.deviceRanges := by decide
  exact ⟨⟨hram, hflash⟩, hreset⟩

/-- Serving a request keeps the forms where the request's block does. -/
theorem forms_of_request {s t : State} {α : Type} {l : LinkId} {kind : Nat} {tag : Byte} {g : Group} {args : Option α}
    {f : α → State → State} (h : Host.Outcome.next (φ := Fault) (ρ := Refusal) (s.request l kind tag g args f) = .next t)
    (hs : s.Forms) (hf : ∀ a {u : State}, u.Forms → (f a u).Forms) : t.Forms := by
  obtain rfl := Host.Outcome.next.inj h
  obtain e | ⟨st, e⟩ | ⟨a, -, -, -, e⟩ := s.request_cases l kind tag g args f <;> rw [e]
  · exact hs
  · exact (kept_reply (Kept.refl s) ..).forms hs
  · exact hf a ((kept_taken (Kept.refl s) ..).forms hs)

/-- Every command keeps the forms. -/
theorem exec_forms {s t : State} (i : Instr) (hs : s.Forms) (h : exec i s = .next t) : t.Forms := by
  cases hi : Instr.reshapes i with
  | false => exact (exec_kept i hi h).1.forms hs
  | true =>
    cases i with
    | deviceReset => exact forms_deviceReset hs h
    | takeStart r tag body => exact forms_of_request h hs fun x _ hu => forms_serveTakeStart hu r x
    | configureBank tag body => exact forms_of_request h hs fun a _ hu => forms_serveConfigureBank hu a
    | rebuild tag body => exact forms_of_request h hs fun _ _ hu => forms_serveRebuild hu
    | configureDevice tag body => exact forms_of_request h hs fun a _ hu => forms_serveConfigureDevice hu a
    | settingsHold tag body => exact forms_of_request h hs fun x _ hu => forms_serveSettingsHold hu x
    | spareReadComplete b p =>
      obtain ⟨hk, -⟩ | ⟨v, n, page, r, hk, -, rfl⟩ := exec_spareReadComplete_cases h
      · exact hk.forms hs
      · exact (kept_settle (Kept.refl _) s).forms (forms_scanPage (hk.forms hs) ..)
    | operationTimeout b =>
      obtain ⟨hk, -⟩ | ⟨v, n, page, r, hk, -, rfl⟩ := exec_operationTimeout_cases h
      · exact hk.forms hs
      · exact (kept_settle (Kept.refl _) s).forms (forms_scanPage (hk.forms hs) ..)
    | _ => cases hi

/-- A step is the command at the front with the queue's rest, or a tick of the clock. -/
theorem step_cases {s t : State} (h : step s = .next t) :
    s.pending = [] ∧ t = { s with clock := s.clock + 1 } ∨
      ∃ c rest, s.pending = c :: rest ∧ exec c { s with pending := rest } = .next t := by
  unfold step at h
  split at h
  · rename_i hp
    exact .inl ⟨hp, (Host.Outcome.next.inj h).symm⟩
  · rename_i c rest hp
    exact .inr ⟨c, rest, hp, h⟩

/-- Settles O8: every command keeps the forms, and so does a tick of the clock. -/
theorem stepKeepsForms : Obligations.StepKeepsForms := by
  intro s t hmem halerts hdev h
  have hs : s.Forms := ⟨hmem, halerts, hdev⟩
  obtain ⟨-, rfl⟩ | ⟨c, rest, -, hc⟩ := step_cases h
  · exact hs
  · exact exec_forms (s := { s with pending := rest }) c hs hc

/-- Settles O9: the reset state lists no cell, no alert and no rebuild. -/
theorem resetHasForms : Obligations.ResetHasForms := by
  refine ⟨⟨rfl, rfl⟩, by decide, by decide, ?_⟩
  exact ⟨fun h => absurd rfl h, fun h => by cases h⟩

/-! ### Readiness -/

/-- The readiness state and the rebuild store are as before. -/
def State.SameReadiness (s t : State) : Prop := t.readiness = s.readiness ∧ t.rebuild = s.rebuild

theorem State.SameReadiness.agrees {s t : State} (h : s.SameReadiness t) (hs : s.rebuildAgrees) : t.rebuildAgrees := by
  rw [State.rebuildAgrees, h.1, h.2]
  exact hs

/-- Serving a request leaves the readiness state where the request's block does. -/
theorem sameReadiness_of_request {s t : State} {α : Type} {l : LinkId} {kind : Nat} {tag : Byte} {g : Group} {args : Option α}
    {f : α → State → State} (h : Host.Outcome.next (φ := Fault) (ρ := Refusal) (s.request l kind tag g args f) = .next t)
    (hf : ∀ a u, (f a u).readiness = u.readiness) (hr : ∀ a u, (f a u).rebuild = u.rebuild) : s.SameReadiness t := by
  obtain rfl := Host.Outcome.next.inj h
  obtain e | ⟨st, e⟩ | ⟨a, -, -, -, e⟩ := s.request_cases l kind tag g args f <;> rw [e]
  · exact ⟨rfl, rfl⟩
  · exact ⟨(kept_reply (Kept.refl s) ..).readiness, State.rebuild_reply ..⟩
  · exact ⟨(hf ..).trans (kept_taken (Kept.refl s) ..).readiness, (hr ..).trans (State.rebuild_taken ..)⟩

theorem readiness_serveTakeStart (r : RoomId) (x : TakeStartArgs) (s : State) : (serveTakeStart r x s).readiness = s.readiness := by
  obtain hk | ⟨-, hk⟩ := serveTakeStart_cases r x s
  · exact hk.readiness
  · rw [hk.readiness]
    unfold State.createTake
    dsimp only
    split
    · exact (kept_handOver (Kept.refl _) _).readiness
    · rfl

theorem readiness_serveConfigureBank (a : ConfigureBankArgs) (s : State) : (serveConfigureBank a s).readiness = s.readiness := by
  obtain ⟨ws, us, rf, st, ind, body, e⟩ := serveConfigureBank_cases a s
  rw [e]
  exact (kept_answer (Kept.refl _) ..).readiness

theorem readiness_serveSettingsHold (x : Bool) (s : State) : (serveSettingsHold x s).readiness = s.readiness := by
  obtain ⟨rooms, hold, st, ind, body, e⟩ := serveSettingsHold_cases x s
  rw [e]
  exact (kept_answer (Kept.refl _) ..).readiness

theorem readiness_serveConfigureDevice (a : ConfigureDeviceArgs) (s : State) :
    (serveConfigureDevice a s).readiness = s.readiness :=
  (kept_answerFields (Kept.refl _) ..).readiness

/-- What a command does to the readiness state, and by which command it moves (R172, R173, R180). -/
inductive ReadinessMove (s t : State) : Instr → Prop
  | stays (i : Instr) (h : s.SameReadiness t) : ReadinessMove s t i
  | reset (h : t.readiness = .notReady ∧ t.rebuild = none) : ReadinessMove s t .deviceReset
  | begins (tag : Byte) (body : List Byte) (hs : s.readiness = .notReady) (ht : t.readiness = .rebuilding) (hr : t.rebuild ≠ none)
      (hw : ∃ b w, s.windows[(b : BankId)] = some w) : ReadinessMove s t (.rebuild tag body)
  | scans (i : Instr) (hs : s.rebuild ≠ none) (ht : t.readiness = s.readiness) (hr : t.rebuild ≠ none) : ReadinessMove s t i
  | ends (i : Instr) (hi : ∃ b, (∃ p, i = .spareReadComplete b p) ∨ i = .operationTimeout b) (hs : s.rebuild ≠ none)
      (ht : t.readiness = .ready) (hr : t.rebuild = none) : ReadinessMove s t i

/-- The end of a spare read: the scan goes on, or the rebuild is finished. -/
theorem readinessMove_scanPage {s v : State} (i : Instr) (hi : ∃ b, (∃ p, i = .spareReadComplete b p) ∨ i = .operationTimeout b)
    (hk : Kept s v) (hv : v.rebuild = s.rebuild) (b : BankId) (n page : Nat) (r : Option (SectorResult × List Byte)) :
    ReadinessMove s (State.settle s (v.scanPage b n page r)) i := by
  have settled : ∀ u : State, (State.settle s u).readiness = u.readiness := fun u => (kept_settle (Kept.refl u) s).readiness
  by_cases hr : v.rebuild = none
  · rw [State.scanPage_of_rebuild_none hr]
    exact .stays i ⟨(settled v).trans hk.readiness, (State.rebuild_settle ..).trans hv⟩
  · obtain ⟨hp, hn⟩ | ⟨u, x, -, e⟩ := State.scanPage_cases hr b n page r
    · exact .scans i (hv ▸ hr) ((settled _).trans (hk.trans hp).readiness) (by rwa [State.rebuild_settle])
    · rw [e]
      exact .ends i hi (hv ▸ hr) ((settled _).trans (State.readiness_finishRebuild ..)) (by simp)

theorem exec_readinessMove {s t : State} (i : Instr) (h : exec i s = .next t) : ReadinessMove s t i := by
  cases hi : Instr.reshapes i with
  | false => exact .stays i ⟨(exec_kept i hi h).1.readiness, (exec_kept i hi h).2⟩
  | true =>
    cases i with
    | deviceReset =>
      obtain rfl := Host.Outcome.next.inj h
      exact .reset ⟨rfl, rfl⟩
    | takeStart r tag body =>
      exact .stays _ (sameReadiness_of_request h (fun x u => readiness_serveTakeStart r x u) fun x u => State.rebuild_serveTakeStart r x u)
    | configureBank tag body =>
      exact .stays _ (sameReadiness_of_request h readiness_serveConfigureBank State.rebuild_serveConfigureBank)
    | configureDevice tag body =>
      exact .stays _ (sameReadiness_of_request h readiness_serveConfigureDevice State.rebuild_serveConfigureDevice)
    | settingsHold tag body =>
      exact .stays _ (sameReadiness_of_request h readiness_serveSettingsHold State.rebuild_serveSettingsHold)
    | rebuild tag body =>
      obtain rfl := Host.Outcome.next.inj h
      obtain e | ⟨st, e⟩ | ⟨a, -, -, -, e⟩ :=
        s.request_cases .supervisor 0x41 tag .always (parseNone body) (fun _ => serveRebuild) <;> rw [e]
      · exact .stays _ ⟨rfl, rfl⟩
      · exact .stays _ ⟨(kept_reply (Kept.refl s) ..).readiness, State.rebuild_reply ..⟩
      · obtain e | ⟨hn, hw, hr, hk⟩ := serveRebuild_cases (s.taken .supervisor 0x41 tag)
        · rw [e, State.answer_taken]
          exact .stays _ ⟨State.setLink_readiness .., State.setLink_rebuild ..⟩
        · exact .begins tag body hn hk.readiness hr hw
    | spareReadComplete b p =>
      obtain ⟨hk, hr⟩ | ⟨v, n, page, r, hk, hv, rfl⟩ := exec_spareReadComplete_cases h
      · exact .stays _ ⟨hk.readiness, hr⟩
      · exact readinessMove_scanPage _ ⟨b, .inl ⟨p, rfl⟩⟩ hk hv ..
    | operationTimeout b =>
      obtain ⟨hk, hr⟩ | ⟨v, n, page, r, hk, hv, rfl⟩ := exec_operationTimeout_cases h
      · exact .stays _ ⟨hk.readiness, hr⟩
      · exact readinessMove_scanPage _ ⟨b, .inr rfl⟩ hk hv ..
    | _ => cases hi

/-- Settles O10: the command that runs decides whether the readiness state moves, and the rebuild store goes with it. -/
theorem readinessMoves : Obligations.ReadinessMoves := by
  intro s t hs h
  obtain ⟨-, rfl⟩ | ⟨c, rest, hp, hc⟩ := step_cases h
  · exact ⟨hs, .inl, .inl, .inl⟩
  rw [hp]
  cases exec_readinessMove c hc with
  | stays _ hsame =>
    obtain ⟨hr, hb⟩ := hsame
    exact ⟨State.SameReadiness.agrees (s := s) ⟨hr, hb⟩ hs, fun e => .inl (hr.trans e), fun e => .inl (hr.trans e), fun e => .inl (hr.trans e)⟩
  | reset ht =>
    obtain ⟨hr, hb⟩ := ht
    refine ⟨⟨fun h => absurd hb h, fun h => ?_⟩, fun _ => .inr ⟨hr, rfl⟩, fun _ => .inl hr, fun _ => .inr (.inr ⟨hr, rfl⟩)⟩
    rw [hr] at h; cases h
  | begins tag body hn hr hb hw =>
    refine ⟨⟨fun _ => hr, fun _ => hb⟩, fun e => ?_, fun _ => .inr ⟨hr, ⟨tag, body, rfl⟩, hw⟩, fun _ => .inl hr⟩
    exact absurd (e.symm.trans hn) (by decide)
  | scans _ hb hr hb' =>
    have he : s.readiness = .rebuilding := hs.mp hb
    have ht : t.readiness = .rebuilding := hr.trans he
    refine ⟨⟨fun _ => ht, fun _ => hb'⟩, fun e => ?_, fun e => ?_, fun _ => .inl ht⟩
    · exact absurd (e.symm.trans he) (by decide)
    · exact absurd (e.symm.trans he) (by decide)
  | ends _ hi hb hr hb' =>
    have he : s.readiness = .rebuilding := hs.mp hb
    refine ⟨⟨fun h => absurd hb' h, fun h => ?_⟩, fun _ => .inl hr, fun e => ?_, fun _ => .inr (.inl ⟨hr, ?_⟩)⟩
    · exact absurd (hr.symm.trans h) (by decide)
    · exact absurd (e.symm.trans he) (by decide)
    · obtain ⟨b, ⟨p, rfl⟩ | rfl⟩ := hi
      · exact ⟨b, .inl ⟨p, rfl⟩⟩
      · exact ⟨b, .inr rfl⟩

/-! ### The identity of takes -/

/-- Every take record follows one of those before. -/
def State.TakesFollow (s t : State) : Prop := ∀ b ∈ t.takes, ∃ a ∈ s.takes, b.follows a

theorem takesFollow_of_eq {s t : State} (h : t.takes = s.takes) : s.TakesFollow t := fun b hb => ⟨b, h ▸ hb, b.follows_refl⟩

/-- Serving a request gives takes that follow those before where the request's block does. -/
theorem takesFollow_of_request {s t : State} {α : Type} {l : LinkId} {kind : Nat} {tag : Byte} {g : Group} {args : Option α}
    {f : α → State → State} (h : Host.Outcome.next (φ := Fault) (ρ := Refusal) (s.request l kind tag g args f) = .next t)
    (hf : ∀ a (u : State), u.TakesFollow (f a u)) : s.TakesFollow t := by
  obtain rfl := Host.Outcome.next.inj h
  obtain e | ⟨st, e⟩ | ⟨a, -, -, -, e⟩ := s.request_cases l kind tag g args f <;> rw [e]
  · exact takesFollow_of_eq rfl
  · exact (kept_reply (Kept.refl s) ..).takes
  · have hu := hf a (s.taken l kind tag)
    rwa [State.TakesFollow, State.taken, State.setLink_takes] at hu

/-- An issue changes the banks, the pending operations and the page buffers alone. -/
theorem State.issueSome_eq (n : Nat) (s : State) :
    ∃ banks ops ram bufs, State.issueSome n s = { s with banks := banks, flashOps := ops, ram := ram, buffers := bufs } := by
  induction n generalizing s with
  | zero => exact ⟨_, _, _, _, rfl⟩
  | succ n ih =>
    have one : ∀ x, ∃ banks ops ram bufs, s.issueOp x = { s with banks := banks, flashOps := ops, ram := ram, buffers := bufs } := by
      rintro ⟨⟨cls, number, kind⟩, bank, unit, page⟩
      cases kind <;> exact ⟨_, _, _, _, rfl⟩
    unfold State.issueSome
    split
    · exact ⟨_, _, _, _, rfl⟩
    · rename_i x _
      obtain ⟨b1, o1, r1, f1, e1⟩ := one x
      obtain ⟨b2, o2, r2, f2, e2⟩ := ih (s.issueOp x)
      exact ⟨b2, o2, r2, f2, by rw [e2, e1]⟩

@[simp] theorem State.takes_issue (s : State) : s.issue.takes = s.takes := by
  obtain ⟨_, _, _, _, e⟩ := State.issueSome_eq 4 s
  rw [State.issue, e]

@[simp] theorem State.takes_raise (s : State) (a : Alert) : (s.raise a).takes = s.takes := by
  unfold State.raise
  split <;> rfl

@[simp] theorem State.takes_settle (before s : State) : (State.settle before s).takes = s.takes := by
  unfold State.settle State.rushCheck
  (repeat' split) <;> simp

@[simp] theorem State.takes_send (s : State) (l : LinkId) (m : Message) : (s.send l m).takes = s.takes := by
  unfold State.send
  dsimp only
  split <;> simp

@[simp] theorem State.takes_answer (s : State) (l : LinkId) (st : Status) (ind : Indications) (body : List Byte) :
    (s.answer l st ind body).takes = s.takes := by
  unfold State.answer
  dsimp only
  split <;> simp

/-- A room without a take or a filled run reports none. -/
theorem State.reportFilledRun_of_none {s : State} {r : RoomId} (h : (s.room r).filledRun = none) : s.reportFilledRun r = s := by
  unfold State.reportFilledRun
  split
  · rename_i e; rw [h] at e; cases e
  · rfl

/-- The first FILLING buffer of a take, or DROPPING for want of one, leaves the take table alone. -/
theorem State.takes_obtainFilling {s : State} {r : RoomId} (h : (s.room r).filledRun = none) : (s.obtainFilling r).takes = s.takes := by
  unfold State.obtainFilling
  split
  · rfl
  · split
    · rfl
    · simp [State.enterDropping, State.reportFilledRun_of_none h]

/-- A TAKE_START leaves the take table alone, or creates a take. -/
theorem serveTakeStart_takes (r : RoomId) (x : TakeStartArgs) (s : State) :
    (serveTakeStart r x s).takes = s.takes ∨
      s.takes.length < 256 ∧ (serveTakeStart r x s).takes = (s.createTake (newTake s.newTakeId r (s.room r).active x)).takes := by
  unfold serveTakeStart
  split
  · exact .inl (by simp)
  · split
    · exact .inl (by simp)
    · rename_i hlen
      split
      · exact .inl (by simp)
      · refine .inr ⟨Nat.lt_of_not_le hlen, ?_⟩
        have hb : ∀ (u : State) n, ((u.beginRecording r n).obtainFilling r).takes = u.takes := fun u n =>
          State.takes_obtainFilling (by simp [State.beginRecording])
        dsimp only
        split <;> simp [State.sendCall, State.notify, State.answerFields, hb]

/-- A record after an enqueue follows one before, and its length is the same. -/
theorem State.enqueue_takes {s : State} {y : SegRef} {band : Nat} {b : Take} (h : b ∈ (s.enqueue y band).takes) :
    ∃ a ∈ s.takes, b.follows a ∧ b.length = a.length := by
  have modified : ∀ {u : State} {f : Segment → Segment} {b : Take}, b ∈ (u.modSegment y f).takes →
      ∃ a ∈ u.takes, b.follows a ∧ b.length = a.length := by
    intro u f b hb
    obtain ⟨a, ha, rfl⟩ := List.mem_map.mp hb
    refine ⟨a, ha, ?_⟩
    split
    · exact ⟨a.modSegment_follows .., rfl⟩
    · exact ⟨a.follows_refl, rfl⟩
  unfold State.enqueue at h
  split at h
  · obtain ⟨c, hc, hbc, hlen⟩ := modified h
    obtain ⟨a, ha, rfl⟩ := List.mem_map.mp hc
    exact ⟨a, ha, hbc, hlen⟩
  · exact modified h

theorem mem_insertTake {t b : Take} {ts : List Take} : b ∈ insertTake t ts ↔ b = t ∨ b ∈ ts := by
  rw [(insertTake_perm t ts).mem_iff, List.mem_cons]

/-- The take a TAKE_START creates is of length 0 under an id of 1 to 65535 that no record held (R3, R4). -/
def State.NewRecord (s : State) (r : RoomId) (b : Take) : Prop :=
  b.room = r ∧ b.length = 0 ∧ 1 ≤ b.id ∧ b.id ≤ 65535 ∧ ∀ a ∈ s.takes, a.id ≠ b.id

/-- The new id is none of the table's and lies in 1 to 65535, whatever the id assigned last. -/
theorem State.newRecord_newTake {s : State} (hlen : s.takes.length < 256) (r : RoomId) (x : TakeStartArgs) :
    s.NewRecord r (newTake s.newTakeId r (s.room r).active x) := by
  obtain ⟨k, -, heq, -, -⟩ := s.newTakeId_first_free hlen
  have hmem := s.newTakeId_notMem hlen
  refine ⟨rfl, rfl, ?_, ?_, fun a ha hid => hmem (List.mem_map.mpr ⟨a, ha, hid⟩)⟩
  · show 1 ≤ s.newTakeId
    rw [heq, takeCandidate]; omega
  · show s.newTakeId ≤ 65535
    rw [heq, takeCandidate]; omega

/-- The records after a TAKE_START. -/
theorem mem_serveTakeStart_takes {r : RoomId} {x : TakeStartArgs} {s : State} {b : Take} (h : b ∈ (serveTakeStart r x s).takes) :
    (∃ a ∈ s.takes, b.follows a) ∨ s.NewRecord r b := by
  obtain e | ⟨hlen, e⟩ := serveTakeStart_takes r x s <;> rw [e] at h
  · exact .inl ⟨b, h, b.follows_refl⟩
  · have created : ∃ a ∈ insertTake (newTake s.newTakeId r (s.room r).active x) s.takes, b.follows a ∧ b.length = a.length := by
      unfold State.createTake at h
      dsimp only at h
      split at h
      · exact State.enqueue_takes h
      · exact ⟨b, h, b.follows_refl, rfl⟩
    obtain ⟨a, ha, hf, hblen⟩ := created
    obtain rfl | ha := mem_insertTake.mp ha
    · obtain ⟨hroom, hzero, hlow, hhigh, hfree⟩ := State.newRecord_newTake hlen r x
      obtain ⟨hid, hr, -⟩ := hf
      exact .inr ⟨hr.trans hroom, hblen.trans hzero, hid ▸ hlow, hid ▸ hhigh, hid ▸ hfree⟩
    · exact .inl ⟨a, ha, hf⟩

/-- Outside a rebuild a command's takes follow those before, or are a TAKE_START's new record. -/
theorem exec_takes {s t : State} (i : Instr) (hr : s.rebuild = none) (h : exec i s = .next t) :
    s.TakesFollow t ∨ ∃ r tag body, i = .takeStart r tag body ∧ ∀ b ∈ t.takes, (∃ a ∈ s.takes, b.follows a) ∨ s.NewRecord r b := by
  cases hi : Instr.reshapes i with
  | false => exact .inl (exec_kept i hi h).1.takes
  | true =>
    cases i with
    | deviceReset =>
      obtain rfl := Host.Outcome.next.inj h
      exact .inl fun b hb => by cases hb
    | takeStart r tag body =>
      obtain rfl := Host.Outcome.next.inj h
      refine .inr ⟨r, tag, body, rfl, fun b hb => ?_⟩
      obtain e | ⟨st, e⟩ | ⟨a, -, -, -, e⟩ :=
        s.request_cases (.room r) 0x10 tag .readyOnly (parseTakeStart body) (serveTakeStart r) <;> rw [e] at hb
      · exact .inl ⟨b, hb, b.follows_refl⟩
      · exact .inl ((kept_reply (Kept.refl s) ..).takes b hb)
      · have hu := mem_serveTakeStart_takes hb
        rwa [State.NewRecord, State.taken, State.setLink_takes] at hu
    | configureBank tag body =>
      refine .inl (takesFollow_of_request h fun a u => takesFollow_of_eq ?_)
      obtain ⟨ws, us, rf, st, ind, body, e⟩ := serveConfigureBank_cases a u
      rw [e, State.takes_answer]
    | configureDevice tag body => exact .inl (takesFollow_of_request h fun a u => takesFollow_of_eq (State.takes_answer ..))
    | settingsHold tag body =>
      refine .inl (takesFollow_of_request h fun a u => takesFollow_of_eq ?_)
      obtain ⟨rooms, hold, st, ind, body, e⟩ := serveSettingsHold_cases a u
      rw [e, State.takes_answer]
    | rebuild tag body =>
      refine .inl (takesFollow_of_request h fun _ u => ?_)
      obtain e | ⟨-, -, -, hk⟩ := serveRebuild_cases u
      · exact e ▸ takesFollow_of_eq (State.takes_answer ..)
      · exact hk.takes
    | spareReadComplete b p =>
      obtain ⟨hk, -⟩ | ⟨v, n, page, r, hk, hv, rfl⟩ := exec_spareReadComplete_cases h
      · exact .inl hk.takes
      · rw [State.scanPage_of_rebuild_none (hv.trans hr)]
        exact .inl (kept_settle hk s).takes
    | operationTimeout b =>
      obtain ⟨hk, -⟩ | ⟨v, n, page, r, hk, hv, rfl⟩ := exec_operationTimeout_cases h
      · exact .inl hk.takes
      · rw [State.scanPage_of_rebuild_none (hv.trans hr)]
        exact .inl (kept_settle hk s).takes
    | _ => cases hi

/-- Settles O11: a TAKE_START alone enters a record outside a rebuild, under an id the search found free. -/
theorem takesKeepTheirIdentity : Obligations.TakesKeepTheirIdentity := by
  intro s t hr h b hb
  obtain ⟨-, rfl⟩ | ⟨c, rest, hp, hc⟩ := step_cases h
  · exact .inl ⟨b, hb, b.follows_refl⟩
  · obtain hf | ⟨r, tag, body, rfl, hnew⟩ := exec_takes (s := { s with pending := rest }) c hr hc
    · exact .inl (hf b hb)
    · obtain hf | ⟨hroom, hzero, hlow, hhigh, hfree⟩ := hnew b hb
      · exact .inl hf
      · exact .inr ⟨⟨r, tag, body, by rw [hp]; rfl, hroom⟩, hzero, hlow, hhigh, hfree⟩

/-! ### Steps -/

/-- Settles O1. -/
theorem stepRunsFront : Obligations.StepRunsFront := by
  intro c rest s h
  rw [step, h]

/-- Settles O2. -/
theorem stepIdles : Obligations.StepIdles := by
  intro s h
  rw [step, h]

end Sys2Proof.Machine
end

section
/-! Chapter 12: frames on the wire (R194, R197), the requests a link answers itself (R172, R194), and carriers that come and go
(R28, R52, R88, R109). -/

namespace Sys2Proof.Machine

/-! ### Frames -/

theorem leNat_toLE : ∀ w n : Nat, n < 256 ^ w → leNat (toLE w n) = n
  | 0, n, h => by simp only [toLE, leNat]; omega
  | w + 1, n, h => by
    have hq : n / 256 < 256 ^ w := Nat.div_lt_of_lt_mul (by rw [Nat.pow_succ] at h; omega)
    simp only [toLE, leNat, leNat_toLE w _ hq, BitVec.toNat_ofNat]
    omega

theorem toLE_two (n : Nat) : toLE 2 n = [BitVec.ofNat 8 n, BitVec.ofNat 8 (n / 256)] := rfl

/-- A receiver in HUNT passes over bytes that are no start byte. -/
theorem decodeFrame_hunt (l : LinkId) {before : List Byte} (h : ∀ b ∈ before, b ≠ startByte) (rest : List Byte) :
    decodeFrame l (before ++ rest) = decodeFrame l rest := by
  induction before with
  | nil => rfl
  | cons b bs ih =>
    rw [List.cons_append, decodeFrame, if_neg (h b (List.mem_cons_self ..)), ih fun c hc => h c (List.mem_cons_of_mem _ hc)]

/-- A frame whose length lies in 5 to 2,057 is taken whole, and its end byte decides. -/
theorem decodeFrame_frame (l : LinkId) (content after : List Byte) (e : Byte) (hlow : 5 ≤ content.length)
    (hhigh : content.length ≤ 2057) :
    decodeFrame l (startByte :: (toLE 2 content.length ++ content ++ e :: after)) =
      if e = endByte then some (commandOfContent l content, after) else some (.droppedFrame l .badEndByte, after) := by
  have hlen : leNat (toLE 2 content.length) = content.length := leNat_toLE 2 _ (by omega)
  rw [toLE_two] at hlen
  simp only [decodeFrame, if_true, toLE_two, List.cons_append, List.nil_append, receiveFrame, hlen]
  rw [if_neg (by omega), List.drop_left, List.take_left]

/-- A frame the length field of which fits is taken with its content. -/
theorem decodeFrame_frameBytes (l : LinkId) (type kind tag st ind : Byte) {body : List Byte} (h : body.length ≤ 2052)
    (after : List Byte) :
    decodeFrame l (frameBytes type kind tag st ind body ++ after) =
      some (commandOfContent l (type :: kind :: tag :: st :: ind :: body), after) := by
  have hf := decodeFrame_frame l (type :: kind :: tag :: st :: ind :: body) after endByte (by simp) (by simp; omega)
  rw [if_pos rfl] at hf
  rw [← hf]
  simp [frameBytes]

/-- A request's kind code names the request again. -/
theorem commandOfContent_requestParts {c : Instr} {l : LinkId} {kind : Nat} {tag : Byte} {body : List Byte} (hwf : c.wf = true)
    (h : requestParts c = some (l, kind, tag, body)) :
    commandOfContent l (0 :: BitVec.ofNat 8 kind :: tag :: 0 :: 0 :: body) = c := by
  cases c with
  | unknownRequestKind l' kind' tag' =>
    cases h
    have hnone : requestOfKind l kind' tag [] = none := Option.isNone_iff_eq_none.mp hwf
    simp [commandOfContent, hnone]
  | _ => cases h <;> rfl

/-- A well-formed request's body fits a frame. -/
theorem body_fits {c : Instr} {l : LinkId} {kind : Nat} {tag : Byte} {body : List Byte} (hwf : c.wf = true)
    (h : requestParts c = some (l, kind, tag, body)) : body.length ≤ 2052 := by
  cases c with
  | unknownRequestKind => cases h; exact Nat.zero_le _
  | _ => cases h <;> exact of_decide_eq_true hwf

/-- Settles O3: the receiver hunts for the start byte, takes the content, and its kind code names the request. -/
theorem framesDecodeToTheirRequests : Obligations.FramesDecodeToTheirRequests := by
  intro c l frame before after hwf henc hbefore
  obtain ⟨⟨l', kind, tag, body⟩, hparts, heq⟩ := Option.map_eq_some_iff.mp henc
  obtain ⟨rfl, rfl⟩ := Prod.mk.inj heq
  rw [List.append_assoc, decodeFrame_hunt l' hbefore, decodeFrame_frameBytes l' _ _ _ _ _ (body_fits hwf hparts),
    commandOfContent_requestParts hwf hparts]

/-- Settles O4: the length, the end byte, the type and the kind are looked at in this order. -/
theorem badFramesAreDropped : Obligations.BadFramesAreDropped := by
  refine fun l after => ⟨fun lo hi hlen => ?length, fun content e hlow hhigh he => ?endByte, fun type kind tag st ind body hb ht => ?type,
    fun kind tag st ind body hb hk => ?kind⟩
  case length =>
    have hl : leNat [lo, hi] = lo.toNat + 256 * hi.toNat := by simp [leNat]
    simp only [decodeFrame, startByte, if_true, receiveFrame, hl]
    rw [if_pos hlen]
  case endByte => exact (decodeFrame_frame l content after e hlow hhigh).trans (if_neg he)
  case type =>
    rw [decodeFrame_frameBytes l _ _ _ _ _ hb, commandOfContent, if_neg ht]
  case kind =>
    rw [decodeFrame_frameBytes l _ _ _ _ _ hb, commandOfContent, if_pos rfl, hk, Option.getD_none]

@[simp] theorem State.setLink_link (s : State) (l : LinkId) : s.setLink l (s.link l) = s := by
  cases l <;> simp [State.setLink, State.link]

theorem State.reply_of_up {s : State} {l : LinkId} (h : (s.link l).up = true) (kind : Nat) (tag : Byte) (st : Status) :
    s.reply l kind tag st = s.replied l kind tag st := by
  simp [State.reply, State.send, h, State.replied, State.queued]

/-- Settles O6. -/
theorem framesAndMessages : Obligations.FramesAndMessages := by
  refine ⟨fun l why s hrx => ?dropped, fun l kind tag s hup => ?unknown, fun l m rest s hq => ?sent⟩
  case dropped =>
    have hlink : { s.link l with rx := .hunt } = s.link l := by rw [← hrx]
    simp [exec, execDroppedFrame, hlink]
  case unknown => simp [exec, execUnknownRequestKind, State.reply_of_up hup]
  case sent => simp [exec, execMessageTransmitted, hq]

/-! ### Requests answered at the link -/

/-- A command is a request of a link under a kind code, in a readiness group, its body read by the request's own rule. -/
def Instr.servedAs (c : Instr) (l : LinkId) (kind : Nat) (tag : Byte) (g : Group) : Prop :=
  ∃ (α : Type) (args : Option α) (f : α → State → State),
    (∀ s, exec c s = .next (s.request l kind tag g args f)) ∧ args.isSome = c.bodyCoded

theorem roomRequest_servedAs {r : RoomId} {tag : Byte} {body : List Byte} {kind : Nat} {c : Instr}
    (h : roomRequest r tag body kind = some c) : Instr.servedAs c (.room r) kind tag .readyOnly := by
  unfold roomRequest at h
  split at h <;> cases h <;> exact ⟨_, _, _, fun _ => rfl, rfl⟩

theorem stationRequest_servedAs {k : StationId} {tag : Byte} {body : List Byte} {kind : Nat} {c : Instr}
    (h : stationRequest k tag body kind = some c) : Instr.servedAs c (.station k) kind tag .readyOnly := by
  unfold stationRequest at h
  split at h <;> cases h <;> exact ⟨_, _, _, fun _ => rfl, rfl⟩

/-- The readiness group of the supervisor's requests by kind code (R172). -/
def supervisorGroup (kind : Nat) : Group :=
  if 0x48 ≤ kind ∧ kind ≤ 0x4D then .readyOnly else if 0x42 ≤ kind ∧ kind ≤ 0x45 then .configuration else .always

theorem supervisorRequest_servedAs {tag : Byte} {body : List Byte} {kind : Nat} {c : Instr}
    (h : supervisorRequest tag body kind = some c) : Instr.servedAs c .supervisor kind tag (supervisorGroup kind) := by
  unfold supervisorRequest at h
  split at h <;> cases h <;> exact ⟨_, _, _, fun _ => rfl, rfl⟩

/-- The readiness group of a link's requests. -/
def requestGroup (l : LinkId) (kind : Nat) : Group :=
  match l with
  | .supervisor => supervisorGroup kind
  | _ => .readyOnly

theorem requestOfKind_servedAs {l : LinkId} {kind tag : Byte} {body : List Byte} {c : Instr}
    (h : requestOfKind l kind tag body = some c) : Instr.servedAs c l kind.toNat tag (requestGroup l kind.toNat) := by
  cases l with
  | room r => exact roomRequest_servedAs h
  | station k => exact stationRequest_servedAs h
  | supervisor => exact supervisorRequest_servedAs h

/-- Outside the readiness states of its group a request is not admitted. -/
theorem requestGroup_refuses {l : LinkId} {kind : Nat} {x : Readiness}
    (h : x ≠ .ready ∧ (l ≠ .supervisor ∨ 0x48 ≤ kind ∧ kind ≤ 0x4D) ∨ x = .rebuilding ∧ l = .supervisor ∧ 0x42 ≤ kind ∧ kind ≤ 0x45) :
    (requestGroup l kind).admits x = false := by
  obtain ⟨hx, hl⟩ | ⟨rfl, rfl, hlow, hhigh⟩ := h
  · have hg : requestGroup l kind = .readyOnly := by
      cases l with
      | room | station => rfl
      | supervisor => exact if_pos (hl.resolve_left fun h => h rfl)
    rw [hg]
    exact beq_eq_false_iff_ne.mpr hx
  · have hg : requestGroup .supervisor kind = .configuration := by
      rw [requestGroup, supervisorGroup, if_neg (by omega), if_pos ⟨hlow, hhigh⟩]
    rw [hg]
    rfl

/-- Settles O7: the admission does not look at what the block would do. -/
theorem requestsAnsweredAtTheLink : Obligations.RequestsAnsweredAtTheLink := by
  intro l kind tag body c s hkind
  obtain ⟨α, args, f, hexec, hcoded⟩ := requestOfKind_servedAs hkind
  refine ⟨fun hup hout => ?busy, fun htake hbad => ?badArg, fun htake hgood hready => ?notReady⟩
  case busy => rw [hexec, State.request_busy hup (Option.isSome_iff_ne_none.mpr hout)]
  case badArg =>
    rw [hexec, State.request_badArg htake (Option.not_isSome_iff_eq_none.mp (by rw [hcoded, hbad]; decide))]
  case notReady => rw [hexec, State.request_notReady htake (hcoded.trans hgood) (requestGroup_refuses hready)]

end Sys2Proof.Machine
end

section
/-! Carriers that come and go (R28, R52, R88, R109), the device reset (R164, R172) and alerts raised (R189). -/

namespace Sys2Proof.Machine

/-! ### Past an update of a context -/

@[simp] theorem State.withoutHolding_setLink (s : State) (h : Option Holding) (l : LinkId) (x : LinkRec) :
    (s.setLink l x).withoutHolding h = (s.withoutHolding h).setLink l x := by
  cases h with
  | none => rfl
  | some h => simp [State.withoutHolding]

theorem State.noneWaits_setLink {s : State} (h : s.noneWaits) (l : LinkId) (x : LinkRec) : (s.setLink l x).noneWaits := by
  simpa only [State.noneWaits, State.setLink_dropWait, State.setLink_engine] using h

/-- A holding released past a change of a link, while nothing waits. -/
theorem State.releaseHolding_setLink {s : State} {k : StationId} (h : (s.station k).holding ≠ none → s.noneWaits) (l : LinkId)
    (x : LinkRec) :
    (s.setLink l x).releaseHolding k =
      ((s.withoutHolding (s.station k).holding).setStation k { s.station k with holding := none }).setLink l x := by
  rw [State.releaseHolding_of_noneWaits k fun hh => State.noneWaits_setLink (h (by simpa using hh)) l x]
  simp

@[simp] theorem State.enqueue_setStation (s : State) (k : StationId) (y : Station) (x : SegRef) (band : Nat) :
    (s.setStation k y).enqueue x band = (s.enqueue x band).setStation k y := by
  unfold State.enqueue
  rw [State.setStation_enqueueCounter]
  split <;> rfl

@[simp] theorem State.returnSegment_setStation (s : State) (k : StationId) (y : Station) (x : SegRef) (p : Option Nat) :
    (s.setStation k y).returnSegment x p = (s.returnSegment x p).setStation k y :=
  State.enqueue_setStation (s.modSegment x _) ..

@[simp] theorem State.returnOpt_setStation (s : State) (k : StationId) (y : Station) (x : Option SegRef) :
    (s.setStation k y).returnOpt x = (s.returnOpt x).setStation k y := by
  cases x with
  | none => rfl
  | some x => exact State.returnSegment_setStation s k y x none

@[simp] theorem State.returnOpt_setLink (s : State) (l : LinkId) (y : LinkRec) (x : Option SegRef) :
    (s.setLink l y).returnOpt x = (s.returnOpt x).setLink l y := by
  cases x with
  | none => rfl
  | some x => exact State.returnSegment_setLink s l y x none

@[simp] theorem State.station_returnOpt (s : State) (x : Option SegRef) (k : StationId) : (s.returnOpt x).station k = s.station k := by
  cases x with
  | none => rfl
  | some x => exact State.station_returnSegment s x none k

/-! ### Carriers -/

/-- A read-back at the loss of its room's link, while nothing waits: its page is let go and only its mask is kept (R121). -/
theorem State.dropReadback_of_noneWaits {s : State} {r : RoomId} (h : (s.readback r).holding ≠ none → s.noneWaits) :
    s.dropReadback r = (s.withoutHolding (s.readback r).holding).setReadback r
      { s.readback r with
        active := false
        take := none
        cursor := 0
        endPoint := none
        holding := none
        pendingRead := (s.readback r).pendingRead.map fun p => { p with fate := .discard }
        gone := false } := by
  simp [State.dropReadback, State.endReadback, State.idleReadback, State.restReadback, State.releaseReadback_of_noneWaits r h]

/-- A take stopped as the room's link is lost is stopped as by TAKE_STOP, but that the room does not become IDLE (R52). -/
theorem State.stopRoom_idle {s : State} {r : RoomId} (h : (s.room r).take ≠ none) :
    s.stopRoom r .idle = ((s.stopRoom r .linkDown).setRoom r { (s.stopRoom r .linkDown).room r with state := .idle }).blockBoundary r ∧
      ((s.stopRoom r .linkDown).room r).state = .linkDown ∧ ((s.stopRoom r .linkDown).room r).take = none := by
  obtain ⟨id, hid⟩ := Option.ne_none_iff_exists'.mp h
  simp [State.stopRoom, hid]

/-- A station's link lost while nothing waits. -/
theorem State.loseStation_setLink {s : State} {k : StationId} (h : (s.station k).holding ≠ none → s.noneWaits) (l : LinkId)
    (x : LinkRec) :
    (s.setLink l x).loseStation k =
      ((((s.withoutHolding (s.station k).holding).setLink l x).returnOpt (s.station k).current).returnOpt
          ((s.station k).shadow.map Shadow.seg) |>.setStation k
        { s.station k with
          state := .offline
          current := none
          cursor := 0
          stop := none
          shadow := none
          holding := none
          pendingRead := (s.station k).pendingRead.map fun _ => .discard }).raise
        (.stationLost k ((s.station k).current.toList ++ ((s.station k).shadow.map Shadow.seg).toList)) := by
  simp [State.loseStation, State.releaseHolding_setLink h]

/-- Settles O5: the owner of the link is told after the link itself has changed. -/
theorem linksComeAndGo : Obligations.LinksComeAndGo := by
  refine ⟨fun l s hdown => ?up, fun s hup => ?supervisor, fun r s h => State.dropReadback_of_noneWaits h, fun r s hup => ?room,
    fun r s h => State.stopRoom_idle h, fun k s hup h => ?station⟩
  case up =>
    simp only [exec, execLinkUp, hdown]
    cases l with
    | room r => by_cases hs : (s.room r).state = .linkDown <;> simp [State.linkCame, LinkRec.fresh, hs]
    | station k => simp [State.linkCame, LinkRec.fresh, Station.online]
    | supervisor => rfl
  case supervisor =>
    have hu : (s.link .supervisor).up = true := hup
    simp only [exec, execLinkDown, hu, if_true, State.linkLost]
    rw [State.settle_same (State.setLink_takes ..)]
    rfl
  case room =>
    refine ⟨fun hstate => ?_, fun id t hstate htake hfind => ?_⟩
    · simp [exec, execLinkDown, hup, State.linkLost, State.loseRoom, LinkRec.reset, hstate]
    · have hid : t.id = id := by simpa using List.find?_some hfind
      simp [exec, execLinkDown, hup, State.linkLost, State.loseRoom, LinkRec.reset, hstate, htake, hfind, hid]
  case station =>
    simp only [exec, execLinkDown, hup, if_true, State.linkLost]
    rw [State.loseStation_setLink h]
    rfl

/-! ### Device reset -/

/-- Settles O12. -/
theorem deviceResetValues : Obligations.DeviceResetValues := by
  intro s
  exact ⟨_, rfl, rfl, rfl, rfl, rfl, rfl, rfl, rfl, rfl, rfl, rfl, rfl, rfl, rfl, rfl, rfl, rfl, rfl, rfl, rfl, rfl, rfl, rfl, rfl, rfl, rfl,
    rfl, rfl, rfl, rfl, rfl, rfl, rfl, rfl, rfl, rfl, rfl⟩

@[simp] theorem length_openBytes (s : State) (n : Nat) : (s.openBytes n).length = n := by simp [State.openBytes]

/-- Bytes put into a page leave every address outside it alone. -/
theorem State.read_storePage {s : State} (h : s.memoryForm) {unit page a : Nat} {bs : List Byte}
    (ha : ∀ c x, s.bankOf unit = some (c, x) → a < flashAddr c x page ∨ flashAddr c x page + bs.length ≤ a) :
    Memory.read flashUnlisted (s.storePage unit page bs).flash a = Memory.read flashUnlisted s.flash a := by
  unfold State.storePage
  split
  · rename_i c x hb
    exact Memory.read_writeBytes_of_outside h.2 (ha c x hb)
  · rfl

/-- The address is none of a page being programmed or a unit being erased in a bank. -/
def State.apartFrom (s : State) (a : Nat) (b : BankId) : Prop :=
  ∀ op u p i, s.bank b = .busy op u p i →
    (op.kind.isProgram = true → ∀ c x, s.bankOf u = some (c, x) → a < flashAddr c x p ∨ flashAddr c x p + 2112 ≤ a) ∧
    (∀ v, op.kind = .erase v → ∀ c x, s.bankOf u = some (c, x) → a < flashAddr c x 0 ∨ flashAddr c x 0 + 64 * 2112 ≤ a)

/-- A reset's interruption of a bank leaves the flash bytes apart from its work, and every bank and window. -/
theorem State.interrupt_apart {s : State} (h : s.memoryForm) {a : Nat} {b : BankId} (ha : s.apartFrom a b) :
    Memory.read flashUnlisted (s.interrupt b).flash a = Memory.read flashUnlisted s.flash a ∧
      (s.interrupt b).banks = s.banks ∧ (s.interrupt b).windows = s.windows := by
  have stored : ∀ unit page bs, (s.storePage unit page bs).banks = s.banks ∧ (s.storePage unit page bs).windows = s.windows := by
    intro unit page bs
    unfold State.storePage
    split <;> exact ⟨rfl, rfl⟩
  unfold State.interrupt
  split
  · rename_i op u p i hb
    obtain ⟨hprog, herase⟩ := ha op u p i hb
    have hpage : op.kind.isProgram = true →
        Memory.read flashUnlisted (s.spoilPage u p).flash a = Memory.read flashUnlisted s.flash a := fun hp =>
      State.read_storePage h (by simpa [Config.pageBytes] using hprog hp)
    cases hk : op.kind with
    | captureProgram => exact ⟨hpage (by rw [hk]; rfl), stored ..⟩
    | copyProgram => exact ⟨hpage (by rw [hk]; rfl), stored ..⟩
    | erase v => exact ⟨State.read_storePage h (by simpa [Config.pageBytes, Config.unitPages] using herase v hk), stored ..⟩
    | pageRead | spareRead => exact ⟨rfl, rfl, rfl⟩
  · exact ⟨rfl, rfl, rfl⟩

theorem State.apartFrom_congr {s t : State} (hb : t.banks = s.banks) (hw : t.windows = s.windows) {a : Nat} {b : BankId}
    (h : s.apartFrom a b) : t.apartFrom a b := by
  have hbank : t.bank b = s.bank b := by rw [State.bank, State.bank, hb]
  have hof : ∀ u, t.bankOf u = s.bankOf u := fun u => by rw [State.bankOf, State.bankOf, hw]
  simpa only [State.apartFrom, hbank, hof] using h

theorem State.interrupts_apart (bs : List BankId) {s : State} (h : s.memoryForm) {a : Nat} (ha : ∀ b, s.apartFrom a b) :
    Memory.read flashUnlisted (bs.foldl State.interrupt s).flash a = Memory.read flashUnlisted s.flash a := by
  induction bs generalizing s with
  | nil => rfl
  | cons b bs ih =>
    obtain ⟨hread, hbanks, hwindows⟩ := State.interrupt_apart h (ha b)
    exact (ih ((kept_interrupt (Kept.refl s) b).memory h) fun c => State.apartFrom_congr hbanks hwindows (ha c)).trans hread

/-- Settles O13: each bank's interruption writes its own page or unit alone. -/
theorem deviceResetKeepsFlash : Obligations.DeviceResetKeepsFlash := by
  intro s a hmem ha
  exact ⟨_, rfl, State.interrupts_apart allBanks hmem fun b op u p i => ha b op u p i⟩

/-! ### Alerts raised -/

/-- Settles O31. -/
theorem raisedAlerts : Obligations.RaisedAlerts := by
  intro s a
  unfold State.raise
  by_cases h : s.alerts.length < 32
  · simp [Config.alertRecords, Config.wrap32, h]
  · simp [Config.alertRecords, Config.wrap32, Config.max16, satAdd, h]

end Sys2Proof.Machine
end

section
/-! The hand-off queue (chapter 4): its order (R70), enqueue, return and renumbering (R71, R74), and the entry a claim chooses (R75,
R76). -/

namespace Sys2Proof.Machine

/-! ### The order of keys -/

theorem QEntry.before_iff (a b : QEntry) :
    a.before b = true ↔ classRank a.cls < classRank b.cls ∨
      classRank a.cls = classRank b.cls ∧ (a.band < b.band ∨ a.band = b.band ∧ a.sequence < b.sequence) := by
  simp [QEntry.before]

theorem QEntry.not_before_iff (a b : QEntry) :
    b.before a = false ↔ classRank a.cls < classRank b.cls ∨
      classRank a.cls = classRank b.cls ∧ (a.band < b.band ∨ a.band = b.band ∧ a.sequence ≤ b.sequence) := by
  rw [← Bool.not_eq_true, QEntry.before_iff]
  omega

theorem classRank_inj {a b : Cls} (h : classRank a = classRank b) : a = b := by
  cases a <;> cases b <;> simp [classRank] at h ⊢

theorem insertEntry_perm (e : QEntry) (q : List QEntry) : (insertEntry e q).Perm (e :: q) := by
  induction q with
  | nil => exact .refl _
  | cons x rest ih =>
    unfold insertEntry
    split
    · exact .refl _
    · exact (ih.cons x).trans (.swap e x rest)

/-- Queue order: no entry comes before one that stands ahead of it. -/
def QueueOrder (q : List QEntry) : Prop := q.Pairwise fun a b => b.before a = false

theorem queueOrder_insertEntry (e : QEntry) {q : List QEntry} (h : QueueOrder q) : QueueOrder (insertEntry e q) := by
  induction q with
  | nil => exact List.pairwise_singleton ..
  | cons x rest ih =>
    obtain ⟨hx, hrest⟩ := List.pairwise_cons.mp h
    unfold insertEntry
    split
    · rename_i hbefore
      refine List.pairwise_cons.mpr ⟨fun y hy => ?_, h⟩
      rw [QEntry.before_iff] at hbefore
      rw [QEntry.not_before_iff]
      obtain rfl | hy := List.mem_cons.mp hy
      · omega
      · have hxy := hx y hy
        rw [QEntry.not_before_iff] at hxy
        omega
    · rename_i hbefore
      refine List.pairwise_cons.mpr ⟨fun y hy => ?_, ih hrest⟩
      obtain rfl | hy := (mem_insertEntry rest).mp hy
      · exact Bool.not_eq_true _ ▸ hbefore
      · exact hx y hy

theorem insertEntries_perm (es q : List QEntry) : (es.foldl (fun q e => insertEntry e q) q).Perm (es ++ q) := by
  induction es generalizing q with
  | nil => exact .refl _
  | cons e es ih => exact (ih _).trans (((insertEntry_perm e q).append_left es).trans List.perm_middle)

theorem State.queue_perm (s : State) : s.queue.Perm s.entries := by
  simpa [State.queue] using insertEntries_perm s.entries []

theorem State.queue_order (s : State) : QueueOrder s.queue := by
  have h : ∀ es q : List QEntry, QueueOrder q → QueueOrder (es.foldl (fun q e => insertEntry e q) q) := by
    intro es
    induction es with
    | nil => exact fun _ h => h
    | cons e es ih => exact fun q h => ih _ (queueOrder_insertEntry e h)
  exact h s.entries [] .nil

/-- Settles O14: the queue is an insertion sort of the entries. -/
theorem queueIsInKeyOrder : Obligations.QueueIsInKeyOrder := by
  intro s
  exact ⟨s.queue_perm, s.queue_order.imp fun {a b} h => (QEntry.not_before_iff a b).mp h⟩

/-! ### The entry a claim chooses -/

/-- The eligible entries of the queue, in queue order. -/
def State.eligibleEntries (s : State) (f : BitVec 3) : List QEntry := s.queue.filter fun e => f.getLsbD (classRank e.cls)

theorem State.mem_eligibleEntries {s : State} {f : BitVec 3} {e : QEntry} :
    e ∈ s.eligibleEntries f ↔ e ∈ s.entries ∧ f.getLsbD (classRank e.cls) = true := by
  rw [State.eligibleEntries, List.mem_filter, s.queue_perm.mem_iff]

theorem State.chooseEntry_of_nil {s : State} {f : BitVec 3} (h : s.eligibleEntries f = []) (last : Option SegRef) :
    s.chooseEntry f last = none := by
  unfold State.chooseEntry
  rw [State.eligibleEntries] at h
  rw [h]

/-- With an eligible entry the claim takes the successor of the last completed segment where that is of the first entry's class, and
else the first. -/
theorem State.chooseEntry_of_cons {s : State} {f : BitVec 3} {best : QEntry} {rest : List QEntry}
    (h : s.eligibleEntries f = best :: rest) (last : Option SegRef) :
    (∃ x e, last = some x ∧ (best :: rest).find? (fun e => e.ref == ⟨x.take, x.index + 1⟩) = some e ∧ e.cls = best.cls ∧
        s.chooseEntry f last = some e) ∨
      s.chooseEntry f last = some best ∧
        ∀ x, last = some x → ∀ e, (best :: rest).find? (fun e => e.ref == ⟨x.take, x.index + 1⟩) = some e → e.cls ≠ best.cls := by
  unfold State.chooseEntry
  rw [State.eligibleEntries] at h
  simp only [h]
  cases last with
  | none => exact .inr ⟨rfl, fun _ h => by cases h⟩
  | some x =>
    dsimp only
    cases hfind : (best :: rest).find? (fun e => e.ref == ⟨x.take, x.index + 1⟩) with
    | none =>
      refine .inr ⟨rfl, fun y hy e he => ?_⟩
      cases hy
      rw [hfind] at he
      cases he
    | some e =>
      by_cases hc : e.cls = best.cls
      · exact .inl ⟨x, e, rfl, hfind, hc, if_pos hc⟩
      · refine .inr ⟨if_neg hc, fun y hy e' he => ?_⟩
        cases hy
        rw [hfind] at he
        cases he
        exact hc

/-- Settles O16: the queue's order makes its first eligible entry of the most urgent class eligible, and the first successor found of
no later class than any other. -/
theorem claimChoice : Obligations.ClaimChoice := by
  intro s f last
  have horder : QueueOrder (s.eligibleEntries f) := s.queue_order.filter _
  cases hel : s.eligibleEntries f with
  | nil =>
    have hnone : ∀ d ∈ s.entries, f.getLsbD (classRank d.cls) = false := by
      intro d hd
      refine Bool.eq_false_iff.mpr fun hf => ?_
      have hmem : d ∈ s.eligibleEntries f := State.mem_eligibleEntries.mpr ⟨hd, hf⟩
      rw [hel] at hmem
      cases hmem
    rw [State.chooseEntry_of_nil hel]
    exact ⟨⟨fun _ => hnone, fun _ => rfl⟩, fun e he => by cases he⟩
  | cons best rest =>
    rw [hel] at horder
    obtain ⟨hfirst, -⟩ := List.pairwise_cons.mp horder
    have hmem : ∀ {d}, d ∈ best :: rest ↔ d ∈ s.entries ∧ f.getLsbD (classRank d.cls) = true := by
      intro d
      rw [← hel, State.mem_eligibleEntries]
    obtain ⟨hbestEntry, hbestEligible⟩ := hmem.mp (List.mem_cons_self ..)
    have hbest : ∀ d ∈ best :: rest, d.before best = false := by
      intro d hd
      obtain rfl | hd := List.mem_cons.mp hd
      · rw [QEntry.not_before_iff]; omega
      · exact hfirst d hd
    have hurgent : ∀ d ∈ s.entries, f.getLsbD (classRank d.cls) = true → classRank best.cls ≤ classRank d.cls := by
      intro d hd hf
      have h := hbest d (hmem.mpr ⟨hd, hf⟩)
      rw [QEntry.not_before_iff] at h
      omega
    obtain ⟨x, e, rfl, hfind, hcls, hchoose⟩ | ⟨hchoose, hother⟩ := State.chooseEntry_of_cons hel last
    · obtain ⟨heEntry, heEligible⟩ := hmem.mp (List.mem_of_find?_eq_some hfind)
      have href : e.ref = ⟨x.take, x.index + 1⟩ := by simpa using List.find?_some hfind
      rw [hchoose]
      refine ⟨⟨fun h => (Option.some_ne_none _ h).elim, fun h => ?_⟩, fun e' he' => ?_⟩
      · rw [h e heEntry] at heEligible; cases heEligible
      · cases he'
        exact ⟨heEntry, heEligible, hcls ▸ hurgent, .inl ⟨x, rfl, href⟩⟩
    · rw [hchoose]
      refine ⟨⟨fun h => (Option.some_ne_none _ h).elim, fun h => ?_⟩, fun e' he' => ?_⟩
      · rw [h best hbestEntry] at hbestEligible; cases hbestEligible
      · cases he'
        refine ⟨hbestEntry, hbestEligible, hurgent, .inr ⟨fun d hd hf => hbest d (hmem.mpr ⟨hd, hf⟩), ?_⟩⟩
        rintro x rfl d hd hf hcls href
        have hd' := hmem.mpr ⟨hd, hf⟩
        cases hfind : (best :: rest).find? (fun e => e.ref == ⟨x.take, x.index + 1⟩) with
        | none => exact List.find?_eq_none.mp hfind d hd' (by simpa using href)
        | some e =>
          obtain ⟨-, as, bs, hsplit, has⟩ := List.find?_eq_some_iff_append.mp hfind
          obtain ⟨heEntry, heEligible⟩ := hmem.mp (List.mem_of_find?_eq_some hfind)
          have hle : classRank e.cls ≤ classRank d.cls := by
            rw [hsplit] at hd' horder
            obtain hd' | hd' := List.mem_append.mp hd'
            · have hnot := has d hd'
              rw [href] at hnot
              simp at hnot
            · obtain rfl | hd' := List.mem_cons.mp hd'
              · exact Nat.le_refl _
              · have h := (List.pairwise_cons.mp (List.pairwise_append.mp horder).2.1).1 d hd'
                rw [QEntry.not_before_iff] at h
                omega
          have hge := hurgent e heEntry heEligible
          rw [hcls] at hle
          exact hother x rfl e hfind (classRank_inj (Nat.le_antisymm hle hge))

end Sys2Proof.Machine
end

section
/-! Enqueue, return and renumbering of the hand-off queue (R71, R74), and SET_CLASS to RUSH (R23, R78). -/

namespace Sys2Proof.Machine

/-! ### A record found after a change -/

/-- The record a test finds after a change of the records that the test singles out, which the change does not alter for the test. -/
theorem find?_map_ite {α : Type} (p : α → Bool) (f : α → α) (hf : ∀ x, p (f x) = p x) (xs : List α) :
    (xs.map fun x => if p x = true then f x else x).find? p = (xs.find? p).map f := by
  induction xs with
  | nil => rfl
  | cons x xs ih =>
    rw [List.map_cons, List.find?_cons, List.find?_cons, ih]
    by_cases hp : p x = true
    · simp [hp, hf]
    · simp [hp]

/-- A change of other records, which stay others, does not alter the record found. -/
theorem find?_map_ite_ne {α : Type} (p q : α → Bool) (f : α → α) (hq : ∀ x, q x = true → p x = false ∧ p (f x) = false) (xs : List α) :
    (xs.map fun x => if q x = true then f x else x).find? p = xs.find? p := by
  induction xs with
  | nil => rfl
  | cons x xs ih =>
    rw [List.map_cons, List.find?_cons, List.find?_cons, ih]
    by_cases h : q x = true
    · simp [h, (hq x h).1, (hq x h).2]
    · simp [h]

theorem State.findTake_modTake_same (s : State) (n : Nat) {f : Take → Take} (hf : ∀ t, (f t).id = t.id) :
    (s.modTake n f).findTake n = (s.findTake n).map f := by
  have h := find?_map_ite (fun t : Take => t.id == n) f (fun t => by rw [hf]) s.takes
  simp only [beq_iff_eq] at h
  exact h

theorem State.findTake_modTake_ne (s : State) {n m : Nat} (h : m ≠ n) {f : Take → Take} (hf : ∀ t, (f t).id = t.id) :
    (s.modTake n f).findTake m = s.findTake m := by
  have hother : ∀ t : Take, (t.id == n) = true → (t.id == m) = false ∧ ((f t).id == m) = false := by
    intro t ht
    have e : t.id = n := by simpa using ht
    simp [hf, e, h.symm]
  have h := find?_map_ite_ne (fun t : Take => t.id == m) (fun t => t.id == n) f hother s.takes
  simp only [beq_iff_eq] at h
  exact h

theorem Take.segment_modSegment_same (t : Take) (i : Nat) {f : Segment → Segment} (hf : ∀ g, (f g).index = g.index) :
    (t.modSegment i f).segment i = (t.segment i).map f := by
  have h := find?_map_ite (fun g : Segment => g.index == i) f (fun g => by rw [hf]) t.segments
  simp only [beq_iff_eq] at h
  exact h

theorem Take.segment_modSegment_ne (t : Take) {i j : Nat} (h : j ≠ i) {f : Segment → Segment} (hf : ∀ g, (f g).index = g.index) :
    (t.modSegment i f).segment j = t.segment j := by
  have hother : ∀ g : Segment, (g.index == i) = true → (g.index == j) = false ∧ ((f g).index == j) = false := by
    intro g hg
    have e : g.index = i := by simpa using hg
    simp [hf, e, h.symm]
  have h := find?_map_ite_ne (fun g : Segment => g.index == j) (fun g => g.index == i) f hother t.segments
  simp only [beq_iff_eq] at h
  exact h

/-- A segment found after a change of it. -/
theorem State.segment_modSegment_same (s : State) (x : SegRef) {f : Segment → Segment} (hf : ∀ g, (f g).index = g.index) :
    (s.modSegment x f).segment x = (s.segment x).map f := by
  unfold State.segment State.modSegment
  rw [State.findTake_modTake_same s x.take (f := fun t => t.modSegment x.index f) fun _ => rfl]
  cases s.findTake x.take with
  | none => rfl
  | some t => exact t.segment_modSegment_same _ hf

theorem State.findTake_id {s : State} {id : Nat} {t : Take} (h : s.findTake id = some t) : t.id = id := by
  simpa using List.find?_some h

/-! ### Renumbering (R71) -/

/-- The number of queued segments of a smaller sequence. -/
def State.seqRank (s : State) (n : Nat) : Nat := ((s.entries.map QEntry.sequence).filter fun m => decide (m < n)).length

/-- An entry as the renumbering leaves it. -/
def State.renumbered (s : State) (e : QEntry) : QEntry := { e with sequence := s.seqRank e.sequence }

/-- A segment as the renumbering leaves it. -/
def State.renumberedSegment (s : State) (g : Segment) : Segment :=
  if g.work = some .queued then { g with sequence := s.seqRank g.sequence } else g

/-- Renumbering gives every entry the rank of its sequence. -/
theorem State.entries_renumberQueue (s : State) : s.renumberQueue.entries = s.entries.map s.renumbered := by
  have one : ∀ t : Take, Take.queuedEntries { t with segments := t.segments.map s.renumberedSegment } =
      t.queuedEntries.map s.renumbered := by
    intro t
    simp only [Take.queuedEntries, List.filter_map, List.map_map]
    have hfilter : (t.segments.filter ((fun g => g.work == some .queued) ∘ s.renumberedSegment)) =
        t.segments.filter fun g => g.work == some .queued := by
      refine List.filter_congr fun g _ => ?_
      by_cases h : g.work = some .queued <;> simp [State.renumberedSegment, h]
    rw [hfilter]
    refine List.map_congr_left fun g hg => ?_
    have hw : g.work = some .queued := by simpa using (List.mem_filter.mp hg).2
    simp [hw, State.renumbered, State.renumberedSegment]
  show (s.renumberQueue.takes).flatMap Take.queuedEntries = _
  rw [State.entries, List.map_flatMap, State.renumberQueue, List.flatMap_map]
  exact flatMap_congr_mem fun t _ => one t

theorem filter_length_lt {xs : List Nat} {a b : Nat} (ha : a ∈ xs) (h : a < b) :
    (xs.filter fun m => decide (m < a)).length < (xs.filter fun m => decide (m < b)).length := by
  have hsub : (xs.filter fun m => decide (m < a)) = (xs.filter fun m => decide (m < b)).filter fun m => decide (m < a) := by
    rw [List.filter_filter]
    refine List.filter_congr fun m _ => ?_
    by_cases hm : m < a
    · simp [hm, Nat.lt_trans hm h]
    · simp [hm]
  rw [hsub, List.length_filter_lt_length_iff_exists]
  exact ⟨a, List.mem_filter.mpr ⟨ha, by simpa using h⟩, by simp⟩

/-- Renumbering keeps the order of keys. -/
theorem State.renumbered_before {s : State} {a b : QEntry} (ha : a ∈ s.entries) (hb : b ∈ s.entries) :
    (s.renumbered a).before (s.renumbered b) = a.before b := by
  have hlt : s.seqRank a.sequence < s.seqRank b.sequence ↔ a.sequence < b.sequence := by
    refine ⟨fun h => ?_, fun h => filter_length_lt (List.mem_map_of_mem ha) h⟩
    refine Decidable.byContradiction fun hn => ?_
    obtain e | hlt := Nat.eq_or_lt_of_le (Nat.le_of_not_lt hn)
    · rw [e] at h; exact Nat.lt_irrefl _ h
    · exact Nat.lt_asymm h (filter_length_lt (List.mem_map_of_mem hb) hlt)
  rw [Bool.eq_iff_iff, QEntry.before_iff, QEntry.before_iff]
  simp only [State.renumbered, hlt]

theorem insertEntry_map {f : QEntry → QEntry} {e : QEntry} {q : List QEntry} (h : ∀ x ∈ q, (f e).before (f x) = e.before x) :
    insertEntry (f e) (q.map f) = (insertEntry e q).map f := by
  induction q with
  | nil => rfl
  | cons x rest ih =>
    have hx := h x (List.mem_cons_self ..)
    have hrest := ih fun y hy => h y (List.mem_cons_of_mem _ hy)
    simp only [List.map_cons, insertEntry, hx, hrest]
    split <;> rfl

/-- Renumbering keeps the queue's order. -/
theorem State.queue_renumberQueue (s : State) : s.renumberQueue.queue = s.queue.map s.renumbered := by
  have h : ∀ es q : List QEntry, (∀ e ∈ es, e ∈ s.entries) → (∀ e ∈ q, e ∈ s.entries) →
      (es.map s.renumbered).foldl (fun q e => insertEntry e q) (q.map s.renumbered) =
        (es.foldl (fun q e => insertEntry e q) q).map s.renumbered := by
    intro es
    induction es with
    | nil => exact fun _ _ _ => rfl
    | cons e es ih =>
      intro q hes hq
      have he : e ∈ s.entries := hes e (List.mem_cons_self ..)
      rw [List.map_cons, List.foldl_cons, insertEntry_map fun x hx => State.renumbered_before he (hq x hx)]
      refine ih _ (fun d hd => hes d (List.mem_cons_of_mem _ hd)) fun d hd => ?_
      obtain rfl | hd := (mem_insertEntry q).mp hd
      · exact he
      · exact hq d hd
  rw [State.queue, State.entries_renumberQueue]
  exact h s.entries [] (fun _ h => h) (by simp)

/-! ### Enqueue and return (R71, R74) -/

theorem State.enqueue_of_lt {s : State} (h : s.enqueueCounter < Config.max32) (x : SegRef) (band : Nat) :
    s.enqueue x band =
      { s.modSegment x (fun g => { g with work := some .queued, band := band, sequence := s.enqueueCounter }) with
        enqueueCounter := s.enqueueCounter + 1 } := by
  rw [State.enqueue, if_neg (Nat.not_le.mpr h)]

theorem State.segment_enqueue {s : State} (h : s.enqueueCounter < Config.max32) (x : SegRef) (band : Nat) :
    (s.enqueue x band).segment x =
      (s.segment x).map fun g => { g with work := some .queued, band := band, sequence := s.enqueueCounter } := by
  rw [State.enqueue_of_lt h]
  exact State.segment_modSegment_same s x fun _ => rfl

/-- A full counter renumbers the queue first. -/
theorem State.enqueue_of_full {s : State} (h : s.enqueueCounter = Config.max32) (hlen : s.entries.length < Config.max32) (x : SegRef)
    (band : Nat) : s.enqueue x band = s.renumberQueue.enqueue x band := by
  have hr : s.renumberQueue.enqueueCounter < Config.max32 := by simpa [State.renumberQueue] using hlen
  rw [State.enqueue_of_lt hr, State.enqueue, if_pos (Nat.le_of_eq h.symm)]

/-- A change of a segment that keeps its key and work state does not alter the entries. -/
theorem State.entries_modSegment (s : State) (x : SegRef) {f : Segment → Segment}
    (hf : ∀ g, (f g).index = g.index ∧ (f g).work = g.work ∧ (f g).band = g.band ∧ (f g).sequence = g.sequence) :
    (s.modSegment x f).entries = s.entries := by
  have one : ∀ t : Take, (t.modSegment x.index f).queuedEntries = t.queuedEntries := by
    intro t
    simp only [Take.queuedEntries, Take.modSegment, List.filter_map, List.map_map]
    have hfilter : (t.segments.filter ((fun g => g.work == some .queued) ∘ fun g => if g.index = x.index then f g else g)) =
        t.segments.filter fun g => g.work == some .queued := by
      refine List.filter_congr fun g _ => ?_
      by_cases h : g.index = x.index <;> simp [h, hf g]
    rw [hfilter]
    refine List.map_congr_left fun g _ => ?_
    obtain ⟨hi, -, hb, hs⟩ := hf g
    by_cases h : g.index = x.index <;> simp [h, hi, hb, hs]
  show (s.takes.map _).flatMap Take.queuedEntries = _
  rw [List.flatMap_map, State.entries]
  refine flatMap_congr_mem fun t _ => ?_
  dsimp only
  split
  · exact one t
  · rfl

/-- Renumbering commutes with a change of a segment that touches neither its key nor its work state. -/
theorem State.renumberQueue_modSegment (s : State) (x : SegRef) {f : Segment → Segment}
    (hf : ∀ g, (f g).index = g.index ∧ (f g).work = g.work ∧ (f g).band = g.band ∧ (f g).sequence = g.sequence)
    (hseq : ∀ g n, f { g with sequence := n } = { f g with sequence := n }) :
    (s.modSegment x f).renumberQueue = s.renumberQueue.modSegment x f := by
  have hrank : (s.modSegment x f).renumberedSegment = s.renumberedSegment := by
    funext g
    simp only [State.renumberedSegment, State.seqRank, State.entries_modSegment s x hf]
  have hseg : ∀ g, (s.renumberedSegment (f g)) = f (s.renumberedSegment g) := by
    intro g
    obtain ⟨-, hw, -, hs⟩ := hf g
    by_cases hq : g.work = some .queued
    · rw [State.renumberedSegment, State.renumberedSegment, if_pos (hw.trans hq), if_pos hq, hs]
      exact (hseq g _).symm
    · simp only [State.renumberedSegment, hw, if_neg hq]
  have hindex : ∀ g, (s.renumberedSegment g).index = g.index := by
    intro g
    unfold State.renumberedSegment
    split <;> rfl
  have htakes : (s.modSegment x f).renumberQueue.takes = (s.renumberQueue.modSegment x f).takes := by
    show (s.takes.map _).map (fun t : Take => { t with segments := t.segments.map (s.modSegment x f).renumberedSegment }) =
      (s.takes.map fun t : Take => { t with segments := t.segments.map s.renumberedSegment }).map _
    rw [hrank, List.map_map, List.map_map]
    refine List.map_congr_left fun t _ => ?_
    by_cases ht : t.id = x.take
    · simp only [Function.comp_apply, ht, if_true, Take.modSegment, List.map_map]
      congr 1
      refine List.map_congr_left fun g _ => ?_
      simp only [Function.comp_apply, hindex]
      split
      · exact hseg g
      · rfl
    · simp only [Function.comp_apply, ht, if_false]
  have hcount : (s.modSegment x f).renumberQueue.enqueueCounter = s.renumberQueue.enqueueCounter := by
    simp [State.renumberQueue, State.entries_modSegment s x hf]
  have hshape : ∀ u : State, u.renumberQueue =
      { u with takes := u.renumberQueue.takes, enqueueCounter := u.renumberQueue.enqueueCounter } := fun _ => rfl
  rw [hshape (s.modSegment x f), htakes, hcount]
  rfl

/-- What a return changes of a segment before it is enqueued (R74). -/
def Segment.returned (p : Option Nat) (g : Segment) : Segment :=
  { g with
    holder := none
    resume := if p.isSome then p else g.resume
    returns := min (g.returns + 1) 65535 }

theorem State.returnSegment_eq_enqueue (s : State) (x : SegRef) (p : Option Nat) :
    s.returnSegment x p = (s.modSegment x (Segment.returned p)).enqueue x 0 := by
  cases p <;> rfl

@[simp] theorem State.link_enqueue (s : State) (x : SegRef) (band : Nat) (l : LinkId) : (s.enqueue x band).link l = s.link l := by
  rw [State.enqueue_eq]
  cases l <;> rfl

@[simp] theorem State.link_raise (s : State) (a : Alert) (l : LinkId) : (s.raise a).link l = s.link l := by
  unfold State.raise
  split <;> cases l <;> rfl

/-- SET_CLASS to RUSH of a take in another class (R23). -/
theorem serveSetClass_rush {s : State} {id : Nat} {t : Take} {g : Segment} (hfind : s.findTake id = some t) (hstate : t.state ≠ .released)
    (hcls : t.cls ≠ .rush) (hgrow : t.growing = some g) :
    serveSetClass (id, .rush) s = State.settle s
      ((if t.state = .recording ∧ g.last = none ∧ g.work = none then
          (s.modTake id fun y => { y with cls := .rush }).enqueue ⟨id, g.index⟩ 1
        else s.modTake id fun y => { y with cls := .rush }).answer .supervisor .ok) := by
  have hid := State.findTake_id hfind
  have hopen : (segmentOpen t g = true ∧ g.work = none) = (t.state = .recording ∧ g.last = none ∧ g.work = none) := by
    simp only [segmentOpen, Bool.and_eq_true, Option.isNone_iff_eq_none, beq_iff_eq, eq_iff_iff]
    exact ⟨fun ⟨⟨hl, hs⟩, hw⟩ => ⟨hs, hl, hw⟩, fun ⟨hs, hl, hw⟩ => ⟨⟨hl, hs⟩, hw⟩⟩
  simp only [serveSetClass, hfind, hgrow, hid, if_neg hstate, if_neg hcls, hopen, true_and, State.handOver]

/-- Settles O15: an enqueue reads the counter, the ranks of distinct sequences keep their order, and SET_CLASS goes through the
enqueue. -/
theorem enqueueAndReturn : Obligations.EnqueueAndReturn := by
  refine ⟨fun s x band g hg hlt => ?enqueue, fun s x p g hg hlt => ?returned, fun s x band p hfull hlen => ?full,
    fun s => ?renumber, fun tag body id t g s hserve hparse hfind hstate hcls hgrow => ?setClass⟩
  case enqueue =>
    refine ⟨by rw [State.segment_enqueue hlt, hg]; rfl, by rw [State.enqueue_of_lt hlt]⟩
  case returned =>
    have hmod := State.segment_modSegment_same s x (f := Segment.returned p) fun _ => rfl
    rw [State.returnSegment_eq_enqueue, State.segment_enqueue (s := s.modSegment x (Segment.returned p)) hlt, hmod, hg]
    rfl
  case full =>
    refine ⟨State.enqueue_of_full hfull hlen x band, ?_⟩
    have hkey : ∀ g : Segment, (g.returned p).index = g.index ∧ (g.returned p).work = g.work ∧ (g.returned p).band = g.band ∧
        (g.returned p).sequence = g.sequence := fun _ => ⟨rfl, rfl, rfl, rfl⟩
    rw [State.returnSegment_eq_enqueue, State.returnSegment_eq_enqueue,
      State.enqueue_of_full (s := s.modSegment x (Segment.returned p)) hfull (by rwa [State.entries_modSegment s x hkey]),
      State.renumberQueue_modSegment s x hkey fun _ _ => rfl]
  case renumber =>
    refine ⟨by simp [State.renumberQueue], ?_⟩
    rw [State.queue_renumberQueue, List.map_map]
    rfl
  case setClass =>
    obtain ⟨htake, hready⟩ := hserve
    simp only [exec, execSetClass]
    rw [State.request_served htake hparse (by rw [hready]; rfl),
      serveSetClass_rush (s := s.taken .supervisor 0x48 tag) hfind hstate hcls hgrow]
    by_cases hc : t.state = .recording ∧ g.last = none ∧ g.work = none
    · simp [hc, State.taken, State.answer, State.answered]
    · simp [hc, State.taken, State.answer, State.answered]

end Sys2Proof.Machine
end

section
/-! The typist stations (chapters 3 and 5): CLAIM, READ, PAUSE, RESUME, SEEK, SET_PLAYBACK, SET_STOP, and their refusals. -/

namespace Sys2Proof.Machine

/-! ### Segments found -/

theorem State.lookup_found {s : State} {x : SegRef} {t : Take} {g : Segment} (hfind : s.findTake x.take = some t)
    (hstate : t.state ≠ .released) (hseg : t.segment x.index = some g) : s.lookup x = .found (t, g) := by
  simp [State.lookup, hfind, hstate, hseg]

@[simp] theorem State.station_modSegment (s : State) (x : SegRef) (f : Segment → Segment) (k : StationId) :
    (s.modSegment x f).station k = s.station k := rfl

@[simp] theorem State.link_modSegment (s : State) (x : SegRef) (f : Segment → Segment) (l : LinkId) :
    (s.modSegment x f).link l = s.link l := State.link_modTake ..

/-! ### A request taken changes its link alone -/

section Taken

variable (s : State) (l : LinkId) (kind : Nat) (tag : Byte)

@[simp] theorem State.takes_taken : (s.taken l kind tag).takes = s.takes := by simp [State.taken]
@[simp] theorem State.readiness_taken : (s.taken l kind tag).readiness = s.readiness := by simp [State.taken]
@[simp] theorem State.room_taken (r : RoomId) : (s.taken l kind tag).room r = s.room r := by simp [State.taken]
@[simp] theorem State.station_taken (k : StationId) : (s.taken l kind tag).station k = s.station k := by simp [State.taken]
@[simp] theorem State.readback_taken (r : RoomId) : (s.taken l kind tag).readback r = s.readback r := by simp [State.taken]
@[simp] theorem State.buffer_taken (b : BufId) : (s.taken l kind tag).buffer b = s.buffer b := by simp [State.taken]
@[simp] theorem State.findTake_taken (n : Nat) : (s.taken l kind tag).findTake n = s.findTake n := by simp [State.taken]
@[simp] theorem State.lookup_taken (x : SegRef) : (s.taken l kind tag).lookup x = s.lookup x := by simp [State.taken]

end Taken

/-! ### Targets held to a window (R62) -/

theorem clampTo_fst (lo hi : Nat) (p : Int) :
    (clampTo lo hi p).1 = if p < lo then lo else if (hi : Int) < p then hi else p.toNat := by
  unfold clampTo
  split
  · rfl
  · split <;> rfl

theorem clampTo_snd (lo hi : Nat) (p : Int) :
    (clampTo lo hi p).2 = { clampedLow := decide (p < lo), clampedHigh := decide (lo ≤ p ∧ (hi : Int) < p) } := by
  unfold clampTo
  by_cases hlow : p < lo
  · simp [hlow, Int.not_le.mpr hlow]
  · by_cases hhigh : (hi : Int) < p
    · simp [hlow, hhigh, Int.not_lt.mp hlow]
    · simp [hlow, hhigh]

theorem clampTo_natCast {lo hi : Nat} (h : lo ≤ hi) (n : Nat) :
    clampTo lo hi (n : Int) = (min (max n lo) hi, { clampedLow := decide (n < lo), clampedHigh := decide (hi < n) }) := by
  refine Prod.ext ?_ ?_
  · rw [clampTo_fst]
    split
    · omega
    · split <;> omega
  · rw [clampTo_snd]
    have hlow : ((n : Int) < lo) = (n < lo) := by simp
    have hhigh : ((lo : Int) ≤ n ∧ (hi : Int) < n) = (hi < n) := by
      rw [eq_iff_iff]
      omega
    simp only [hlow, hhigh]

/-! ### CLAIM -/

/-- Settles O17. -/
theorem claimGivesASegment : Obligations.ClaimGivesASegment := by
  rintro k tag body own s ⟨htake, hready⟩ hparse
  simp only [exec, execClaim]
  rw [State.request_served htake hparse (by rw [hready]; rfl)]
  refine ⟨fun hown => ?_, fun hown hidle => ⟨fun hnone => ?_, fun e t g hpick hfind hstate hseg => ?_⟩⟩
  · simp [serveClaim, hown]
  · simp [serveClaim, hown, hidle, hnone, State.taken, State.answer, State.answered]
  · have hlook := State.lookup_found (x := e.ref) hfind hstate hseg
    simp [serveClaim, hown, hidle, hpick, hlook, State.taken, State.answer, State.answered, State.answerFields, State.giveCurrent,
      State.assign]

/-! ### PAUSE and RESUME -/

theorem State.holdingWaits_taken {s : State} {k : StationId} (h : (s.station k).holding ≠ none → s.noneWaits) (l : LinkId) (kind : Nat)
    (tag : Byte) : ((s.taken l kind tag).station k).holding ≠ none → (s.taken l kind tag).noneWaits :=
  fun hh => State.noneWaits_setLink (h (by simpa using hh)) ..

theorem servePause_playing {s : State} {k : StationId} (hplay : (s.station k).state = .playing)
    (hwait : (s.station k).holding ≠ none → s.noneWaits) :
    servePause k s = (((s.withoutHolding (s.station k).holding).setStation k
      { s.station k with state := .paused, holding := none }).answer (.station k) .ok {} (fieldBytes [fPos 1 (s.station k).cursor])).issue := by
  simp only [servePause, hplay, State.releaseHolding_of_noneWaits k hwait]
  rw [State.settle_same (by simp [State.answerFields])]
  simp [State.answerFields]

/-- Settles O20. -/
theorem pauseAndResume : Obligations.PauseAndResume := by
  refine fun k tag body s hserve hparse => ?_
  obtain ⟨htake, hready⟩ := hserve
  have hgroup : Group.readyOnly.admits s.readiness = true := by rw [hready]; rfl
  refine ⟨fun hplay hwait => ?playing, fun hpaused => ?paused, fun x t g hpaused hcur hfind hstate hseg => ?resume⟩
  case playing =>
    simp only [exec, execPause]
    rw [State.request_served htake hparse hgroup]
    rw [servePause_playing (by simpa using hplay) (State.holdingWaits_taken hwait _ _ _)]
    simp [State.taken, State.answer, State.answered]
  case paused =>
    simp only [exec, execPause]
    rw [State.request_served htake hparse hgroup]
    simp [servePause, State.taken, hpaused, State.answerFields, State.answer, State.answered]
  case resume =>
    have hlook := State.lookup_found hfind hstate hseg
    simp only [exec, execResume]
    rw [State.request_served htake hparse hgroup]
    simp [serveResume, State.taken, hpaused, hcur, hlook, skipBack, State.answerFields, State.answer, State.answered]

/-! ### SEEK -/

/-- Settles O21. -/
theorem seekSetsTheCursor : Obligations.SeekSetsTheCursor := by
  refine fun k tag body a x t g s hserve hparse hst hcur hfind hstate hseg => ?_
  obtain ⟨htake, hready⟩ := hserve
  have hlook := State.lookup_found hfind hstate hseg
  have hst' : ¬ ((s.station k).state ≠ .paused ∧ (s.station k).state ≠ .playing) := fun h => hst.elim h.1 h.2
  simp only [exec, execSeek]
  rw [State.request_served htake hparse (by rw [hready]; rfl)]
  refine ⟨fun hbase => ?_, fun base hbase => ?_⟩
  · simp [serveSeek, State.taken, hst', hcur, hlook, hbase, State.answer, State.answered]
  · simp [serveSeek, State.taken, hst', hcur, hlook, hbase, clampTo_fst, clampTo_snd, State.answerFields, State.answer, State.answered]

/-! ### SET_PLAYBACK and SET_STOP -/

/-- Settles O22. -/
theorem setPlaybackAndStop : Obligations.SetPlaybackAndStop := by
  refine fun k tag body s hserve => ?_
  obtain ⟨htake, hready⟩ := hserve
  have hgroup : Group.readyOnly.admits s.readiness = true := by rw [hready]; rfl
  refine ⟨fun a hparse hst => ⟨_, ?playback, rfl⟩, fun hparse hst => ?clear, fun cs x t g hparse hst hcur hfind hstate hseg hle => ?set⟩
  case playback =>
    simp only [exec, execSetPlayback]
    rw [State.request_served htake hparse hgroup]
    by_cases hclamp : (above 4095 a.factor || above 1000 a.cueLead || above 1000 a.skipBack) = true
    · simp only [serveSetPlayback, State.taken, State.station_setLink, hst, if_false, hclamp, if_true, State.answerFields,
        State.setStation_setLink, List.append_assoc]
      simp [State.answer, State.answered]
    · simp only [serveSetPlayback, State.taken, State.station_setLink, hst, if_false, hclamp, State.answerFields,
        State.setStation_setLink, Bool.false_eq_true]
      simp [State.answer, State.answered, fieldBytes]
  case clear =>
    have hst' : ¬ ((s.station k).state ≠ .paused ∧ (s.station k).state ≠ .playing) := fun h => hst.elim h.1 h.2
    simp only [exec, execSetStop]
    rw [State.request_served htake hparse hgroup]
    simp [serveSetStop, State.taken, hst', State.answer, State.answered]
  case set =>
    have hst' : ¬ ((s.station k).state ≠ .paused ∧ (s.station k).state ≠ .playing) := fun h => hst.elim h.1 h.2
    have hlook := State.lookup_found hfind hstate hseg
    simp only [exec, execSetStop]
    rw [State.request_served htake hparse hgroup]
    simp [serveSetStop, State.taken, hst', hcur, hlook, clampTo_natCast hle, State.answerFields, State.answer, State.answered]

end Sys2Proof.Machine
end

section
/-! READ (R98 to R102) of a typist station. -/

namespace Sys2Proof.Machine

/-! ### Buffers past an update of a station -/

@[simp] theorem State.setBuffer_setStation (s : State) (k : StationId) (y : Station) (b : BufId) (x : Buffer) :
    (s.setStation k y).setBuffer b x = (s.setBuffer b x).setStation k y := rfl

@[simp] theorem State.modUnit_setStation (s : State) (k : StationId) (y : Station) (n : Nat) (f : UnitEntry → UnitEntry) :
    (s.setStation k y).modUnit n f = (s.modUnit n f).setStation k y := rfl

@[simp] theorem State.resident_setStation (s : State) (k : StationId) (y : Station) (take tp : Nat) :
    (s.setStation k y).resident take tp = s.resident take tp := State.resident_congr rfl ..

@[simp] theorem State.firstFree_setStation (s : State) (k : StationId) (y : Station) : (s.setStation k y).firstFree = s.firstFree :=
  State.firstFree_congr rfl

@[simp] theorem State.freeBuffers_setStation (s : State) (k : StationId) (y : Station) :
    (s.setStation k y).freeBuffers = s.freeBuffers := State.freeBuffers_congr rfl

@[simp] theorem State.nrec_setStation (s : State) (k : StationId) (y : Station) : (s.setStation k y).nrec = s.nrec :=
  State.nrec_congr rfl

@[simp] theorem State.chainUnit_setStation (s : State) (k : StationId) (y : Station) (take chain : Nat) :
    (s.setStation k y).chainUnit take chain = s.chainUnit take chain := State.chainUnit_congr rfl ..

/-! ### A holding let go -/

theorem State.withoutHolding_eq (s : State) (h : Option Holding) :
    s.withoutHolding h = { s with buffers := (s.withoutHolding h).buffers } := by
  cases h <;> rfl

@[simp] theorem State.nrec_withoutHolding (s : State) (h : Option Holding) : (s.withoutHolding h).nrec = s.nrec := by
  rw [State.withoutHolding_eq]
  exact State.nrec_congr rfl

@[simp] theorem State.chainUnit_withoutHolding (s : State) (h : Option Holding) (take chain : Nat) :
    (s.withoutHolding h).chainUnit take chain = s.chainUnit take chain := by
  rw [State.withoutHolding_eq]
  exact State.chainUnit_congr rfl ..

@[simp] theorem State.flashOps_withoutHolding (s : State) (h : Option Holding) : (s.withoutHolding h).flashOps = s.flashOps := by
  cases h <;> rfl

@[simp] theorem State.requestNumber_withoutHolding (s : State) (h : Option Holding) :
    (s.withoutHolding h).requestNumber = s.requestNumber := by
  cases h <;> rfl

@[simp] theorem State.takes_answered (s : State) (l : LinkId) (kind : Nat) (tag : Byte) (st : Status) (ind : Indications)
    (body : List Byte) : (s.answered l kind tag st ind body).takes = s.takes := by simp [State.answered]

@[simp] theorem State.formBlock_setBuffer_pins (s : State) (b : BufId) (n : Nat) (c : Channels) (k : Nat) (m : BitVec 4) (f : Nat) :
    (s.setBuffer b { s.buffer b with pins := n }).formBlock b c k m f = s.formBlock b c k m f :=
  State.formBlock_congr (s := s.setBuffer b { s.buffer b with pins := n }) (t := s) rfl (by simp) ..

/-! ### READ -/

section Read

variable {s : State} {k : StationId} {x : SegRef} {t : Take} {g : Segment}

theorem State.stationRead_stopped (hstop : (s.station k).stop = some (s.station k).cursor)
    (hwait : (s.station k).holding ≠ none → s.noneWaits) :
    s.stationRead k = ((s.withoutHolding (s.station k).holding).setStation k
      { s.station k with stop := none, state := .paused, holding := none }).answer (.station k) .stopped {}
        (positionBody (s.station k).cursor) := by
  have hwait' : ((s.setStation k { s.station k with stop := none, state := .paused }).station k).holding ≠ none →
      (s.setStation k { s.station k with stop := none, state := .paused }).noneWaits := fun hh => hwait (by simpa using hh)
  simp only [State.stationRead, hstop, if_true, State.modStation_eq, State.releaseHolding_of_noneWaits k hwait']
  simp [State.withoutHolding_setStation]

theorem State.stationRead_atEnd (hcur : (s.station k).current = some x) (hlook : s.lookup x = .found (t, g))
    (hstop : (s.station k).stop ≠ some (s.station k).cursor) (hend : (windowOf t g).atEnd ≤ (s.station k).cursor) :
    s.stationRead k = s.answer (.station k) (if segmentOpen t g then .atEdge else .end_) {} (positionBody (windowOf t g).atEnd) := by
  simp only [State.stationRead, if_neg hstop, hcur, hlook, if_pos hend]
  rfl

theorem State.stationRead_held {owned : Bool} {b : BufId} (hcur : (s.station k).current = some x) (hlook : s.lookup x = .found (t, g))
    (hstop : (s.station k).stop ≠ some (s.station k).cursor) (hin : (s.station k).cursor < (windowOf t g).atEnd)
    (hhold : (s.station k).holding = some ⟨owned, b, t.id, takePage t.channels (s.station k).cursor⟩) :
    s.stationRead k = s.serveStation k t g b := by
  have hfilter : (s.station k).holding.filter (fun h => h.take == t.id && h.page == takePage t.channels (s.station k).cursor) =
      some ⟨owned, b, t.id, takePage t.channels (s.station k).cursor⟩ := by simp [hhold]
  simp only [State.stationRead, if_neg hstop, hcur, hlook, if_neg (Nat.not_le.mpr hin), hfilter]

/-- The holding is of no page at the cursor. -/
theorem State.holding_filter_none {tp : Nat} (hother : ∀ h, (s.station k).holding = some h → h.take = t.id → h.page ≠ tp) :
    (s.station k).holding.filter (fun h => h.take == t.id && h.page == tp) = none := by
  rw [Option.filter_eq_none_iff]
  intro h hh
  simpa using hother h hh

theorem State.stationRead_resident {b : BufId} (hcur : (s.station k).current = some x) (hlook : s.lookup x = .found (t, g))
    (hstop : (s.station k).stop ≠ some (s.station k).cursor) (hin : (s.station k).cursor < (windowOf t g).atEnd)
    (hother : ∀ h, (s.station k).holding = some h → h.take = t.id → h.page ≠ takePage t.channels (s.station k).cursor)
    (hwait : (s.station k).holding ≠ none → s.noneWaits)
    (hres : (s.withoutHolding (s.station k).holding).resident t.id (takePage t.channels (s.station k).cursor) = some b) :
    s.stationRead k = (((s.withoutHolding (s.station k).holding).pin b).setStation k
      { s.station k with holding := some ⟨false, b, t.id, takePage t.channels (s.station k).cursor⟩ }).serveStation k t g b := by
  simp only [State.stationRead, if_neg hstop, hcur, hlook, if_neg (Nat.not_le.mpr hin), State.holding_filter_none hother,
    State.releaseHolding_of_noneWaits k hwait, State.resident_setStation, hres]
  simp [State.pin]

theorem State.stationRead_fetch (hcur : (s.station k).current = some x) (hlook : s.lookup x = .found (t, g))
    (hstop : (s.station k).stop ≠ some (s.station k).cursor) (hin : (s.station k).cursor < (windowOf t g).atEnd)
    (hother : ∀ h, (s.station k).holding = some h → h.take = t.id → h.page ≠ takePage t.channels (s.station k).cursor)
    (hwait : (s.station k).holding ≠ none → s.noneWaits)
    (hres : (s.withoutHolding (s.station k).holding).resident t.id (takePage t.channels (s.station k).cursor) = none) :
    s.stationRead k = ((s.withoutHolding (s.station k).holding).setStation k
      { s.station k with holding := none }).stationFlashRead k t.id (takePage t.channels (s.station k).cursor) := by
  simp only [State.stationRead, if_neg hstop, hcur, hlook, if_neg (Nat.not_le.mpr hin), State.holding_filter_none hother,
    State.releaseHolding_of_noneWaits k hwait, State.resident_setStation, hres]

/-! ### The flash read of a page (R100) -/

theorem State.stationFlashRead_busy {take tp : Nat} (hpend : (s.station k).pendingRead ≠ none) :
    s.stationFlashRead k take tp = s.answer (.station k) .busy {} (positionBody (s.station k).cursor) := by
  simp only [State.stationFlashRead, Option.isSome_iff_ne_none.mpr hpend, if_true]

theorem State.stationFlashRead_few {take tp : Nat} (hpend : (s.station k).pendingRead = none) (hfew : s.freeBuffers ≤ s.nrec + 4) :
    s.stationFlashRead k take tp = s.answer (.station k) .waitStore {} (positionBody (s.station k).cursor) := by
  simp only [State.stationFlashRead, hpend]
  cases s.firstFree with
  | none => rfl
  | some b =>
    cases s.chainUnit take (chainIndex tp) with
    | none => rfl
    | some u => exact if_neg (Nat.not_lt.mpr hfew)

theorem State.requestOp_of_le {s : State} {ops : List FlashOp} {n : Nat} (hops : s.flashOps = ops) (hnum : s.requestNumber = n)
    (h : n ≤ 4294967295) (cls : Nat) (op : OpKind) :
    s.requestOp cls op = { s with flashOps := ops ++ [⟨cls, n, op⟩], requestNumber := n + 1 } := by
  subst hops hnum
  rw [State.requestOp, if_neg (by rw [Config.max32]; omega)]

theorem State.requestOp_setStation (s : State) (k : StationId) (y : Station) (cls : Nat) (op : OpKind) :
    (s.requestOp cls op).setStation k y = (s.setStation k y).requestOp cls op := by
  unfold State.requestOp
  rw [State.setStation_requestNumber]
  split <;> rfl

@[simp] theorem State.requestOp_setLink (s : State) (l : LinkId) (y : LinkRec) (cls : Nat) (op : OpKind) :
    (s.setLink l y).requestOp cls op = (s.requestOp cls op).setLink l y := by
  unfold State.requestOp
  rw [State.setLink_requestNumber]
  split <;> cases l <;> rfl

@[simp] theorem State.takes_requestOp (s : State) (cls : Nat) (op : OpKind) : (s.requestOp cls op).takes = s.takes := by
  unfold State.requestOp
  split <;> rfl

@[simp] theorem State.link_requestOp (s : State) (l : LinkId) (cls : Nat) (op : OpKind) : (s.requestOp cls op).link l = s.link l := by
  unfold State.requestOp
  by_cases h : Config.max32 < s.requestNumber
  · simp only [if_pos h]
    cases l <;> rfl
  · simp only [if_neg h]
    cases l <;> rfl

@[simp] theorem State.station_requestOp (s : State) (k : StationId) (cls : Nat) (op : OpKind) :
    (s.requestOp cls op).station k = s.station k := by
  unfold State.requestOp
  by_cases h : Config.max32 < s.requestNumber
  · simp only [if_pos h]
    rfl
  · simp only [if_neg h]
    rfl

theorem State.stationFlashRead_request {take tp : Nat} {b : BufId} {e : UnitEntry} (hpend : (s.station k).pendingRead = none)
    (henough : s.nrec + 4 < s.freeBuffers) (hfree : s.firstFree = some b) (hunit : s.chainUnit take (tp / 64) = some e) :
    s.stationFlashRead k take tp = (s.requestPageRead (.station k) 3 take tp e b).setStation k
      { s.station k with pendingRead := some .none_ } := by
  have hunit' : s.chainUnit take (chainIndex tp) = some e := hunit
  simp only [State.stationFlashRead, hpend, hfree, hunit', if_pos henough]
  simp [State.requestPageRead]

end Read

theorem execRead_playing {s : State} {k : StationId} {tag : Byte} {body : List Byte} (hserve : s.canServe (.station k))
    (hparse : parseNone body = some ()) (hplay : (s.station k).state = .playing) :
    exec (.read k tag body) s = .next (State.settle s ((s.taken (.station k) 0x21 tag).stationRead k)) := by
  obtain ⟨htake, hready⟩ := hserve
  simp only [exec, execRead]
  rw [State.request_served htake hparse (by rw [hready]; rfl)]
  have hplay' : ((s.taken (.station k) 0x21 tag).station k).state = .playing := by simpa [State.taken] using hplay
  simp only [serveRead, if_pos hplay', State.settle_taken]

/-- Settles O18. -/
theorem readServesTheBlock : Obligations.ReadServesTheBlock := by
  refine fun k tag body x t g b s hserve hparse hplay hcur hfind hstate hseg hstop hin => ?_
  have hlook := State.lookup_found hfind hstate hseg
  rw [execRead_playing hserve hparse hplay]
  refine ⟨fun hheld => ?held, fun hother hwait hres => ?resident⟩
  case held =>
    obtain ⟨owned, hhold⟩ := hheld
    rw [State.stationRead_held (s := s.taken (.station k) 0x21 tag) (by simpa using hcur) (by simpa using hlook) (by simpa using hstop)
      (by simpa using hin) (by simpa using hhold), State.settle_same (by simp [State.serveStation])]
    simp [State.serveStation, State.taken, State.answer, State.answered]
  case resident =>
    rw [State.stationRead_resident (s := s.taken (.station k) 0x21 tag) (by simpa using hcur) (by simpa using hlook)
      (by simpa using hstop) (by simpa using hin) (by simpa using hother) (State.holdingWaits_taken hwait _ _ _)
      (by simpa [State.taken] using hres), State.settle_same (by simp [State.serveStation, State.pin])]
    simp [State.serveStation, State.pin, State.taken, State.answer, State.answered]

/-- Settles O19. -/
theorem readWithoutABlock : Obligations.ReadWithoutABlock := by
  refine ⟨fun k tag body s hserve hparse hplay => ⟨fun hstop hwait => ?stopped, fun x t g hcur hfind hstate hseg hstop hend => ?atEnd⟩,
    fun k tag body x t g s hserve hparse hplay hcur hfind hstate hseg hstop hin hother hwait hres => ?other⟩
  case stopped =>
    rw [execRead_playing hserve hparse hplay, State.stationRead_stopped (s := s.taken (.station k) 0x21 tag) (by simpa using hstop)
      (State.holdingWaits_taken hwait _ _ _), State.settle_same (by simp)]
    simp [State.taken, State.answer, State.answered, positionBody]
  case atEnd =>
    have hlook := State.lookup_found hfind hstate hseg
    rw [execRead_playing hserve hparse hplay, State.stationRead_atEnd (s := s.taken (.station k) 0x21 tag) (by simpa using hcur)
      (by simpa using hlook) (by simpa using hstop) (by simpa using hend), State.settle_same (by simp)]
    simp [positionBody]
  case other =>
    have hlook := State.lookup_found hfind hstate hseg
    rw [execRead_playing hserve hparse hplay, State.stationRead_fetch (s := s.taken (.station k) 0x21 tag) (by simpa using hcur)
      (by simpa using hlook) (by simpa using hstop) (by simpa using hin) (by simpa using hother) (State.holdingWaits_taken hwait _ _ _)
      (by simpa [State.taken] using hres)]
    simp only [State.taken, State.station_setLink, State.withoutHolding_setLink, State.setStation_setLink]
    refine ⟨fun hpend => ?busy, fun hpend hfew => ?few, fun b e hpend henough hfree hunit hnum => ?request⟩
    case busy =>
      rw [State.stationFlashRead_busy (by simpa using hpend), State.settle_same (by simp)]
      simp [State.answer, State.answered, positionBody]
    case few =>
      rw [State.stationFlashRead_few (by simpa using hpend) (by simpa using hfew), State.settle_same (by simp)]
      simp [State.answer, State.answered, positionBody]
    case request =>
      rw [State.stationFlashRead_request (by simpa using hpend) (by simpa using henough) (by simpa using hfree) (by simpa using hunit),
        State.requestPageRead, State.settle_same (by simp)]
      refine congrArg Host.Outcome.next (Eq.trans ?_ (congrArg (fun u : State => (u.taken (.station k) 0x21 tag).issue)
        (State.requestOp_of_le ?_ ?_ hnum 3 _)))
      · simp [State.requestOp_setStation, State.taken, pageInUnit, Config.unitPages]
      · simp
      · simp

end Sys2Proof.Machine
end

section
/-! DONE and RELEASE of a typist station (R92 to R94), the station requests refused for the station's state (R89), and what becomes of a
buffer as a pin is removed (R128, R131). -/

namespace Sys2Proof.Machine

/-! ### RUSH entries after a change of takes -/

theorem State.rushCount_eq_zero_iff {s : State} :
    s.rushCount = 0 ↔ ∀ t ∈ s.takes, t.cls = .rush → ∀ g ∈ t.segments, g.work ≠ some .queued := by
  simp only [State.rushCount, List.length_eq_zero_iff, List.filter_eq_nil_iff, State.entries, List.mem_flatMap, Take.queuedEntries,
    List.mem_map, List.mem_filter]
  constructor
  · intro h t ht hcls g hg hw
    exact h ⟨⟨t.id, g.index⟩, t.cls, g.band, g.sequence⟩ ⟨t, ht, g, ⟨hg, by simpa using hw⟩, rfl⟩ (by simpa using hcls)
  · rintro h e ⟨t, ht, g, ⟨hg, hw⟩, rfl⟩ hcls
    exact h t ht (by simpa using hcls) g hg (by simpa using hw)

/-- A change of a take that does not make it RUSH and queues no segment of it. -/
def KeepsQueued (f : Take → Take) : Prop :=
  ∀ t, ((f t).cls = .rush → t.cls = .rush) ∧ ∀ g ∈ (f t).segments, g.work = some .queued → ∃ g' ∈ t.segments, g'.work = some .queued

theorem State.rushCount_modTake {s : State} {n : Nat} {f : Take → Take} (hf : KeepsQueued f) (h : s.rushCount = 0) :
    (s.modTake n f).rushCount = 0 := by
  rw [State.rushCount_eq_zero_iff] at h ⊢
  intro t ht hcls g hg hw
  obtain ⟨u, hu, rfl⟩ := List.mem_map.mp ht
  by_cases hid : u.id = n
  · simp only [if_pos hid] at hcls hg
    obtain ⟨hsame, hqueued⟩ := hf u
    obtain ⟨g', hg', hw'⟩ := hqueued g hg hw
    exact h u hu (hsame hcls) g' hg' hw'
  · simp only [if_neg hid] at hcls hg
    exact h u hu hcls g hg hw

theorem keepsQueued_modSegment {i : Nat} {f : Segment → Segment}
    (hf : ∀ g, (f g).work = some .queued → g.work = some .queued) : KeepsQueued fun t => t.modSegment i f := by
  intro t
  refine ⟨fun h => h, fun g hg hw => ?_⟩
  obtain ⟨g', hg', rfl⟩ := List.mem_map.mp hg
  refine ⟨g', hg', ?_⟩
  split at hw
  · exact hf g' hw
  · exact hw

theorem State.rushCount_modSegment {s : State} {x : SegRef} {f : Segment → Segment}
    (hf : ∀ g, (f g).work = some .queued → g.work = some .queued) (h : s.rushCount = 0) : (s.modSegment x f).rushCount = 0 :=
  State.rushCount_modTake (keepsQueued_modSegment hf) h

theorem State.rushCount_makeTyped {s : State} {x : SegRef} (h : s.rushCount = 0) : (s.makeTyped x).rushCount = 0 := by
  refine State.rushCount_modTake (fun t => ?_) (State.rushCount_modSegment (fun g hw => by cases hw) h)
  split
  · exact ⟨fun h => h, fun g hg hw => ⟨g, hg, hw⟩⟩
  · exact ⟨fun h => h, fun g hg hw => ⟨g, hg, hw⟩⟩

theorem State.settle_noRush {s before : State} (h : before.rushCount = 0 → s.rushCount = 0) : State.settle before s = s.issue := by
  rw [State.settle, State.rushCheck_quiet h]

/-! ### The current segment leaves a station (R65, R94) -/

section Leave

variable {s : State} {k : StationId}

theorem State.leaveCurrent_of_none (h : (s.station k).shadow = none) :
    s.leaveCurrent k = (s.setStation k { s.station k with state := .idle, current := none, cursor := 0, stop := none }, none) := by
  simp only [State.leaveCurrent, h]

theorem State.leaveCurrent_of_some {sh : Shadow} {t : Take} {g : Segment} (h : (s.station k).shadow = some sh)
    (hlook : s.lookup sh.seg = .found (t, g)) :
    s.leaveCurrent k =
      ((s.modSegment sh.seg fun y => { y with holder := some (k, .current) }).setStation k
        { s.station k with
          state := .paused
          current := some sh.seg
          cursor := restoreCursor (windowOf t g) sh.cursor
          stop := none
          shadow := none },
        some { sh with cursor := restoreCursor (windowOf t g) sh.cursor }) := by
  simp only [State.leaveCurrent, h, hlook]

end Leave

@[simp] theorem State.modSegment_setStation (s : State) (k : StationId) (y : Station) (x : SegRef) (f : Segment → Segment) :
    (s.setStation k y).modSegment x f = (s.modSegment x f).setStation k y := rfl

@[simp] theorem State.makeTyped_setStation (s : State) (k : StationId) (y : Station) (x : SegRef) :
    (s.setStation k y).makeTyped x = (s.makeTyped x).setStation k y := rfl

@[simp] theorem State.lookup_setStation (s : State) (k : StationId) (y : Station) (x : SegRef) :
    (s.setStation k y).lookup x = s.lookup x := rfl

@[simp] theorem State.lookup_withoutHolding (s : State) (h : Option Holding) (x : SegRef) :
    (s.withoutHolding h).lookup x = s.lookup x := by
  cases h <;> rfl

/-! ### DONE -/

/-- DONE of the current, closed segment at the station. -/
theorem serveDone_current {s : State} {k : StationId} {x : SegRef} {t : Take} {g : Segment}
    (hst : (s.station k).state = .paused ∨ (s.station k).state = .playing) (hcur : (s.station k).current = some x)
    (hlook : s.lookup x = .found (t, g)) (hclosed : segmentOpen t g = false) (hwait : (s.station k).holding ≠ none → s.noneWaits) :
    serveDone k (x.take, x.index) s =
      (fun r : State × Option Shadow => State.settle s (r.1.answerFields (.station k) .ok {} (restoredFields 1 r.2)))
        ((((s.makeTyped x).withoutHolding (s.station k).holding).setStation k
          { s.station k with holding := none, lastCompleted := some x, stop := none }).leaveCurrent k) := by
  have hcond : ((s.station k).state = .paused ∨ (s.station k).state = .playing) ∧ (s.station k).current = some ⟨x.take, x.index⟩ :=
    ⟨hst, hcur⟩
  have hlook' : s.lookup ⟨x.take, x.index⟩ = .found (t, g) := hlook
  have hrelease := State.releaseHolding_of_noneWaits (s := s.makeTyped x) k fun h => hwait h
  simp only [serveDone, if_pos hcond, hlook', hclosed, Bool.false_eq_true, if_false, hrelease, State.modStation_eq,
    State.station_makeTyped, State.station_setStation_same, State.setStation_setStation]

/-- Settles O23. -/
theorem doneTypesTheSegment : Obligations.DoneTypesTheSegment := by
  refine fun k tag body x t g s hserve hparse hst hcur hfind hstate hseg hclosed hwait => ?_
  obtain ⟨htake, hready⟩ := hserve
  have hlook := State.lookup_found hfind hstate hseg
  simp only [exec, execDone]
  rw [State.request_served htake hparse (by rw [hready]; rfl), serveDone_current (s := s.taken (.station k) 0x27 tag) (by simpa using hst)
    (by simpa using hcur) (by simpa using hlook) hclosed (State.holdingWaits_taken hwait _ _ _)]
  refine ⟨fun hnone => ?idle, fun sh t' g' hshadow hfind' hstate' hseg' => ?restored⟩
  case idle =>
    rw [State.leaveCurrent_of_none (by simpa using hnone)]
    dsimp only
    rw [State.settle_noRush]
    · simp [State.taken, State.answer, State.answered, State.answerFields, restoredFields, fieldBytes]
    · intro h
      rw [State.rushCount_congr (t := (s.taken (.station k) 0x27 tag).makeTyped x) (by simp [State.answerFields])]
      exact State.rushCount_makeTyped h
  case restored =>
    have hlook' := State.lookup_found hfind' hstate' hseg'
    rw [State.leaveCurrent_of_some (sh := sh) (t := t') (g := g') (by simpa using hshadow) (by simpa [State.taken] using hlook')]
    simp [State.taken, State.answer, State.answered, State.answerFields, restoredFields, restoreCursor]

/-! ### RELEASE -/

/-- RELEASE of the current segment at the station. -/
theorem serveRelease_current {s : State} {k : StationId} {a : ReleaseArgs} {t : Take} {g : Segment}
    (hst : (s.station k).state = .paused ∨ (s.station k).state = .playing) (hcur : (s.station k).current = some ⟨a.take, a.index⟩)
    (hlook : s.lookup ⟨a.take, a.index⟩ = .found (t, g)) (hwait : (s.station k).holding ≠ none → s.noneWaits)
    (hle : g.first ≤ (windowOf t g).atEnd) :
    serveRelease k a s =
      (fun (r : State × Option Shadow) (p : Option Nat) (clamped : Bool) => State.settle s (r.1.answerFields (.station k) .ok
          { clamped := clamped } (restoredFields 1 r.2 ++ if clamped then fPosOpt 2 p else [])))
        ((((s.withoutHolding (s.station k).holding).returnSegment ⟨a.take, a.index⟩
            (a.typedTo.map fun cs => min (max (csToBlocks cs) g.first) (windowOf t g).atEnd)).setStation k
          { s.station k with holding := none }).leaveCurrent k)
        (a.typedTo.map fun cs => min (max (csToBlocks cs) g.first) (windowOf t g).atEnd)
        (a.typedTo.any fun cs => decide (csToBlocks cs < g.first ∨ (windowOf t g).atEnd < csToBlocks cs)) := by
  have hcond : ((s.station k).state = .paused ∨ (s.station k).state = .playing) ∧ (s.station k).current = some ⟨a.take, a.index⟩ :=
    ⟨hst, hcur⟩
  have hclamp : (a.typedTo.map fun cs => clampTo g.first (windowOf t g).atEnd (csToBlocks cs)).any
      (fun q => q.2.clampedLow || q.2.clampedHigh) =
        a.typedTo.any fun cs => decide (csToBlocks cs < g.first ∨ (windowOf t g).atEnd < csToBlocks cs) := by
    cases a.typedTo with
    | none => rfl
    | some cs => simp [clampTo_natCast hle]
  have hfst : (a.typedTo.map fun cs => clampTo g.first (windowOf t g).atEnd (csToBlocks cs)).map Prod.fst =
      a.typedTo.map fun cs => min (max (csToBlocks cs) g.first) (windowOf t g).atEnd := by
    cases a.typedTo with
    | none => rfl
    | some cs => simp [clampTo_natCast hle]
  simp only [serveRelease, if_pos hcond, hlook, hclamp, hfst, State.releaseHolding_of_noneWaits k hwait, State.returnSegment_setStation]

/-- Settles O24. -/
theorem releaseReturnsTheSegment : Obligations.ReleaseReturnsTheSegment := by
  refine fun k tag body a t g s hserve hparse hst hcur hfind hstate hseg hwait hle => ?_
  obtain ⟨htake, hready⟩ := hserve
  have hlook := State.lookup_found (x := ⟨a.take, a.index⟩) hfind hstate hseg
  simp only [exec, execRelease]
  rw [State.request_served htake hparse (by rw [hready]; rfl), serveRelease_current (s := s.taken (.station k) 0x28 tag)
    (by simpa using hst) (by simpa using hcur) (by simpa using hlook) (State.holdingWaits_taken hwait _ _ _) hle]
  refine ⟨fun hnone => ?idle, fun sh t' g' hshadow hfind' hstate' hseg' => ?restored⟩
  case idle =>
    rw [State.leaveCurrent_of_none (by simpa using hnone)]
    simp [State.taken, State.answer, State.answered, State.answerFields, restoredFields]
  case restored =>
    have hlook' := State.lookup_found hfind' hstate' hseg'
    rw [State.leaveCurrent_of_some (sh := sh) (t := t') (g := g') (by simpa using hshadow) (by simpa [State.taken] using hlook')]
    simp [State.taken, State.answer, State.answered, State.answerFields, restoredFields, restoreCursor]

/-! ### Refusals for the station's state (R89) -/

section Refusals

variable {s : State} {k : StationId}

theorem serveClaim_refused {own : Option Nat} (hown : own ≠ some 0) (h : (s.station k).state ≠ .idle) :
    serveClaim k own s = s.answer (.station k) .refused := by
  simp only [serveClaim, if_neg hown, if_pos h]

theorem serveRead_refused (h : (s.station k).state ≠ .playing) : serveRead k s = s.answer (.station k) .refused :=
  if_neg h

theorem servePause_refused (h : (s.station k).state = .offline ∨ (s.station k).state = .idle) :
    servePause k s = s.answer (.station k) .refused := by
  obtain h | h := h <;> simp only [servePause, h]

theorem serveResume_refused (h : (s.station k).state ≠ .paused) : serveResume k s = s.answer (.station k) .refused :=
  if_pos h

theorem serveSeek_refused (h : (s.station k).state = .offline ∨ (s.station k).state = .idle) (a : SeekArgs) :
    serveSeek k a s = s.answer (.station k) .refused := by
  obtain h | h := h <;> simp [serveSeek, h]

theorem serveSetPlayback_refused (h : (s.station k).state = .offline) (a : SetPlaybackArgs) :
    serveSetPlayback k a s = s.answer (.station k) .refused :=
  if_pos h

theorem serveSetStop_refused (h : (s.station k).state = .offline ∨ (s.station k).state = .idle) (a : Option Nat) :
    serveSetStop k a s = s.answer (.station k) .refused := by
  obtain h | h := h <;> simp [serveSetStop, h]

theorem serveStatus_refused (h : (s.station k).state = .offline) : serveStatus k s = s.answer (.station k) .refused :=
  if_pos h

/-- DONE is refused outside PAUSED and PLAYING, of another segment, and of an open one. -/
theorem serveDone_refused {a : Nat × Nat}
    (h : ((s.station k).state = .offline ∨ (s.station k).state = .idle) ∨ (s.station k).current ≠ some ⟨a.1, a.2⟩ ∨
      ∃ t g, s.findTake a.1 = some t ∧ t.segment a.2 = some g ∧ segmentOpen t g = true) :
    serveDone k a s = s.answer (.station k) .refused := by
  unfold serveDone
  dsimp only
  split
  · rename_i hcond
    obtain ⟨hst, hcur⟩ := hcond
    obtain hoff | hother | ⟨t, g, hfind, hseg, hopen⟩ := h
    · rcases hst with hst | hst <;> simp [hst] at hoff
    · exact absurd hcur hother
    · simp only [State.lookup, hfind, hseg]
      by_cases hr : t.state = .released
      · simp only [if_pos hr]
      · simp only [if_neg hr, if_pos hopen]
  · rfl

theorem serveRelease_refused {a : ReleaseArgs}
    (h : ((s.station k).state = .offline ∨ (s.station k).state = .idle) ∨ (s.station k).current ≠ some ⟨a.take, a.index⟩) :
    serveRelease k a s = s.answer (.station k) .refused := by
  refine if_neg fun ⟨hst, hcur⟩ => ?_
  obtain hoff | hother := h
  · rcases hst with hst | hst <;> simp [hst] at hoff
  · exact hother hcur

end Refusals

/-- A request that is admitted and that its block refuses. -/
theorem exec_refused {α : Type} {c : Instr} {s : State} {l : LinkId} {kind : Nat} {tag : Byte} {args : Option α} {f : α → State → State}
    (hexec : exec c s = .next (s.request l kind tag .readyOnly args f)) (hserve : s.canServe l) (hargs : args.isSome = true)
    (hrefused : ∀ a, args = some a → f a (s.taken l kind tag) = (s.taken l kind tag).answer l .refused) :
    exec c s = .next (s.answered l kind tag .refused {} []) := by
  obtain ⟨htake, hready⟩ := hserve
  obtain ⟨a, ha⟩ := Option.isSome_iff_exists.mp hargs
  rw [hexec, State.request_served htake ha (by rw [hready]; rfl), hrefused a ha, State.answer_taken]

/-- Settles O25: kind by kind. -/
theorem stationRefusals : Obligations.StationRefusals := by
  refine fun k kind tag body c s hkind hcoded hserve hclaim hcond => ?_
  have hkindEq : ∀ n : Nat, kind.toNat = n → kind = BitVec.ofNat 8 n := by
    rintro n rfl
    simp
  unfold requestOfKind at hkind
  dsimp only at hkind
  unfold stationRequest at hkind
  split at hkind <;> cases hkind
  case h_1 h =>
    obtain rfl := hkindEq _ h
    refine exec_refused rfl hserve hcoded fun own ha => serveClaim_refused ?_ ?_
    · intro hown
      exact hclaim rfl (hown ▸ ha)
    · rw [State.station_taken]
      intro hidle
      simp [hidle] at hcond
  case h_2 h =>
    obtain rfl := hkindEq _ h
    refine exec_refused rfl hserve hcoded fun _ _ => serveRead_refused ?_
    rw [State.station_taken]
    intro hplay
    simp [hplay] at hcond
  case h_3 h =>
    obtain rfl := hkindEq _ h
    exact exec_refused rfl hserve hcoded fun _ _ => servePause_refused (by simpa using hcond)
  case h_4 h =>
    obtain rfl := hkindEq _ h
    refine exec_refused rfl hserve hcoded fun _ _ => serveResume_refused ?_
    rw [State.station_taken]
    intro hpaused
    simp [hpaused] at hcond
  case h_5 h =>
    obtain rfl := hkindEq _ h
    exact exec_refused rfl hserve hcoded fun _ _ => serveSeek_refused (by simpa using hcond) _
  case h_6 h =>
    obtain rfl := hkindEq _ h
    exact exec_refused rfl hserve hcoded fun _ _ => serveSetPlayback_refused (by simpa using hcond) _
  case h_7 h =>
    obtain rfl := hkindEq _ h
    exact exec_refused rfl hserve hcoded fun _ _ => serveSetStop_refused (by simpa using hcond) _
  case h_8 h =>
    obtain rfl := hkindEq _ h
    refine exec_refused rfl hserve hcoded fun x hx => serveDone_refused ?_
    simpa [hx, or_assoc] using hcond
  case h_9 h =>
    obtain rfl := hkindEq _ h
    refine exec_refused rfl hserve hcoded fun a ha => serveRelease_refused ?_
    simpa [ha, or_assoc] using hcond
  case h_10 h =>
    obtain rfl := hkindEq _ h
    exact exec_refused rfl hserve hcoded fun _ _ => serveStatus_refused (by simpa using hcond)

/-! ### Pins removed (R128, R131) -/

theorem State.unpin_last {s : State} {b : BufId} (hcached : (s.buffer b).state = .cached) (hpins : (s.buffer b).pins = 1) :
    s.unpin b = (s.setBuffer b { s.buffer b with pins := 0 }).freeBuffer b := by
  simp [State.unpin, hcached, hpins]

/-- A buffer freed goes to the room at the head of the drop-wait list, which leaves DROPPING with nothing dropped to report. -/
theorem State.freeBuffer_given {s : State} {b : BufId} {r : RoomId} {rest : List RoomId} {id : Nat} {t : Take} (hdrop : s.dropWait = r :: rest)
    (htake : (s.room r).take = some id) (hfind : s.findTake id = some t) (hrescue : (s.room r).rescueWaiting = false)
    (hdropped : (s.room r).dropped = 0) :
    s.freeBuffer b = (({ s with dropWait := rest }).setBuffer b (fillingBuffer r t.id (takePage t.channels t.length))).setRoom r
      { s.room r with filling := some b, slot := 0, dropping := none, dropped := 0 } := by
  have hroom : ∀ q, State.room { s with dropWait := rest } q = s.room q := fun _ => rfl
  have hfind' : ∀ n, State.findTake { s with dropWait := rest } n = s.findTake n := fun _ => rfl
  simp [State.freeBuffer, hdrop, htake, hfind, State.giveFilling, State.leaveDropping, hroom, hfind', hrescue, hdropped]

/-- Settles O26. -/
theorem lastPinFreesABuffer : Obligations.LastPinFreesABuffer := by
  refine fun s b => ⟨fun h => ?stays, fun hcached hpins hdrop hengine => ?free, fun r rest id t hcached hpins hdrop htake hfind hrescue hdropped => ?given⟩
  case stays =>
    have hneg : ¬ ((s.buffer b).state = .cached ∧ (s.buffer b).pins - 1 = 0) := by
      rintro ⟨hc, hp⟩
      obtain h | h := h
      · exact h hc
      · omega
    simp [State.unpin, hneg]
  case free =>
    have hwait : s.noneWaits := by
      refine ⟨hdrop, ?_⟩
      cases hw : s.engine.work with
      | none => rfl
      | some p =>
        obtain ⟨z, w⟩ := p
        simpa [Option.isSome_iff_ne_none] using hengine z w hw
    rw [State.unpin_last hcached hpins, State.freeBuffer_of_noneWaits (s := s.setBuffer b _) hwait, State.setBuffer_setBuffer]
  case given =>
    rw [State.unpin_last hcached hpins, State.freeBuffer_given (s := s.setBuffer b _) hdrop htake hfind hrescue hdropped]
    exact congrArg (fun u : State => u.setRoom r _) (State.setBuffer_setBuffer { s with dropWait := rest } b _ _)

end Sys2Proof.Machine
end

section
/-! Read-back (chapter 6): READBACK_START, READBACK_READ and READBACK_STOP (R111 to R119). -/

namespace Sys2Proof.Machine

/-! ### READBACK_START (R112 to R114) -/

/-- The take that a READBACK_START reads back: its own room's, recording or named and not released. -/
theorem State.readbackTake_of_own {s : State} {r : RoomId} {n : Option Nat} {t : Take}
    (h : n = none ∧ (s.room r).state = .recording ∧ (∃ id, (s.room r).take = some id ∧ s.findTake id = some t) ∨
      ∃ id, n = some id ∧ s.findTake id = some t ∧ t.state ≠ .released ∧ t.room = r) :
    s.readbackTake r n = .inl t := by
  obtain ⟨rfl, hstate, id, htake, hfind⟩ | ⟨id, rfl, hfind, hstate, hroom⟩ := h
  · simp [State.readbackTake, hstate, htake, hfind]
  · simp [State.readbackTake, hfind, hstate, hroom]

theorem clampTo_zero (hi : Nat) (p : Int) :
    clampTo 0 hi p = (if p < 0 then 0 else if (hi : Int) < p then hi else p.toNat,
      { clampedLow := decide (p < 0), clampedHigh := decide ((hi : Int) < p) }) := by
  refine Prod.ext (clampTo_fst 0 hi p) ?_
  rw [clampTo_snd]
  have hhigh : ((0 : Nat) ≤ p ∧ (hi : Int) < p) = ((hi : Int) < p) := by
    rw [eq_iff_iff]
    omega
  simp only [hhigh]
  rfl

/-- Settles O27. -/
theorem readbackStarts : Obligations.ReadbackStarts := by
  refine fun r tag body a t s hserve hparse hown => ?_
  obtain ⟨htake, hready⟩ := hserve
  have hsel : (s.taken (.room r) 0x14 tag).readbackTake r a.take = .inl t := State.readbackTake_of_own (by simpa using hown)
  simp only [exec, execReadbackStart]
  rw [State.request_served htake hparse (by rw [hready]; rfl)]
  refine ⟨fun hactive => ?_, fun hidle hnone => ?_, fun base hidle hbase => ?_⟩
  · simp [serveReadbackStart, hsel, hactive]
  · simp [serveReadbackStart, hsel, hidle, hnone]
  · simp only [serveReadbackStart, hsel, State.readback_taken, hidle, hbase, clampTo_zero, Bool.false_eq_true, if_false]
    simp [State.taken, State.answerFields, State.answer, State.answered]

/-! ### Past an update of a read-back context -/

@[simp] theorem State.setBuffer_setReadback (s : State) (r : RoomId) (y : Readback) (b : BufId) (x : Buffer) :
    (s.setReadback r y).setBuffer b x = (s.setBuffer b x).setReadback r y := rfl

@[simp] theorem State.modUnit_setReadback (s : State) (r : RoomId) (y : Readback) (n : Nat) (f : UnitEntry → UnitEntry) :
    (s.setReadback r y).modUnit n f = (s.modUnit n f).setReadback r y := rfl

@[simp] theorem State.resident_setReadback (s : State) (r : RoomId) (y : Readback) (take tp : Nat) :
    (s.setReadback r y).resident take tp = s.resident take tp := State.resident_congr rfl ..

@[simp] theorem State.firstFree_setReadback (s : State) (r : RoomId) (y : Readback) : (s.setReadback r y).firstFree = s.firstFree :=
  State.firstFree_congr rfl

@[simp] theorem State.freeBuffers_setReadback (s : State) (r : RoomId) (y : Readback) :
    (s.setReadback r y).freeBuffers = s.freeBuffers := State.freeBuffers_congr rfl

@[simp] theorem State.nrec_setReadback (s : State) (r : RoomId) (y : Readback) : (s.setReadback r y).nrec = s.nrec :=
  State.nrec_congr rfl

@[simp] theorem State.chainUnit_setReadback (s : State) (r : RoomId) (y : Readback) (take chain : Nat) :
    (s.setReadback r y).chainUnit take chain = s.chainUnit take chain := State.chainUnit_congr rfl ..

theorem State.requestOp_setReadback (s : State) (r : RoomId) (y : Readback) (cls : Nat) (op : OpKind) :
    (s.requestOp cls op).setReadback r y = (s.setReadback r y).requestOp cls op := by
  unfold State.requestOp
  rw [State.setReadback_requestNumber]
  split <;> rfl

@[simp] theorem State.readback_requestOp (s : State) (r : RoomId) (cls : Nat) (op : OpKind) :
    (s.requestOp cls op).readback r = s.readback r := by
  unfold State.requestOp
  by_cases h : Config.max32 < s.requestNumber
  · simp only [if_pos h]
    rfl
  · simp only [if_neg h]
    rfl

/-! ### READBACK_READ (R115 to R118) -/

section ReadbackRead

variable {s : State} {r : RoomId} {id : Nat} {t : Take}

theorem State.restReadback_of_noneWaits (hwait : (s.readback r).holding ≠ none → s.noneWaits) :
    s.restReadback r = (s.withoutHolding (s.readback r).holding).setReadback r
      { s.readback r with active := false, take := none, holding := none } := by
  simp [State.restReadback, State.releaseReadback_of_noneWaits r hwait]

theorem State.readbackRead_stopped (hend : (s.readback r).endPoint = some (s.readback r).cursor)
    (hwait : (s.readback r).holding ≠ none → s.noneWaits) :
    s.readbackRead r = ((s.withoutHolding (s.readback r).holding).setReadback r
      { s.readback r with active := false, take := none, holding := none, endPoint := none }).answer (.room r) .stopped {}
        (positionBody (s.readback r).cursor) := by
  simp [State.readbackRead, hend, State.idleReadback, State.restReadback_of_noneWaits hwait]

theorem State.readbackRead_atEnd (hend : (s.readback r).endPoint ≠ some (s.readback r).cursor) (htake : (s.readback r).take = some id)
    (hfind : s.findTake id = some t) (hlen : t.length ≤ (s.readback r).cursor) (hwait : (s.readback r).holding ≠ none → s.noneWaits) :
    s.readbackRead r =
      if t.state = .recording then s.answer (.room r) .atEdge {} (positionBody t.length)
      else ((s.withoutHolding (s.readback r).holding).setReadback r
        { s.readback r with active := false, take := none, holding := none }).answer (.room r) .end_ {} (positionBody t.length) := by
  simp [State.readbackRead, hend, htake, hfind, takeWindow, hlen, State.restReadback_of_noneWaits hwait]

theorem State.readbackRead_pending {p : RbRead} (hend : (s.readback r).endPoint ≠ some (s.readback r).cursor)
    (htake : (s.readback r).take = some id) (hfind : s.findTake id = some t) (hin : (s.readback r).cursor < t.length)
    (hpend : (s.readback r).pendingRead = some p) (hfate : p.fate = .none_) :
    s.readbackRead r = s.answer (.room r) .busy {} (positionBody (s.readback r).cursor) := by
  simp [State.readbackRead, hend, htake, hfind, takeWindow, Nat.not_le.mpr hin, hpend, hfate]

/-- No read that the read-back waits for is pending. -/
theorem Readback.noRead_pending {x : Readback} (hfate : ∀ p, x.pendingRead = some p → p.fate ≠ .none_) :
    x.pendingRead.any (fun p => p.fate == .none_) = false := by
  cases hp : x.pendingRead with
  | none => rfl
  | some p => simpa using hfate p hp

theorem State.readbackRead_held {owned : Bool} {b : BufId} (hend : (s.readback r).endPoint ≠ some (s.readback r).cursor)
    (htake : (s.readback r).take = some id) (hfind : s.findTake id = some t) (hin : (s.readback r).cursor < t.length)
    (hfate : ∀ p, (s.readback r).pendingRead = some p → p.fate ≠ .none_)
    (hhold : (s.readback r).holding = some ⟨owned, b, t.id, takePage t.channels (s.readback r).cursor⟩) :
    s.readbackRead r = s.serveReadback r t b := by
  have hbind : (s.readback r).take.bind s.findTake = some t := by rw [htake, Option.bind_some, hfind]
  have hfilter : (s.readback r).holding.filter
      (fun h => h.take == t.id && h.page == takePage t.channels (s.readback r).cursor) =
        some ⟨owned, b, t.id, takePage t.channels (s.readback r).cursor⟩ := by simp [hhold]
  simp only [State.readbackRead, if_neg hend, hbind, takeWindow, if_neg (Nat.not_le.mpr hin), Readback.noRead_pending hfate, hfilter,
    Bool.false_eq_true, if_false]

/-- The read-back holds no page at the cursor. -/
theorem Readback.holding_filter_none {x : Readback} {tp : Nat}
    (hother : ∀ h, x.holding = some h → h.take = t.id → h.page ≠ tp) :
    x.holding.filter (fun h => h.take == t.id && h.page == tp) = none := by
  rw [Option.filter_eq_none_iff]
  intro h hh
  simpa using hother h hh

theorem State.readbackRead_resident {b : BufId} (hend : (s.readback r).endPoint ≠ some (s.readback r).cursor)
    (htake : (s.readback r).take = some id) (hfind : s.findTake id = some t) (hin : (s.readback r).cursor < t.length)
    (hfate : ∀ p, (s.readback r).pendingRead = some p → p.fate ≠ .none_)
    (hother : ∀ h, (s.readback r).holding = some h → h.take = t.id → h.page ≠ takePage t.channels (s.readback r).cursor)
    (hwait : (s.readback r).holding ≠ none → s.noneWaits)
    (hres : (s.withoutHolding (s.readback r).holding).resident t.id (takePage t.channels (s.readback r).cursor) = some b) :
    s.readbackRead r = (((s.withoutHolding (s.readback r).holding).pin b).setReadback r
      { s.readback r with holding := some ⟨false, b, t.id, takePage t.channels (s.readback r).cursor⟩ }).serveReadback r t b := by
  have hbind : (s.readback r).take.bind s.findTake = some t := by rw [htake, Option.bind_some, hfind]
  simp only [State.readbackRead, if_neg hend, hbind, takeWindow, if_neg (Nat.not_le.mpr hin), Readback.noRead_pending hfate,
    Readback.holding_filter_none hother, Bool.false_eq_true, if_false, State.releaseReadback_of_noneWaits r hwait,
    State.resident_setReadback, hres]
  simp [State.pin]

theorem State.readbackRead_fetch (hend : (s.readback r).endPoint ≠ some (s.readback r).cursor)
    (htake : (s.readback r).take = some id) (hfind : s.findTake id = some t) (hin : (s.readback r).cursor < t.length)
    (hfate : ∀ p, (s.readback r).pendingRead = some p → p.fate ≠ .none_)
    (hother : ∀ h, (s.readback r).holding = some h → h.take = t.id → h.page ≠ takePage t.channels (s.readback r).cursor)
    (hwait : (s.readback r).holding ≠ none → s.noneWaits)
    (hres : (s.withoutHolding (s.readback r).holding).resident t.id (takePage t.channels (s.readback r).cursor) = none) :
    s.readbackRead r = ((s.withoutHolding (s.readback r).holding).setReadback r
      { s.readback r with holding := none }).readbackFlashRead r t.id (takePage t.channels (s.readback r).cursor) := by
  have hbind : (s.readback r).take.bind s.findTake = some t := by rw [htake, Option.bind_some, hfind]
  simp only [State.readbackRead, if_neg hend, hbind, takeWindow, if_neg (Nat.not_le.mpr hin), Readback.noRead_pending hfate,
    Readback.holding_filter_none hother, Bool.false_eq_true, if_false, State.releaseReadback_of_noneWaits r hwait,
    State.resident_setReadback, hres]

/-! ### The flash read of a read-back page (R117) -/

theorem State.readbackFlashRead_busy {take tp : Nat} (hpend : (s.readback r).pendingRead ≠ none) :
    s.readbackFlashRead r take tp = s.answer (.room r) .busy {} (positionBody (s.readback r).cursor) := by
  simp only [State.readbackFlashRead, Option.isSome_iff_ne_none.mpr hpend, if_true]

theorem State.readbackFlashRead_few {take tp : Nat} (hpend : (s.readback r).pendingRead = none) (hfew : s.freeBuffers ≤ s.nrec) :
    s.readbackFlashRead r take tp = s.answer (.room r) .waitStore {} (positionBody (s.readback r).cursor) := by
  simp only [State.readbackFlashRead, hpend]
  cases s.firstFree with
  | none => rfl
  | some b =>
    cases s.chainUnit take (chainIndex tp) with
    | none => rfl
    | some u => exact if_neg (Nat.not_lt.mpr hfew)

theorem State.readbackFlashRead_request {take tp : Nat} {b : BufId} {e : UnitEntry} (hpend : (s.readback r).pendingRead = none)
    (henough : s.nrec < s.freeBuffers) (hfree : s.firstFree = some b) (hunit : s.chainUnit take (tp / 64) = some e) :
    s.readbackFlashRead r take tp = ((s.requestPageRead (.readback r) 1 take tp e b).setReadback r
      { s.readback r with pendingRead := some ⟨take, tp, .none_⟩ }).answer (.room r) .busy {} (positionBody (s.readback r).cursor) := by
  have hunit' : s.chainUnit take (chainIndex tp) = some e := hunit
  simp only [State.readbackFlashRead, hpend, hfree, hunit', if_pos henough]
  simp [State.requestPageRead]

end ReadbackRead

theorem State.readbackWaits_taken {s : State} {r : RoomId} (h : (s.readback r).holding ≠ none → s.noneWaits) (l : LinkId) (kind : Nat)
    (tag : Byte) : ((s.taken l kind tag).readback r).holding ≠ none → (s.taken l kind tag).noneWaits :=
  fun hh => State.noneWaits_setLink (h (by simpa using hh)) ..

theorem execReadbackRead_active {s : State} {r : RoomId} {tag : Byte} {body : List Byte} (hserve : s.canServe (.room r))
    (hparse : parseNone body = some ()) (hactive : (s.readback r).active = true) :
    exec (.readbackRead r tag body) s = .next (State.settle s ((s.taken (.room r) 0x15 tag).readbackRead r)) := by
  obtain ⟨htake, hready⟩ := hserve
  simp only [exec, execReadbackRead]
  rw [State.request_served htake hparse (by rw [hready]; rfl)]
  simp only [serveReadbackRead, State.readback_taken, hactive, if_true, State.settle_taken]

/-- Settles O28. -/
theorem readbackReads : Obligations.ReadbackReads := by
  refine fun r tag body id t s hserve hparse hactive htk hfind hend hin => ?_
  have hend' : ((s.taken (.room r) 0x15 tag).readback r).endPoint ≠ some ((s.taken (.room r) 0x15 tag).readback r).cursor := by
    simpa using hend
  have htk' : ((s.taken (.room r) 0x15 tag).readback r).take = some id := by simpa using htk
  have hfind' : (s.taken (.room r) 0x15 tag).findTake id = some t := by simpa using hfind
  have hin' : ((s.taken (.room r) 0x15 tag).readback r).cursor < t.length := by simpa using hin
  rw [execReadbackRead_active hserve hparse hactive]
  refine ⟨fun p hpend hfate => ?pending, fun hfate => ⟨fun b owned hhold => ?held, fun hother hwait =>
    ⟨fun b hres => ?resident, fun hres => ?fetch⟩⟩⟩
  case pending =>
    rw [State.readbackRead_pending hend' htk' hfind' hin' (p := p) (by simpa using hpend) hfate, State.settle_same (by simp)]
    simp [positionBody]
  case held =>
    rw [State.readbackRead_held hend' htk' hfind' hin' (by simpa using hfate) (owned := owned) (b := b) (by simpa using hhold),
      State.settle_same (by simp [State.serveReadback])]
    simp [State.serveReadback, State.taken, State.answer, State.answered, hhold]
  case resident =>
    rw [State.readbackRead_resident hend' htk' hfind' hin' (by simpa using hfate) (by simpa using hother)
      (State.readbackWaits_taken hwait _ _ _) (b := b) (by simpa [State.taken] using hres),
      State.settle_same (by simp [State.serveReadback, State.pin])]
    simp [State.serveReadback, State.pin, State.taken, State.answer, State.answered]
  case fetch =>
    rw [State.readbackRead_fetch hend' htk' hfind' hin' (by simpa using hfate) (by simpa using hother)
      (State.readbackWaits_taken hwait _ _ _) (by simpa [State.taken] using hres)]
    simp only [State.taken, State.readback_setLink, State.withoutHolding_setLink, State.setReadback_setLink]
    refine ⟨fun hpend => ?busy, fun hpend hfew => ?few, fun b e hpend henough hfree hunit hnum => ?request⟩
    case busy =>
      rw [State.readbackFlashRead_busy (by simpa using hpend), State.settle_same (by simp)]
      simp [State.answer, State.answered, positionBody]
    case few =>
      rw [State.readbackFlashRead_few (by simpa using hpend) (by simpa using hfew), State.settle_same (by simp)]
      simp [State.answer, State.answered, positionBody]
    case request =>
      rw [State.readbackFlashRead_request (by simpa using hpend) (by simpa using henough) (by simpa using hfree) (by simpa using hunit),
        State.requestPageRead, State.settle_same (by simp)]
      refine congrArg Host.Outcome.next (Eq.trans ?_ (congrArg
        (fun u : State => (u.answered (.room r) 0x15 tag .busy {} (fieldBytes [fPos 1 (s.readback r).cursor])).issue)
        (State.requestOp_of_le ?_ ?_ hnum 1 _)))
      · simp [State.requestOp_setReadback, State.answer, State.answered, positionBody, pageInUnit, Config.unitPages]
      · simp
      · simp

/-- Settles O29. -/
theorem readbackEnds : Obligations.ReadbackEnds := by
  refine fun r tag body s hserve hparse hwait => ⟨fun hactive hend => ?stopped, fun id t hactive hend htk hfind hlen => ?atEnd,
    fun hidle => ?idle, fun hactive => ?stop, fun hidle => ?stopIdle⟩
  case stopped =>
    rw [execReadbackRead_active hserve hparse hactive, State.readbackRead_stopped (by simpa using hend)
      (State.readbackWaits_taken hwait _ _ _), State.settle_same (by simp)]
    simp [State.taken, State.answer, State.answered, positionBody]
  case atEnd =>
    rw [execReadbackRead_active hserve hparse hactive, State.readbackRead_atEnd (id := id) (t := t) (by simpa using hend)
      (by simpa using htk) (by simpa using hfind) (by simpa using hlen) (State.readbackWaits_taken hwait _ _ _)]
    by_cases hrec : t.state = .recording
    · rw [if_pos hrec, if_pos hrec, State.settle_same (by simp)]
      simp [positionBody]
    · rw [if_neg hrec, if_neg hrec, State.settle_same (by simp)]
      simp [State.taken, State.answer, State.answered, positionBody]
  all_goals obtain ⟨htake, hready⟩ := hserve
  case idle =>
    simp only [exec, execReadbackRead]
    rw [State.request_served htake hparse (by rw [hready]; rfl)]
    by_cases hgone : (s.readback r).gone = true
    · simp [serveReadbackRead, hidle, hgone, State.taken, State.answer, State.answered]
    · simp [serveReadbackRead, hidle, hgone]
  case stop =>
    simp only [exec, execReadbackStop]
    rw [State.request_served htake hparse (by rw [hready]; rfl)]
    simp only [serveReadbackStop, State.readback_taken, hactive, if_true, State.endReadback, State.idleReadback,
      State.restReadback_of_noneWaits (State.readbackWaits_taken hwait _ _ _), State.answerFields]
    rw [State.settle_same (by simp)]
    simp [State.taken, State.answer, State.answered]
  case stopIdle =>
    simp only [exec, execReadbackStop]
    rw [State.request_served htake hparse (by rw [hready]; rfl)]
    simp [serveReadbackStop, hidle, State.taken, State.answer, State.answered]

end Sys2Proof.Machine
end

section
/-! The supervisor's alerts (R191) and configuration (R29 to R31, R90, R136, R173, R183, R184), and SET_HOLD and SET_CLASS (R23, R24). -/

namespace Sys2Proof.Machine

/-! ### READ_ALERTS -/

theorem clampNat_eq_ite (count : Nat) : clampNat 1 8 count = if count < 1 then 1 else if 8 < count then 8 else count := by
  unfold clampNat
  split
  · omega
  · split <;> omega

/-- Settles O32. -/
theorem readAlerts : Obligations.ReadAlerts := by
  refine fun tag body count s htake hparse => ?_
  simp only [exec, execReadAlerts]
  rw [State.request_served htake hparse rfl]
  have halerts : (s.taken .supervisor 0x50 tag).alerts = s.alerts := rfl
  simp only [serveReadAlerts, halerts, clampNat_eq_ite]
  by_cases hnone : s.alerts = []
  · rw [if_pos hnone, if_pos hnone]
    rfl
  · rw [if_neg hnone, if_neg hnone]
    rfl

/-! ### CONFIGURE_BANK (R136) -/

theorem State.windowFits_iff (s : State) (b : BankId) (w : Window) :
    s.windowFits b w = true ↔ (w.size = 2048 ∨ w.size = 4096 ∨ w.size = 8192) ∧ w.base + w.size ≤ 32768 ∧
      ∀ (c : BankId) (z : Window), c ≠ b → s.windows[c] = some z → z.base + z.size ≤ w.base ∨ w.base + w.size ≤ z.base := by
  have happart : ∀ c : BankId, (c == b || !((s.window c).any w.overlaps)) = true ↔
      ∀ z, c ≠ b → s.windows[c] = some z → z.base + z.size ≤ w.base ∨ w.base + w.size ≤ z.base := by
    intro c
    rw [State.window]
    cases s.windows[c] with
    | none => simp
    | some z =>
      simp only [Option.any_some, Window.overlaps, Bool.or_eq_true, beq_iff_eq, Bool.not_eq_true', decide_eq_false_iff_not]
      constructor
      · rintro (h | h) z' hne hz
        · exact absurd h hne
        · cases hz
          omega
      · intro h
        by_cases hc : c = b
        · exact .inl hc
        · have := h z hc rfl
          exact .inr (by omega)
  simp only [State.windowFits, Window.legal, Bool.and_eq_true, Bool.or_eq_true, beq_iff_eq, decide_eq_true_eq, List.all_eq_true,
    allBanks, List.mem_finRange, true_implies, happart, or_assoc, and_assoc]

/-- Whether a unit stays as the window of a bank goes. -/
def State.staysOutside (s : State) (b : BankId) (n : Nat) : Bool :=
  s.windows[b].all fun old => decide (n < old.base ∨ old.base + old.size ≤ n)

theorem State.removeWindow_eq (s : State) (b : BankId) :
    s.removeWindow b = { s with
      windows := s.windows.set b none
      units := s.units.filter fun y => s.staysOutside b y.number
      reclaimFifo := s.reclaimFifo.filter (s.staysOutside b) } := by
  unfold State.removeWindow State.window
  cases hw : s.windows[b] with
  | none =>
    have hset : s.windows.set b none = s.windows := by
      rw [← hw]
      simp
    have hstay : s.staysOutside b = fun _ => true := by
      funext n
      simp [State.staysOutside, hw]
    simp [hset, hstay, filter_always]
  | some w =>
    have hstay : ∀ n, (!w.holds n) = s.staysOutside b n := by
      intro n
      rw [State.staysOutside, hw, Option.all_some, Window.holds, Bool.eq_iff_iff]
      simp only [Bool.not_eq_true', decide_eq_false_iff_not, decide_eq_true_eq]
      omega
    simp only [hstay]

/-- CONFIGURE_BANK of a bank, with the window's fit stated over the table. -/
theorem serveConfigureBank_fits {s : State} {b : BankId} {w : Option (Nat × Nat)}
    (hfits : ∀ v, w = some v → (v.2 = 2048 ∨ v.2 = 4096 ∨ v.2 = 8192) ∧ v.1 + v.2 ≤ 32768 ∧
      ∀ (c : BankId) (z : Window), c ≠ b → s.windows[c] = some z → z.base + z.size ≤ v.1 ∨ v.1 + v.2 ≤ z.base) :
    serveConfigureBank ⟨b.val, w⟩ s =
      if s.readiness ≠ .notReady then s.answer .supervisor .refused
      else
        (fun u : State => u.answerFields .supervisor .ok {}
            (windowFields (w.map fun p => (⟨p.1, p.2⟩ : Window)) ++ [fNum 3 2 u.unitsInside]))
          (w.elim (s.removeWindow b) fun p => (s.removeWindow b).addWindow b ⟨p.1, p.2⟩) := by
  have hok : ((w.map fun p => (⟨p.1, p.2⟩ : Window)).any fun w => !s.windowFits b w) = false := by
    cases w with
    | none => rfl
    | some v =>
      have hv := (s.windowFits_iff b ⟨v.1, v.2⟩).mpr (hfits v rfl)
      simp [hv]
  simp only [serveConfigureBank]
  rw [dif_pos b.isLt]
  simp only [hok, Bool.false_eq_true, if_false]
  cases w <;> rfl

theorem serveConfigureBank_unfit {s : State} {b : BankId} {w : Option (Nat × Nat)}
    (hunfit : ¬ ∀ v, w = some v → (v.2 = 2048 ∨ v.2 = 4096 ∨ v.2 = 8192) ∧ v.1 + v.2 ≤ 32768 ∧
      ∀ (c : BankId) (z : Window), c ≠ b → s.windows[c] = some z → z.base + z.size ≤ v.1 ∨ v.1 + v.2 ≤ z.base) :
    serveConfigureBank ⟨b.val, w⟩ s = s.answer .supervisor .badArg := by
  have hbad : ((w.map fun p => (⟨p.1, p.2⟩ : Window)).any fun w => !s.windowFits b w) = true := by
    cases w with
    | none => exact absurd (fun v hv => by cases hv) hunfit
    | some v =>
      refine Decidable.byContradiction fun hgood => ?_
      have hgood' : s.windowFits b ⟨v.1, v.2⟩ = true := by simpa using hgood
      exact hunfit fun v' hv' => Option.some.inj hv' ▸ (s.windowFits_iff b ⟨v.1, v.2⟩).mp hgood'
  simp only [serveConfigureBank]
  rw [dif_pos b.isLt]
  exact if_pos hbad

/-- Settles O33. -/
theorem configureBank : Obligations.ConfigureBank := by
  refine ⟨fun tag body n w s htake hparse hn => ?number, fun tag body b w s htake hparse => ?window⟩
  case number =>
    simp only [exec, execConfigureBank]
    rw [State.request_served htake hparse rfl]
    simp only [serveConfigureBank]
    rw [dif_neg (by omega), State.answer_taken]
  case window =>
    simp only [exec, execConfigureBank]
    rw [State.request_served htake hparse rfl]
    refine ⟨fun hunfit => ?unfit, fun hfits hready => ?refused, fun hfits hready hnone => ⟨s.removeWindow b, ?removed, ?removedState⟩,
      fun hfits hready v hv => ⟨(s.removeWindow b).addWindow b ⟨v.1, v.2⟩, ?brought, ?broughtState⟩⟩
    case unfit =>
      rw [serveConfigureBank_unfit (s := s.taken .supervisor 0x40 tag) hunfit, State.answer_taken]
    case refused =>
      rw [serveConfigureBank_fits (s := s.taken .supervisor 0x40 tag) hfits, if_pos (by simpa using hready), State.answer_taken]
    case removedState => exact s.removeWindow_eq b
    case broughtState =>
      rw [State.removeWindow_eq]
      simp only [State.addWindow, List.filter_filter, Window.numbers, List.map_map, Vector.set_set, Bool.and_comm]
      rfl
    case removed =>
      subst hnone
      rw [serveConfigureBank_fits (s := s.taken .supervisor 0x40 tag) hfits, if_neg (by simpa using hready)]
      simp only [Option.elim_none, State.removeWindow_eq]
      rfl
    case brought =>
      subst hv
      rw [serveConfigureBank_fits (s := s.taken .supervisor 0x40 tag) hfits, if_neg (by simpa using hready)]
      simp only [Option.elim_some, State.removeWindow_eq]
      rfl

/-! ### REBUILD (R173, R174) -/

/-- The scans of several units begun one after another. -/
theorem State.beginScans {s : State} {x : Rebuild} (bases : List Nat) (hx : s.rebuild = some x)
    (hnum : s.requestNumber + bases.length ≤ 4294967296) :
    bases.foldl State.beginScan s = { s with
      rebuild := some { x with scans := x.scans ++ bases.map fun n => ⟨n, none, [], none⟩ }
      flashOps := s.flashOps ++ bases.zipIdx.map fun p => ⟨6, s.requestNumber + p.2, .spareRead p.1 0⟩
      requestNumber := s.requestNumber + bases.length } := by
  induction bases generalizing s x with
  | nil => simp [← hx]
  | cons n ns ih =>
    rw [List.length_cons] at hnum
    have hfirst : s.beginScan n = { s with
        rebuild := some { x with scans := x.scans ++ [⟨n, none, [], none⟩] }
        flashOps := s.flashOps ++ [⟨6, s.requestNumber, .spareRead n 0⟩]
        requestNumber := s.requestNumber + 1 } := by
      simp only [State.beginScan, hx]
      exact State.requestOp_of_le (s := { s with rebuild := some { x with scans := x.scans ++ [⟨n, none, [], none⟩] } })
        (ops := s.flashOps) (n := s.requestNumber) rfl rfl (by omega) 6 _
    rw [List.foldl_cons, hfirst, ih rfl (by dsimp only; omega)]
    have hops : (ns.zipIdx 1).map (fun p => (⟨6, s.requestNumber + p.2, .spareRead p.1 0⟩ : FlashOp)) =
        ns.zipIdx.map fun p => ⟨6, s.requestNumber + 1 + p.2, .spareRead p.1 0⟩ := by
      rw [List.zipIdx_succ, List.map_map]
      refine List.map_congr_left fun p _ => ?_
      simp only [Function.comp_apply, Nat.add_assoc, Nat.add_comm 1]
    simp [hops, Nat.add_assoc, Nat.add_comm 1]

/-- Settles O34. -/
theorem rebuildBegins : Obligations.RebuildBegins := by
  refine fun tag body s htake hparse => ?_
  have hbases : ([0, 1, 2, 3] : List BankId).filterMap (fun b => s.windows[b].map Window.base) =
      (allBanks.filterMap s.window).map Window.base := by
    rw [List.map_filterMap]
    rfl
  have hwindows : (s.taken .supervisor 0x41 tag).window = s.window := rfl
  simp only [exec, execRebuild]
  rw [State.request_served htake hparse rfl, hbases]
  refine ⟨fun hrefused => ?refused, fun hready hsome hnum => ?begun⟩
  case refused =>
    have hcond : (s.taken .supervisor 0x41 tag).readiness ≠ .notReady ∨ allBanks.filterMap (s.taken .supervisor 0x41 tag).window = [] := by
      simpa [hwindows] using hrefused
    simp only [serveRebuild, if_pos hcond, State.answer_taken]
  case begun =>
    have hcond : ¬ ((s.taken .supervisor 0x41 tag).readiness ≠ .notReady ∨
        allBanks.filterMap (s.taken .supervisor 0x41 tag).window = []) := by
      simpa [hwindows, hready] using hsome
    have hlen : ((allBanks.filterMap s.window).map Window.base).length ≤ 4 := by
      rw [List.length_map]
      exact List.length_filterMap_le ..
    simp only [serveRebuild, if_neg hcond]
    rw [← List.foldl_map, State.beginScans _ rfl (by show s.requestNumber + _ ≤ _; rw [hwindows]; omega), State.settle_same (by rfl)]
    rfl

/-! ### CONFIGURE_DEVICE and SETTINGS_HOLD (R183, R184) -/

/-- Settles O35. -/
theorem deviceSettings : Obligations.DeviceSettings := by
  refine fun tag body s htake hready => ?_
  have hgroup : Group.configuration.admits s.readiness = true := by simpa [Group.admits] using hready
  refine ⟨fun a hparse => ⟨_, ?device, rfl⟩, fun hparse => ?set, fun hparse hhold => ?clear, fun hparse hhold => ⟨_, ?applied, rfl⟩⟩
  case device =>
    have houter : outside 0 32767 a.lowWater = a.lowWater.any fun n => decide (32767 < n) := by simp [outside]
    have hclamp : clampNat 0 32767 = fun n => min n 32767 := by
      funext n
      simp [clampNat]
    simp only [exec, execConfigureDevice]
    rw [State.request_served htake hparse hgroup]
    simp only [serveConfigureDevice, houter, hclamp]
    rfl
  case set =>
    simp only [exec, execSettingsHold]
    rw [State.request_served htake hparse hgroup]
    rfl
  case clear =>
    have hhold' : (s.taken .supervisor 0x43 tag).settingsHold = false := hhold
    simp only [exec, execSettingsHold]
    rw [State.request_served htake hparse hgroup]
    simp only [serveSettingsHold, hhold', Bool.false_eq_true, if_false]
    rfl
  case applied =>
    have hhold' : (s.taken .supervisor 0x43 tag).settingsHold = true := hhold
    simp only [exec, execSettingsHold]
    rw [State.request_served htake hparse hgroup]
    simp only [serveSettingsHold, hhold', Bool.false_eq_true, if_true, if_false]
    rfl

/-! ### CONFIGURE_STATION, SET_HOLD and SET_CLASS (R23, R24, R90) -/

/-- Settles O37. -/
theorem stationClassesHoldsAndClasses : Obligations.StationClassesHoldsAndClasses := by
  refine fun tag body s htake => ⟨fun k m hready hparse => ?station, fun n m hready hparse hn => ?noStation,
    fun id h hready hparse hfind => ?noTakeHold, fun id c hready hparse hfind => ?noTakeClass, fun id h t hready hparse hfind => ?hold,
    fun id c t hready hparse hfind => ?cls⟩
  case station =>
    simp only [exec, execConfigureStation]
    rw [State.request_served htake hparse (by simpa [Group.admits] using hready)]
    simp [serveConfigureStation, State.taken, State.answer, State.answered]
  case noStation =>
    simp only [exec, execConfigureStation]
    rw [State.request_served htake hparse (by simpa [Group.admits] using hready)]
    simp only [serveConfigureStation]
    rw [dif_neg (by omega), State.answer_taken]
  case noTakeHold =>
    simp only [exec, execSetHold]
    rw [State.request_served htake hparse (by rw [hready]; rfl)]
    simp [serveSetHold, hfind]
  case noTakeClass =>
    simp only [exec, execSetClass]
    rw [State.request_served htake hparse (by rw [hready]; rfl)]
    simp [serveSetClass, hfind]
  case hold =>
    have hid := State.findTake_id hfind
    simp only [exec, execSetHold]
    rw [State.request_served htake hparse (by rw [hready]; rfl)]
    by_cases hr : t.state = .released
    · simp [serveSetHold, hfind, hr]
    · simp [serveSetHold, hfind, hr, hid, State.taken, State.answer, State.answered]
  case cls =>
    have hid := State.findTake_id hfind
    simp only [exec, execSetClass]
    rw [State.request_served htake hparse (by rw [hready]; rfl)]
    refine ⟨fun hr => ?_, fun hr hsame => ?_, fun hr hother hrush => ?_⟩
    · simp [serveSetClass, hfind, hr]
    · simp [serveSetClass, hfind, hr, hsame]
    · have hquiet : s.rushCount = 0 → ((s.modTake id fun y => { y with cls := c }).answered .supervisor 0x48 tag .ok {} []).rushCount = 0 := by
        intro h
        rw [State.rushCount_congr (t := s.modTake id fun y => { y with cls := c }) (by simp)]
        exact State.rushCount_modTake (fun t => ⟨fun h => absurd h hrush, fun g hg hw => ⟨g, hg, hw⟩⟩) h
      rw [← State.settle_noRush hquiet]
      cases hgrow : t.growing <;>
        simp [serveSetClass, hfind, hr, hother, hid, hrush, hgrow, State.taken, State.answer, State.answered]

end Sys2Proof.Machine
end

section
/-! CONFIGURE_ROOM and staged settings (R29, R30). -/

namespace Sys2Proof.Machine

/-- A channel count that is none of the three. -/
theorem Channels.ofCount_isNone (n : Nat) : (Channels.ofCount n).isNone = decide (n ∉ [1, 2, 4]) := by
  unfold Channels.ofCount
  split
  · rfl
  · rfl
  · rfl
  · rename_i h1 h2 h4
    have : n ∉ [1, 2, 4] := by
      simp only [List.mem_cons, List.not_mem_nil, or_false, not_or]
      exact ⟨h1, h2, h4⟩
    simpa using this

theorem channels_entered (n : Option Nat) (c : Channels) :
    (n.bind Channels.ofCount).getD c = match n with
      | some 1 => .one
      | some 2 => .two
      | some 4 => .four
      | _ => c := by
  split
  · rfl
  · rfl
  · rfl
  · rename_i h1 h2 h4
    cases n with
    | none => rfl
    | some n =>
      have hnone : Channels.ofCount n = none := by
        rw [← Option.isNone_iff_eq_none, Channels.ofCount_isNone]
        simp only [List.mem_cons, List.not_mem_nil, or_false, not_or, decide_eq_true_eq]
        exact ⟨fun h => h1 (h ▸ rfl), fun h => h2 (h ▸ rfl), fun h => h4 (h ▸ rfl)⟩
      rw [Option.bind_some, hnone]
      rfl

theorem clampRoomArgs_eq (a : ConfigureRoomArgs) :
    clampRoomArgs a = { a with
      capture0 := a.capture0.map fun n => min n 4095
      capture1 := a.capture1.map fun n => min n 4095
      capture2 := a.capture2.map fun n => min n 4095
      capture3 := a.capture3.map fun n => min n 4095
      target := a.target.map fun n => min (max n 10) 3600
      minimum := a.minimum.map fun n => min (max n 5) 3600
      extension := a.extension.map fun n => min n 900
      overlap := a.overlap.map fun n => min n 1000
      readbackFactor := a.readbackFactor.map fun n => min n 4095 } := by
  have hmin : ∀ k, min k = fun n => min n k := fun k => funext fun n => Nat.min_comm k n
  rw [clampRoomArgs, hmin 4095, hmin 900, hmin 1000]
  rfl

theorem orElse_eq_ite {α : Type} (x y : Option α) : (x <|> y) = if x.isSome then x else y := by
  cases x <;> rfl

theorem carriesIdleSetting_iff (a : ConfigureRoomArgs) :
    carriesIdleSetting a = true ↔ a.channels ≠ none ∨ a.timing ≠ none ∨ a.order ≠ none := by
  simp [carriesIdleSetting, Option.isSome_iff_ne_none, or_assoc]

/-- CONFIGURE_ROOM of a room that a legal channel count names. -/
theorem serveConfigureRoom_room {s : State} {a : ConfigureRoomArgs} {r : RoomId} (hroom : a.room = r.val)
    (hchan : a.channels.all (· ∈ [1, 2, 4]) = true) :
    serveConfigureRoom a s =
      if carriesIdleSetting a = true ∧ (s.room r).state = .recording then s.answer .supervisor .refused
      else
        (fun y : Room => (s.setRoom r (if (s.room r).state ≠ .recording ∧ (!s.settingsHold) = true then y.applyStaged else y)).answerFields
            .supervisor .ok { clamped := decide (clampRoomArgs a ≠ a) } (if clampRoomArgs a ≠ a then usedRoomArgs (clampRoomArgs a) else []))
          { s.room r with
            active := (s.room r).active.enterNow (clampRoomArgs a)
            staged := (s.room r).staged.stage (clampRoomArgs a) } := by
  have hlt : a.room < 6 := hroom ▸ r.isLt
  have hr : (⟨a.room, hlt⟩ : RoomId) = r := Fin.ext hroom
  have hgood : ¬ (a.channels.any fun n => (Channels.ofCount n).isNone) = true := by
    simp only [Channels.ofCount_isNone]
    cases hc : a.channels with
    | none => simp
    | some n =>
      have hn : n ∈ [1, 2, 4] := by simpa [hc] using hchan
      rw [Option.any_some, decide_eq_true_eq]
      exact fun h => h hn
  simp only [serveConfigureRoom]
  rw [dif_pos hlt, hr, if_neg hgood]

/-- Settles O36. -/
theorem configureRoom : Obligations.ConfigureRoom := by
  refine ⟨fun tag body a s htake hready hparse hbad => ?bad, fun tag body a r s htake hready hparse hroom hchan => ?room, fun s r => ?boundary⟩
  case bad =>
    have hbad' : a.channels.any (fun n => (Channels.ofCount n).isNone) = true ∨ ¬ a.room < 6 := by
      simp only [Channels.ofCount_isNone]
      obtain h | h := hbad
      · exact .inr (by omega)
      · exact .inl h
    simp only [exec, execConfigureRoom]
    rw [State.request_served htake hparse (by simpa [Group.admits] using hready)]
    simp only [serveConfigureRoom]
    by_cases hlt : a.room < 6
    · rw [dif_pos hlt, if_pos (hbad'.resolve_right (fun h => h hlt)), State.answer_taken]
    · rw [dif_neg hlt, State.answer_taken]
  case room =>
    simp only [exec, execConfigureRoom]
    rw [State.request_served htake hparse (by simpa [Group.admits] using hready), serveConfigureRoom_room hroom hchan]
    refine ⟨fun hrec hidle => ?refused, fun hidle => ?entered⟩
    case refused =>
      rw [if_pos ⟨(carriesIdleSetting_iff a).mpr hidle, by simpa using hrec⟩, State.answer_taken]
    case entered =>
      rw [if_neg fun h => hidle (by simpa using h.2) ((carriesIdleSetting_iff a).mp h.1)]
      have hhold : (s.taken .supervisor 0x44 tag).settingsHold = s.settingsHold := rfl
      have happly : ∀ y : Room, (if (s.room r).state ≠ .recording ∧ (!s.settingsHold) = true then y.applyStaged else y) =
          if (s.room r).state = .recording ∨ s.settingsHold = true then y else y.applyStaged := by
        intro y
        by_cases hrec : (s.room r).state = .recording
        · simp [hrec]
        · by_cases hset : s.settingsHold = true <;> simp [hrec, hset]
      have hfields : fieldBytes (if clampRoomArgs a ≠ a then usedRoomArgs (clampRoomArgs a) else []) =
          if clampRoomArgs a ≠ a then fieldBytes (usedRoomArgs (clampRoomArgs a)) else [] := by
        split <;> rfl
      simp only [State.room_taken, hhold, happly, State.answerFields, hfields]
      simp only [RoomSettings.enterNow, StagedSettings.stage, channels_entered, orElse_eq_ite, clampRoomArgs_eq a, usedRoomArgs]
      rfl
  case boundary =>
    refine ⟨fun h => ?_, fun h => ?_, fun y => ⟨_, rfl, rfl, rfl, rfl, rfl, fun j => ?_, rfl, rfl, rfl, rfl, rfl, rfl, rfl⟩⟩
    · simp [State.blockBoundary, h]
    · simp [State.blockBoundary, h]
    · simp [Room.applyStaged, RoomSettings.apply]

end Sys2Proof.Machine
end

section
/-! STATUS and the queries (R53, R86, R108, R134, R155, R171, R185 to R188), and the conversions of positions (R54, R55, R67). -/

namespace Sys2Proof.Machine

/-! ### Fields that fit in a frame (R197) -/

theorem length_fieldBytes_cons (f : BodyField) (fs : List BodyField) :
    (fieldBytes (f :: fs)).length = f.value.length + 2 + (fieldBytes fs).length := by
  simp [fieldBytes]
  omega

theorem fitFields_prefix (n : Nat) (fs : List BodyField) : fitFields n fs = fs.take (fitFields n fs).length := by
  induction fs generalizing n with
  | nil => rfl
  | cons f fs ih =>
    unfold fitFields
    split
    · rw [List.length_cons, List.take_succ_cons, ← ih]
    · rfl

theorem length_fieldBytes_fitFields (n : Nat) (fs : List BodyField) : (fieldBytes (fitFields n fs)).length ≤ n := by
  induction fs generalizing n with
  | nil => exact Nat.zero_le _
  | cons f fs ih =>
    unfold fitFields
    split
    · rw [length_fieldBytes_cons]
      have := ih (n - (f.value.length + 2))
      omega
    · exact Nat.zero_le _

/-- No longer beginning of the fields fits. -/
theorem le_length_fitFields {n k : Nat} {fs : List BodyField} (hk : k ≤ fs.length) (h : (fieldBytes (fs.take k)).length ≤ n) :
    k ≤ (fitFields n fs).length := by
  induction fs generalizing n k with
  | nil => exact hk
  | cons f fs ih =>
    cases k with
    | zero => exact Nat.zero_le _
    | succ k =>
      rw [List.take_succ_cons, length_fieldBytes_cons] at h
      rw [List.length_cons] at hk
      unfold fitFields
      rw [if_pos (by omega), List.length_cons]
      exact Nat.succ_le_succ (ih (by omega) (by omega))

theorem exists_of_any {α : Type} {p : α → Bool} {x : Option α} (h : x.any p = true) : ∃ a, x = some a ∧ p a = true := by
  cases x with
  | none => cases h
  | some a => exact ⟨a, rfl, h⟩

/-! ### Queries -/

theorem State.deviceFields_taken (s : State) (kind : Nat) (tag : Byte) : (s.taken .supervisor kind tag).deviceFields = s.deviceFields := by
  have hup : ∀ l, ((s.taken .supervisor kind tag).link l).up = (s.link l).up := by
    intro l
    cases l <;> rfl
  simp only [State.deviceFields, hup]
  rfl

/-- A query of the supervisor is served in every readiness state. -/
theorem State.query_served {s : State} {α : Type} {kind : Nat} {tag : Byte} {args : Option α} {a : α} {f : α → State → State}
    (htake : s.canTake .supervisor) (ha : args = some a) :
    s.request .supervisor kind tag .always args f = f a (s.taken .supervisor kind tag) :=
  State.request_served htake ha rfl

/-- Settles O42: query by query. -/
theorem reportsAndQueries : Obligations.ReportsAndQueries := by
  refine ⟨fun tag body s htake => ⟨fun n hparse hn => ?noStation, fun n hparse hn => ?noReadback, fun n clear hparse hn => ?noRoom,
      fun id hparse hfind => ?noTake, fun id skip hparse hfind => ?noSegments, fun a hparse hfind => ?noMarks, fun a hparse hnone => ?noStore⟩,
    ⟨fun k tag body s hserve hparse hstate => ?status, fun k tag body s htake hparse => ?station⟩,
    fun tag body s htake => ⟨fun hparse => ?device, fun skip states hparse => ?takes, fun id hparse t hfind => ?take,
      fun id skip hparse t hfind => ?segments, fun a hparse t hfind => ?marks⟩,
    fun tag body s htake => ⟨fun r hparse => ?readback, fun r clear hparse => ?room, fun skip hparse => ?noQueue,
      fun skip classes hparse hclasses => ?queue, fun a hparse hunit htk => ?store,
      fun n fs => ⟨fitFields_prefix n fs, length_fieldBytes_fitFields n fs, fun k hk h => le_length_fitFields hk h⟩⟩⟩
  case noStation =>
    simp only [exec, execQueryStation]
    rw [State.query_served htake hparse, serveQueryStation, dif_neg (by omega), State.answer_taken]
  case noReadback =>
    simp only [exec, execQueryReadback]
    rw [State.query_served htake hparse, serveQueryReadback, dif_neg (by omega), State.answer_taken]
  case noRoom =>
    simp only [exec, execQueryRoom]
    rw [State.query_served htake hparse, serveQueryRoom, dif_neg (by dsimp only; omega), State.answer_taken]
  case noTake =>
    simp only [exec, execQueryTake]
    rw [State.query_served htake hparse]
    simp only [serveQueryTake, State.findTake_taken, hfind, State.answer_taken]
  case noSegments =>
    simp only [exec, execQuerySegments]
    rw [State.query_served htake hparse]
    simp only [serveQuerySegments, State.findTake_taken, hfind, State.answer_taken]
  case noMarks =>
    simp only [exec, execQueryMarks]
    rw [State.query_served htake hparse]
    simp only [serveQueryMarks, State.findTake_taken, hfind, State.answer_taken]
  case noStore =>
    have hcond : a.unit.any (fun n => ((s.taken .supervisor 0x5A tag).unit n).isNone) = true ∨
        a.take.any (fun p => ((s.taken .supervisor 0x5A tag).findTake p.1).isNone) = true := by
      refine hnone.imp ?_ ?_
      · rintro ⟨n, hn, hu⟩
        have hu' : (s.taken .supervisor 0x5A tag).unit n = none := hu
        simp [hn, hu']
      · rintro ⟨p, hp, ht⟩
        simp [hp, ht]
    simp only [exec, execQueryStore]
    rw [State.query_served htake hparse, serveQueryStore, if_pos hcond, State.answer_taken]
  case status =>
    obtain ⟨htake, hready⟩ := hserve
    simp only [exec, execStatus]
    rw [State.request_served htake hparse (by rw [hready]; rfl), serveStatus, if_neg (by simpa using hstate)]
    exact congrArg Host.Outcome.next (State.answer_taken ..)
  case station =>
    simp only [exec, execQueryStation]
    rw [State.query_served htake hparse, serveQueryStation, dif_pos k.isLt]
    exact congrArg Host.Outcome.next (State.answer_taken ..)
  case device =>
    simp only [exec, execQueryDevice]
    rw [State.query_served htake hparse, State.deviceFields_taken]
    exact congrArg Host.Outcome.next (State.answer_taken ..)
  case takes =>
    simp only [exec, execQueryTakes]
    rw [State.query_served htake hparse, serveQueryTakes]
    exact congrArg Host.Outcome.next (State.answer_taken ..)
  case take =>
    simp only [exec, execQueryTake]
    rw [State.query_served htake hparse]
    simp only [serveQueryTake, State.findTake_taken, hfind]
    exact congrArg Host.Outcome.next (State.answer_taken ..)
  case segments =>
    simp only [exec, execQuerySegments]
    rw [State.query_served htake hparse]
    simp only [serveQuerySegments, State.findTake_taken, hfind]
    exact congrArg Host.Outcome.next (State.answer_taken ..)
  case marks =>
    simp only [exec, execQueryMarks]
    rw [State.query_served htake hparse]
    simp only [serveQueryMarks, State.findTake_taken, hfind]
    exact congrArg Host.Outcome.next (State.answer_taken ..)
  case readback =>
    simp only [exec, execQueryReadback]
    rw [State.query_served htake hparse, serveQueryReadback, dif_pos r.isLt]
    exact congrArg Host.Outcome.next (State.answer_taken ..)
  case room =>
    simp only [exec, execQueryRoom]
    rw [State.query_served htake hparse]
    simp only [serveQueryRoom]
    rw [dif_pos r.isLt]
    cases clear
    · rfl
    · rfl
  case noQueue =>
    simp only [exec, execQueryQueue]
    rw [State.query_served htake hparse]
    simp only [serveQueryQueue, if_true, State.answer_taken]
  case queue =>
    simp only [exec, execQueryQueue]
    rw [State.query_served htake hparse]
    simp only [serveQueryQueue, if_neg hclasses]
    exact congrArg Host.Outcome.next (State.answer_taken ..)
  case store =>
    have hcond : ¬ (a.unit.any (fun n => ((s.taken .supervisor 0x5A tag).unit n).isNone) = true ∨
        a.take.any (fun p => ((s.taken .supervisor 0x5A tag).findTake p.1).isNone) = true) := by
      rintro (h | h)
      · obtain ⟨n, hn, hu⟩ := exists_of_any h
        exact hunit n hn (Option.isNone_iff_eq_none.mp hu)
      · obtain ⟨p, hp, ht⟩ := exists_of_any h
        exact htk p hp (by simpa using ht)
    simp only [exec, execQueryStore]
    rw [State.query_served htake hparse, serveQueryStore, if_neg hcond]
    exact congrArg Host.Outcome.next (State.answer_taken ..)

/-! ### Positions (R54, R55, R67) -/

/-- Settles O44. -/
theorem positions : Obligations.Positions := by
  refine ⟨fun cs => ?_, fun cs => ⟨?_, fun h => ?_⟩, fun b => ?_, fun b => ?_, fun c b => ?_⟩
  · unfold csToBlocks
    omega
  · rcases Int.lt_trichotomy cs 0 with h | rfl | h
    · rw [offsetBlocks, offsetBlocks, if_neg (by omega), if_pos h, Int.natAbs_neg, Int.neg_neg]
    · rfl
    · rw [offsetBlocks, offsetBlocks, if_pos (by omega), if_neg (by omega), Int.natAbs_neg]
  · have hneg : ¬ cs < 0 := by omega
    have habs : cs.natAbs = cs.toNat := by omega
    rw [offsetBlocks, if_neg hneg, habs]
  · unfold blocksToCs
    omega
  · have hmod : b % 5 = 0 ∨ b % 5 = 1 ∨ b % 5 = 2 ∨ b % 5 = 3 ∨ b % 5 = 4 := by omega
    unfold csToBlocks blocksToCs
    rcases hmod with h | h | h | h | h <;> simp [h] <;> omega
  · have hbpp : 0 < c.bpp := by cases c <;> decide
    refine ⟨?_, Nat.mod_lt _ hbpp, by cases c <;> rfl, ?_, Nat.mod_lt _ (by decide), fun j hj => ?_⟩
    · rw [takePage, blockInPage, Nat.mul_comm]
      exact Nat.div_add_mod ..
    · rw [chainIndex, pageInUnit, Config.unitPages]
      omega
    · have hk : blockInPage c b < c.bpp := Nat.mod_lt _ hbpp
      unfold sectorOf
      cases c <;> simp only [Channels.count, Channels.bpp] at hj hk ⊢ <;> omega

end Sys2Proof.Machine
end

section
/-! The supervisor's work commands on segments: DIRECT (R79, R80, R104), RECALL (R82, R105) and MARK_TYPED (R22, R181). -/

namespace Sys2Proof.Machine

/-! ### A request taken stands outermost -/

section Taken

variable (s : State) (l : LinkId) (kind : Nat) (tag : Byte)

@[simp] theorem State.setRoom_taken (r : RoomId) (x : Room) : (s.taken l kind tag).setRoom r x = (s.setRoom r x).taken l kind tag := by
  simp [State.taken]
@[simp] theorem State.setStation_taken (k : StationId) (x : Station) :
    (s.taken l kind tag).setStation k x = (s.setStation k x).taken l kind tag := by simp [State.taken]
@[simp] theorem State.setReadback_taken (r : RoomId) (x : Readback) :
    (s.taken l kind tag).setReadback r x = (s.setReadback r x).taken l kind tag := by simp [State.taken]
@[simp] theorem State.setBuffer_taken (b : BufId) (x : Buffer) :
    (s.taken l kind tag).setBuffer b x = (s.setBuffer b x).taken l kind tag := by simp [State.taken]
@[simp] theorem State.modTake_taken (n : Nat) (f : Take → Take) :
    (s.taken l kind tag).modTake n f = (s.modTake n f).taken l kind tag := by simp [State.taken]
@[simp] theorem State.modSegment_taken (x : SegRef) (f : Segment → Segment) :
    (s.taken l kind tag).modSegment x f = (s.modSegment x f).taken l kind tag := by simp [State.taken]
@[simp] theorem State.modUnit_taken (n : Nat) (f : UnitEntry → UnitEntry) :
    (s.taken l kind tag).modUnit n f = (s.modUnit n f).taken l kind tag := by simp [State.taken]
@[simp] theorem State.enqueue_taken (x : SegRef) (band : Nat) :
    (s.taken l kind tag).enqueue x band = (s.enqueue x band).taken l kind tag := by simp [State.taken]
@[simp] theorem State.returnSegment_taken (x : SegRef) (p : Option Nat) :
    (s.taken l kind tag).returnSegment x p = (s.returnSegment x p).taken l kind tag := by simp [State.taken]
@[simp] theorem State.checkComplete_taken (n : Nat) :
    (s.taken l kind tag).checkComplete n = (s.checkComplete n).taken l kind tag := by simp [State.taken, State.checkComplete]
@[simp] theorem State.makeTyped_taken (x : SegRef) : (s.taken l kind tag).makeTyped x = (s.makeTyped x).taken l kind tag := by
  simp [State.taken]
@[simp] theorem State.withoutHolding_taken (h : Option Holding) :
    (s.taken l kind tag).withoutHolding h = (s.withoutHolding h).taken l kind tag := by simp [State.taken]
@[simp] theorem State.raise_taken (a : Alert) : (s.taken l kind tag).raise a = (s.raise a).taken l kind tag := by simp [State.taken]

theorem State.setLink_comm (s : State) {l m : LinkId} (h : l ≠ m) (x y : LinkRec) :
    (s.setLink l x).setLink m y = (s.setLink m y).setLink l x := by
  cases l <;> cases m <;> simp_all [State.setLink]
  · exact Vector.set_comm _ _ fun e => h (Fin.ext e)
  · exact Vector.set_comm _ _ fun e => h (Fin.ext e)

/-- A message queued on another link than that of the request. -/
theorem State.queued_taken {m : LinkId} (h : m ≠ l) (x : Message) :
    (s.taken l kind tag).queued m x = (s.queued m x).taken l kind tag := by
  simp only [State.taken, State.queued, State.link_setLink_ne s h.symm, State.link_setLink_ne s h]
  exact State.setLink_comm s h.symm _ _

theorem State.notify_of_up {s : State} {l : LinkId} (h : (s.link l).up = true) (kind : Nat) (body : List Byte) :
    s.notify l kind body = s.queued l ⟨.unsolicited, kind, 0, .ok, {}, body⟩ := by
  rw [State.notify, State.send]
  exact if_pos h

@[simp] theorem State.rushCount_taken : (s.taken l kind tag).rushCount = s.rushCount := State.rushCount_congr (by simp)

@[simp] theorem State.rushCount_withoutHolding (h : Option Holding) : (s.withoutHolding h).rushCount = s.rushCount :=
  State.rushCount_congr (by simp)

@[simp] theorem State.takes_queued (m : LinkId) (x : Message) : (s.queued m x).takes = s.takes := by simp [State.queued]

end Taken

@[simp] theorem State.link_taken_station (s : State) (k : StationId) (kind : Nat) (tag : Byte) :
    (s.taken .supervisor kind tag).link (.station k) = s.link (.station k) := rfl

/-! ### DIRECT -/

section Direct

variable {s : State} {k : StationId} {x : SegRef} {t : Take} {g : Segment}

/-- DIRECT of a segment found, to a station. -/
theorem serveDirect_found (hfind : s.findTake x.take = some t) (hstate : t.state ≠ .released) (hseg : t.segment x.index = some g) :
    serveDirect ⟨x.take, x.index, k.val⟩ s =
      if g.work ≠ some .queued ∨ (s.station k).state = .offline then s.answer .supervisor .refused
      else if (s.station k).shadow.isSome then s.answer .supervisor .busy
      else
        (fun r : State × Option Shadow => State.settle s
            (((r.1.giveCurrent k x (startPoint t g)).notify (.station k) noticeKind (directedBody x (startPoint t g) r.2)).answerFields
              .supervisor .ok {} (fPosSv 1 (startPoint t g) :: (r.2.toList.map fun sh => fEntry 2 (segmentItems sh.seg)))))
          (((s.station k).current.map fun cur => ((s.setShadow k cur).1, some (s.setShadow k cur).2)).getD
            (s.setFate k .preempted, none)) := by
  simp only [serveDirect]
  rw [dif_pos k.isLt]
  simp only [hfind, hseg, hstate, false_or]
  cases (s.station k).current <;> rfl

theorem State.giveCurrent_eq (p : Nat) :
    s.giveCurrent k x p = (s.modSegment x fun y => { y with work := some .assigned, holder := some (k, .current) }).setStation k
      { s.station k with state := .paused, current := some x, cursor := p, stop := none } := by
  simp [State.giveCurrent, State.assign]

theorem State.setShadow_of_noneWaits {cur : SegRef} (hwait : (s.station k).holding ≠ none → s.noneWaits) :
    s.setShadow k cur =
      (((s.withoutHolding (s.station k).holding).modSegment cur fun y => { y with holder := some (k, .shadow) }).setStation k
        { s.station k with
          stop := none
          shadow := some ⟨cur, (s.station k).cursor, (s.station k).state == .playing⟩
          holding := none
          pendingRead := (s.station k).pendingRead.map fun f => if f = .none_ then .preempted else f },
        ⟨cur, (s.station k).cursor, (s.station k).state == .playing⟩) := by
  simp [State.setShadow, State.setFate, State.releaseHolding_of_noneWaits k hwait]

/-- Giving a station a segment, and setting its context aside, queue no segment. -/
theorem State.rushCount_assigned (h : s.rushCount = 0) :
    (s.modSegment x fun y => { y with work := some .assigned, holder := some (k, .current) }).rushCount = 0 :=
  State.rushCount_modSegment (fun _ hw => by cases hw) h

theorem State.rushCount_held {o : Option (StationId × Slot)} (h : s.rushCount = 0) :
    (s.modSegment x fun y => { y with holder := o }).rushCount = 0 :=
  State.rushCount_modSegment (fun _ hw => hw) h

end Direct

/-- Settles O38. -/
theorem directGivesASegment : Obligations.DirectGivesASegment := by
  refine ⟨fun tag body a s hserve hparse => ?early, fun tag body k x t g s hserve hparse hfind hstate hseg => ?found⟩
  all_goals obtain ⟨htake, hready⟩ := hserve
  all_goals simp only [exec, execDirect]
  all_goals rw [State.request_served htake hparse (by rw [hready]; rfl)]
  case early =>
    simp only [serveDirect]
    refine ⟨fun hn => ?_, fun hn hfind => ?_, fun t hn hfind => ⟨fun hr => ?_, fun hr hseg => ?_⟩⟩
    · rw [dif_neg (by omega), State.answer_taken]
    · rw [dif_pos (by omega)]
      simp only [State.findTake_taken, hfind, State.answer_taken]
    · rw [dif_pos (by omega)]
      cases hseg : t.segment a.index <;> simp [hfind, hseg, hr]
    · rw [dif_pos (by omega)]
      simp [hfind, hseg, hr]
  case found =>
    rw [serveDirect_found (s := s.taken .supervisor 0x4B tag) (t := t) (g := g) (by simpa using hfind) hstate hseg]
    refine ⟨fun hbad => ?refused, fun hw hoff hshadow => ?busy, fun hw hoff hshadow hcur hup => ?idle,
      fun cur hw hoff hshadow hcur hwait hup => ?aside⟩
    case refused => rw [if_pos (by simpa using hbad), State.answer_taken]
    case busy =>
      rw [if_neg (by simp [hw, hoff]), if_pos (by simpa [Option.isSome_iff_ne_none] using hshadow), State.answer_taken]
    case idle =>
      rw [if_neg (by simp [hw, hoff]), if_neg (by simp [hshadow])]
      simp only [State.station_taken, hcur, Option.map_none, Option.getD_none, State.giveCurrent_eq, State.setFate, State.modStation_eq]
      rw [State.notify_of_up (by simpa using hup), State.settle_noRush]
      · simp [State.queued_taken, noticeKind, directedBody, State.answerFields]
      · intro h
        rw [State.rushCount_congr (t := s.modSegment x fun y => { y with work := some .assigned, holder := some (k, .current) })
          (by simp [State.answerFields])]
        exact State.rushCount_assigned (by simpa using h)
    case aside =>
      rw [if_neg (by simp [hw, hoff]), if_neg (by simp [hshadow])]
      simp only [State.station_taken, hcur, Option.map_some, Option.getD_some, State.giveCurrent_eq,
        State.setShadow_of_noneWaits (State.holdingWaits_taken hwait _ _ _)]
      rw [State.notify_of_up (by simpa using hup), State.settle_noRush]
      · simp [State.queued_taken, noticeKind, directedBody, State.answerFields]
      · intro h
        rw [State.rushCount_congr (t := ((s.withoutHolding (s.station k).holding).modSegment cur fun y =>
            { y with holder := some (k, .shadow) }).modSegment x fun y => { y with work := some .assigned, holder := some (k, .current) })
          (by simp [State.answerFields])]
        exact State.rushCount_assigned (State.rushCount_held (by simpa using h))

/-! ### RECALL -/

section Recall

variable {s : State} {k : StationId} {x : SegRef} {t : Take} {g : Segment}

theorem serveRecall_assigned {slot : Slot} (hfind : s.findTake x.take = some t) (hstate : t.state ≠ .released)
    (hseg : t.segment x.index = some g) (hwork : g.work = some .assigned) (hholder : g.holder = some (k, slot)) :
    serveRecall (x.take, x.index) s = State.settle s
      (((s.seize x k slot false).returnSegment x none).answerFields .supervisor .ok {} [fNum 1 1 k.val, fNum 2 1 slot.code]) := by
  simp only [serveRecall, hfind, hseg, if_neg hstate, hwork, hholder]

theorem serveRecall_refused (hfind : s.findTake x.take = some t) (hstate : t.state ≠ .released)
    (hseg : t.segment x.index = some g) (hwork : g.work ≠ some .assigned) :
    serveRecall (x.take, x.index) s = s.answer .supervisor .refused := by
  simp only [serveRecall, hfind, hseg, if_neg hstate]
  split
  · rename_i hw _
    exact absurd hw hwork
  · rfl

/-- A station loses its current segment with no shadow to restore. -/
theorem State.loseSlot_current_idle {f : Fate} (hwait : (s.station k).holding ≠ none → s.noneWaits) (hshadow : (s.station k).shadow = none) :
    s.loseSlot k .current f =
      ((s.withoutHolding (s.station k).holding).setStation k
        { s.station k with
          state := .idle
          current := none
          cursor := 0
          stop := none
          holding := none
          pendingRead := (s.station k).pendingRead.map fun old => if old = .none_ then f else old }, none) := by
  simp only [State.loseSlot, State.releaseHolding_of_noneWaits k hwait, State.setFate, State.modStation_eq]
  rw [State.leaveCurrent_of_none (by simpa using hshadow)]
  simp

/-- A station loses its current segment, and its shadow is restored. -/
theorem State.loseSlot_current_restored {f : Fate} {sh : Shadow} (hwait : (s.station k).holding ≠ none → s.noneWaits)
    (hshadow : (s.station k).shadow = some sh) (hlook : s.lookup sh.seg = .found (t, g)) :
    s.loseSlot k .current f =
      (((s.withoutHolding (s.station k).holding).modSegment sh.seg fun y => { y with holder := some (k, .current) }).setStation k
        { s.station k with
          state := .paused
          current := some sh.seg
          cursor := restoreCursor (windowOf t g) sh.cursor
          stop := none
          shadow := none
          holding := none
          pendingRead := (s.station k).pendingRead.map fun old => if old = .none_ then f else old },
        some { sh with cursor := restoreCursor (windowOf t g) sh.cursor }) := by
  simp only [State.loseSlot, State.releaseHolding_of_noneWaits k hwait, State.setFate, State.modStation_eq]
  rw [State.leaveCurrent_of_some (sh := sh) (t := t) (g := g) (by simpa using hshadow) (by simpa using hlook)]
  simp

end Recall

@[simp] theorem State.returnSegment_queued (s : State) (l : LinkId) (m : Message) (x : SegRef) (p : Option Nat) :
    (s.queued l m).returnSegment x p = (s.returnSegment x p).queued l m := by
  simp [State.queued]

/-- Settles O39. -/
theorem recallReturnsASegment : Obligations.RecallReturnsASegment := by
  refine ⟨fun tag body id i s hserve hparse => ?early, fun tag body x t g s hserve hparse hfind hstate hseg => ?found⟩
  all_goals obtain ⟨htake, hready⟩ := hserve
  all_goals simp only [exec, execRecall]
  all_goals rw [State.request_served htake hparse (by rw [hready]; rfl)]
  case early =>
    refine ⟨fun hfind => ?_, fun t hfind => ⟨fun hr => ?_, fun hr hseg => ?_⟩⟩
    · simp [serveRecall, hfind]
    · simp [serveRecall, hfind, hr]
    · simp [serveRecall, hfind, hr, hseg]
  case found =>
    refine ⟨fun hwork => ?refused, fun k slot hwork hholder hup => ⟨fun hslot => ?shadow, fun hslot hwait hshadow => ?idle,
      fun sh t' g' hslot hwait hshadow hfind' hstate' hseg' => ?restored⟩⟩
    case refused =>
      rw [serveRecall_refused (s := s.taken .supervisor 0x4C tag) (by simpa using hfind) hstate hseg hwork, State.answer_taken]
    all_goals
      subst hslot
      rw [serveRecall_assigned (s := s.taken .supervisor 0x4C tag) (by simpa using hfind) hstate hseg hwork hholder]
    case shadow =>
      rw [State.seize, State.loseSlot, State.notify_of_up (by simpa using hup)]
      simp [State.queued_taken, noticeKind, recalledBody, State.answerFields, Slot.code, fFlag]
    case idle =>
      rw [State.seize, State.loseSlot_current_idle (State.holdingWaits_taken hwait _ _ _) (by simpa using hshadow),
        State.notify_of_up (by simpa using hup)]
      simp [State.queued_taken, noticeKind, recalledBody, State.answerFields, Slot.code, fFlag]
    case restored =>
      have hlook := State.lookup_found hfind' hstate' hseg'
      rw [State.seize, State.loseSlot_current_restored (State.holdingWaits_taken hwait _ _ _) (sh := sh) (t := t') (g := g')
        (by simpa using hshadow) (by simpa using hlook), State.notify_of_up (by simpa using hup)]
      simp [State.queued_taken, noticeKind, recalledBody, State.answerFields, Slot.code, fFlag, restoreCursor]

end Sys2Proof.Machine
end

section
/-! Segments made TYPED, completion, and MARK_TYPED (R22, R181). -/

namespace Sys2Proof.Machine

/-! ### Completion (R22) -/

/-- A segment made TYPED. -/
def Segment.asTyped (g : Segment) : Segment := { g with work := some .typed, holder := none }

/-- A take as the check for completion leaves it. -/
def Take.checked (t : Take) : Take :=
  if t.state = .closed ∧ t.segments.all (fun g => g.work == some .typed) then { t with state := .complete } else t

theorem Take.checked_segments (t : Take) : t.checked.segments = t.segments := by
  unfold Take.checked
  split <;> rfl

theorem Take.checked_id (t : Take) : t.checked.id = t.id := by
  unfold Take.checked
  split <;> rfl

theorem State.findTake_makeTyped {s : State} {x : SegRef} {t : Take} (h : s.findTake x.take = some t) :
    (s.makeTyped x).findTake x.take =
      some (t.modSegment x.index Segment.asTyped).checked := by
  show ((s.modTake x.take fun t => t.modSegment x.index Segment.asTyped).modTake x.take Take.checked).findTake x.take = _
  rw [State.findTake_modTake_same _ _ Take.checked_id,
    State.findTake_modTake_same s x.take (f := fun t => t.modSegment x.index Segment.asTyped) fun _ => rfl, h]
  rfl

/-- Every segment of the take is TYPED once one is made so: that one, and those TYPED before. -/
theorem Take.allTyped_modSegment (t : Take) (i : Nat) :
    ((t.modSegment i Segment.asTyped).segments.all fun g => g.work == some .typed) = true ↔
      ∀ h ∈ t.segments, h.index = i ∨ h.work = some .typed := by
  simp only [Take.modSegment, List.all_map, List.all_eq_true, Function.comp_apply]
  refine forall₂_congr fun h _ => ?_
  by_cases hi : h.index = i <;> simp [hi, Segment.asTyped]

/-! ### MARK_TYPED -/

/-- Settles O40. -/
theorem markTyped : Obligations.MarkTyped := by
  refine ⟨fun s x t g hfind hseg => ⟨?segment, _, State.findTake_makeTyped hfind, ?state⟩, fun tag body id t s hserve =>
    ⟨fun i hfind hparse => ?noTake, fun i hfind hr hparse => ?released, fun i hfind hr hparse hseg => ?noSegment,
      fun hfind hr i g hparse hseg => ?one, fun hfind hr hparse => ?all⟩⟩
  case segment =>
    rw [State.segment, State.findTake_makeTyped hfind, Option.bind_some, Take.segment, Take.checked_segments]
    have h := t.segment_modSegment_same x.index (f := Segment.asTyped) fun _ => rfl
    rw [hseg] at h
    exact h
  case state =>
    have hall := t.allTyped_modSegment x.index
    unfold Take.checked
    by_cases hclosed : t.state = .closed
    · by_cases htyped : ∀ h ∈ t.segments, h.index = x.index ∨ h.work = some .typed
      · rw [if_pos ⟨hclosed, hall.mpr htyped⟩, if_pos ⟨hclosed, htyped⟩]
      · rw [if_neg fun h => htyped (hall.mp h.2), if_neg fun h => htyped h.2]
        rfl
    · rw [if_neg fun h => hclosed h.1, if_neg fun h => hclosed h.1]
      rfl
  all_goals obtain ⟨htake, hready⟩ := hserve
  all_goals simp only [exec, execMarkTyped]
  all_goals rw [State.request_served htake hparse (by rw [hready]; rfl)]
  case noTake => simp [serveMarkTyped, hfind]
  case released =>
    cases i with
    | none => simp [serveMarkTyped, hfind, hr]
    | some i => cases hseg : t.segment i <;> simp [serveMarkTyped, hfind, hr, hseg]
  case noSegment => simp [serveMarkTyped, hfind, hr, hseg]
  case one =>
    have hid := State.findTake_id hfind
    refine ⟨fun hbad => ?_, fun hrec hw => ?_, fun hrec hw => ?_⟩
    · by_cases hrec : t.state = .recording
      · simp [serveMarkTyped, hfind, hrec, hseg]
      · simp [serveMarkTyped, hfind, hr, hrec, hseg, hbad.resolve_left hrec]
    · simp [serveMarkTyped, hfind, hr, hrec, hseg, hw, hid, State.answerFields]
    · simp [serveMarkTyped, hfind, hr, hrec, hseg, hw, hid, State.answerFields]
  case all =>
    have hid := State.findTake_id hfind
    by_cases hrec : t.state = .recording
    · simp [serveMarkTyped, hfind, hrec]
    · simp [serveMarkTyped, hfind, hr, hrec, hid, State.answerFields, State.typeAllQueued, Take.countWork]

end Sys2Proof.Machine
end

section
/-! The operations that a release goes through neither read nor change the supervisor's own link. -/

namespace Sys2Proof.Machine

/-- An operation that leaves the supervisor's link alone. -/
def CommutesWithSupervisor (f : State → State) : Prop :=
  ∀ (s : State) (x : LinkRec), f (s.setLink .supervisor x) = (f s).setLink .supervisor x

theorem CommutesWithSupervisor.of_eq {f : State → State} (hf : CommutesWithSupervisor f) {s t : State} {x : LinkRec}
    (h : s = t.setLink .supervisor x) : f s = (f t).setLink .supervisor x :=
  h ▸ hf t x

theorem commutes_raise (a : Alert) : CommutesWithSupervisor fun s => s.raise a := fun s x => s.raise_setLink _ x a

section SupervisorLink

variable {s : State} (x : LinkRec)

/-! ### Messages and flash requests -/

@[simp] theorem State.notifyStation_setSupervisor (k : StationId) (kind : Nat) (body : List Byte) :
    (s.setLink .supervisor x).notify (.station k) kind body = (s.notify (.station k) kind body).setLink .supervisor x := by
  unfold State.notify State.send
  dsimp only
  rw [State.link_setLink_ne _ LinkId.noConfusion]
  split
  · exact State.setLink_comm _ LinkId.noConfusion ..
  · rfl

@[simp] theorem State.requestOp_setSupervisor (cls : Nat) (kind : OpKind) :
    (s.setLink .supervisor x).requestOp cls kind = (s.requestOp cls kind).setLink .supervisor x := by
  unfold State.requestOp
  by_cases h : Config.max32 < s.requestNumber
  · rw [if_pos h, if_pos (by exact h)]; rfl
  · rw [if_neg h, if_neg (by exact h)]; rfl

theorem commutes_requestOp (cls : Nat) (kind : OpKind) : CommutesWithSupervisor fun s => s.requestOp cls kind :=
  fun _ x => State.requestOp_setSupervisor x cls kind

/-! ### Marks and the room that leaves DROPPING -/

@[simp] theorem State.loseMarks_setSupervisor (r : RoomId) (take n : Nat) :
    (s.setLink .supervisor x).loseMarks r take n = (s.loseMarks r take n).setLink .supervisor x := by
  simp [State.loseMarks]

@[simp] theorem State.carry_setSupervisor (r : RoomId) (take : Nat) (m : Mark) :
    (s.setLink .supervisor x).carry r take m = (s.carry r take m).setLink .supervisor x := by
  unfold State.carry
  dsimp only
  rw [State.room_setLink]
  split
  · simp
  split
  · simp
  split <;> simp

@[simp] theorem State.placeMark_setSupervisor (r : RoomId) (take : Nat) (m : Mark) :
    (s.setLink .supervisor x).placeMark r take m = (s.placeMark r take m).setLink .supervisor x := by
  simp [State.placeMark, State.addMark]

@[simp] theorem State.placeGapMarks_setSupervisor (r : RoomId) (take : Nat) (g : GapType) (codes : List Nat) (first : Nat) :
    (s.setLink .supervisor x).placeGapMarks r take g first codes = (s.placeGapMarks r take g first codes).setLink .supervisor x := by
  induction codes generalizing s first with
  | nil => rfl
  | cons code codes ih =>
    have hfree : (s.setLink .supervisor x).freeMarks = s.freeMarks := rfl
    unfold State.placeGapMarks
    rw [hfree]
    by_cases h : 0 < s.freeMarks <;> simp [h, ih]

@[simp] theorem State.reportGap_setSupervisor (r : RoomId) (take : Nat) (g : GapType) (first n : Nat) :
    (s.setLink .supervisor x).reportGap r take g first n = (s.reportGap r take g first n).setLink .supervisor x := by
  cases g <;> simp [State.reportGap]

@[simp] theorem State.leaveDropping_setSupervisor (r : RoomId) :
    (s.setLink .supervisor x).leaveDropping r = (s.leaveDropping r).setLink .supervisor x := by
  unfold State.leaveDropping
  simp only [State.room_setLink, State.setRoom_setLink, State.findTake_setLink]
  split
  · rfl
  split
  · rfl
  split <;> simp

@[simp] theorem State.reportFilledRun_setSupervisor (r : RoomId) :
    (s.setLink .supervisor x).reportFilledRun r = (s.reportFilledRun r).setLink .supervisor x := by
  unfold State.reportFilledRun
  simp only [State.room_setLink]
  split
  · simp
  · rfl

@[simp] theorem State.enterDropping_setSupervisor (r : RoomId) (c : DropCause) (n : Nat) :
    (s.setLink .supervisor x).enterDropping r c n = (s.enterDropping r c n).setLink .supervisor x := by
  simp [State.enterDropping]

@[simp] theorem State.giveFilling_setSupervisor (r : RoomId) (t : Take) (b : BufId) :
    (s.setLink .supervisor x).giveFilling r t b = (s.giveFilling r t b).setLink .supervisor x := by
  unfold State.giveFilling
  simp only [State.setBuffer_setLink, State.modRoom_eq, State.room_setLink, State.setRoom_setLink, State.room_setRoom_same]
  split
  · simp
  · simp

theorem commutes_giveFilling (r : RoomId) (t : Take) (b : BufId) : CommutesWithSupervisor fun s => s.giveFilling r t b :=
  fun _ x => State.giveFilling_setSupervisor x r t b

@[simp] theorem State.tellRescueWait_setSupervisor (r : RoomId) :
    (s.setLink .supervisor x).tellRescueWait r = (s.tellRescueWait r).setLink .supervisor x := by
  unfold State.tellRescueWait
  simp only [State.room_setLink]
  split <;> simp

/-! ### Units granted, reclaimed and retired -/

theorem State.grantUnit_setSupervisor (need take chain : Nat) (role : Role) :
    (s.setLink .supervisor x).grantUnit need take chain role =
      (s.grantUnit need take chain role).map fun p => (p.1, p.2.setLink .supervisor x) := by
  unfold State.grantUnit
  simp only [State.setLink_freeList, State.setLink_writeSeq, State.setLink_lowWater]
  cases s.freeList with
  | nil => rfl
  | cons u rest =>
    dsimp only
    split
    · refine congrArg some (Prod.ext rfl ?_)
      dsimp only
      split
      · exact (commutes_raise _).of_eq rfl
      · rfl
    · rfl

@[simp] theorem State.requestErase_setSupervisor (n : Nat) :
    (s.setLink .supervisor x).requestErase n = (s.requestErase n).setLink .supervisor x := by
  unfold State.requestErase
  simp only [State.unit_setLink]
  split
  · split
    · exact (commutes_requestOp _ _).of_eq rfl
    · rfl
  · rfl

@[simp] theorem State.drainReclaim_setSupervisor :
    (s.setLink .supervisor x).drainReclaim = s.drainReclaim.setLink .supervisor x := by
  have hfold : ∀ (ns : List Nat) (s : State),
      ns.foldl State.requestErase (s.setLink .supervisor x) = (ns.foldl State.requestErase s).setLink .supervisor x := by
    intro ns
    induction ns with
    | nil => exact fun _ => rfl
    | cons n ns ih => intro s; rw [List.foldl_cons, State.requestErase_setSupervisor, ih, List.foldl_cons]
  unfold State.drainReclaim
  simp only [State.setLink_readiness, State.setLink_reclaimFifo, hfold]
  split <;> rfl

@[simp] theorem State.reclaimUnit_setSupervisor (n : Nat) :
    (s.setLink .supervisor x).reclaimUnit n = (s.reclaimUnit n).setLink .supervisor x :=
  State.drainReclaim_setSupervisor (s := { s.modUnit n _ with reclaimFifo := _ }) x

@[simp] theorem State.reclaimOpt_setSupervisor (d : Option Nat) :
    (s.setLink .supervisor x).reclaimOpt d = (s.reclaimOpt d).setLink .supervisor x := by
  cases d with
  | none => rfl
  | some n => exact State.reclaimUnit_setSupervisor x n

@[simp] theorem State.retireUnit_setSupervisor (n : Nat) (c : RetireCause) :
    (s.setLink .supervisor x).retireUnit n c = (s.retireUnit n c).setLink .supervisor x :=
  (commutes_raise _).of_eq rfl

/-! ### The refresh and rescue engine -/

@[simp] theorem State.requestCopyRead_setSupervisor (isRescue : Bool) (w : Work) (b : BufId) :
    (s.setLink .supervisor x).requestCopyRead isRescue w b = (s.requestCopyRead isRescue w b).setLink .supervisor x :=
  (commutes_requestOp _ _).of_eq rfl

theorem commutes_requestCopyRead (isRescue : Bool) (w : Work) (b : BufId) :
    CommutesWithSupervisor fun s => s.requestCopyRead isRescue w b :=
  fun _ x => State.requestCopyRead_setSupervisor x isRescue w b

@[simp] theorem State.askCopyBuffer_setSupervisor (isRescue : Bool) (w : Work) :
    (s.setLink .supervisor x).askCopyBuffer isRescue w = (s.askCopyBuffer isRescue w).setLink .supervisor x := by
  have hgrant : (s.setLink .supervisor x).copyBufferGranted isRescue = s.copyBufferGranted isRescue := by
    cases isRescue <;> simp [State.copyBufferGranted]
  unfold State.askCopyBuffer
  simp only [State.firstFree_setLink, hgrant]
  split
  · split
    · simp
    · rfl
  · rfl

theorem commutes_askCopyBuffer (isRescue : Bool) (w : Work) : CommutesWithSupervisor fun s => s.askCopyBuffer isRescue w :=
  fun _ x => State.askCopyBuffer_setSupervisor x isRescue w

@[simp] theorem State.engineRetry_setSupervisor : (s.setLink .supervisor x).engineRetry = s.engineRetry.setLink .supervisor x := by
  unfold State.engineRetry
  simp only [State.setLink_engine]
  split
  · split
    · simp
    · rfl
  · rfl

theorem commutes_engineRetry : CommutesWithSupervisor State.engineRetry := fun _ x => State.engineRetry_setSupervisor x

@[simp] theorem State.freeBuffer_setSupervisor (b : BufId) :
    (s.setLink .supervisor x).freeBuffer b = (s.freeBuffer b).setLink .supervisor x := by
  unfold State.freeBuffer
  have hfind : (s.setLink .supervisor x).findTake = s.findTake := rfl
  rw [State.setLink_dropWait, hfind]
  split
  · rename_i r rest _
    rw [State.room_setLink]
    split
    · exact (commutes_giveFilling _ _ _).of_eq rfl
    · exact commutes_engineRetry.of_eq rfl
  · simp

theorem commutes_freeBuffer (b : BufId) : CommutesWithSupervisor fun s => s.freeBuffer b :=
  fun _ x => State.freeBuffer_setSupervisor x b

@[simp] theorem State.freeOptBuffer_setSupervisor (b : Option BufId) :
    (s.setLink .supervisor x).freeOptBuffer b = (s.freeOptBuffer b).setLink .supervisor x := by
  cases b with
  | none => rfl
  | some b => exact State.freeBuffer_setSupervisor x b

theorem commutes_freeOptBuffer (b : Option BufId) : CommutesWithSupervisor fun s => s.freeOptBuffer b :=
  fun _ x => State.freeOptBuffer_setSupervisor x b

theorem commutes_endRescue {next : State → State} (hnext : CommutesWithSupervisor next) (w : Work) (d : Nat) :
    CommutesWithSupervisor fun s => s.endRescue next w d := by
  intro s x
  have hfail : ∀ u : State, ((u.setLink .supervisor x).retireUnit w.source .program).requestOp 5 (.erase w.source) =
      ((u.retireUnit w.source .program).requestOp 5 (.erase w.source)).setLink .supervisor x := by
    intro u
    rw [State.retireUnit_setSupervisor, State.requestOp_setSupervisor]
  have hfree : ∀ u : State, ({ u.setLink .supervisor x with engine := .idle } : State).freeOptBuffer w.buf =
      (({ u with engine := .idle } : State).freeOptBuffer w.buf).setLink .supervisor x :=
    fun u => State.freeOptBuffer_setSupervisor (s := { u with engine := .idle }) x w.buf
  have hnext' : ∀ u v : State, u = v.setLink .supervisor x →
      next { u with rescues := u.rescues.filter fun e => e.unit != w.source } =
        (next { v with rescues := v.rescues.filter fun e => e.unit != w.source }).setLink .supervisor x :=
    fun u v h => hnext.of_eq (by rw [h]; rfl)
  unfold State.endRescue
  dsimp only
  rw [State.setLink_rescues, State.unit_setLink]
  rw [State.modUnit_setLink, hfail]
  exact hnext' _ _ (hfree _)

theorem commutes_rescueHasUnit {next : State → State} (hnext : CommutesWithSupervisor next) (w : Work) (d : Nat) :
    CommutesWithSupervisor fun s => s.rescueHasUnit next w d := by
  intro s x
  unfold State.rescueHasUnit
  dsimp only
  rw [State.setLink_rescues]
  split
  · exact (commutes_endRescue hnext _ _).of_eq rfl
  split
  · exact (commutes_requestCopyRead _ _ _).of_eq rfl
  · exact (commutes_askCopyBuffer _ _).of_eq rfl

theorem commutes_rescueAsks {next : State → State} (hnext : CommutesWithSupervisor next) (w : Work) :
    CommutesWithSupervisor fun s => s.rescueAsks next w := by
  intro s x
  unfold State.rescueAsks
  dsimp -zeta only
  rw [State.grantUnit_setSupervisor]
  cases s.grantUnit 1 w.take w.chain .destination with
  | some p => exact commutes_rescueHasUnit hnext w _ _ x
  | none =>
    dsimp -zeta only [Option.map_none]
    extract_lets u v
    have huv : u = v.setLink .supervisor x := rfl
    have hroom : ∀ u : State, (u.setLink .supervisor x).recordingRoom w.take = u.recordingRoom w.take := fun _ => rfl
    clear_value u
    subst huv
    rw [State.findTake_setLink]
    split
    · rfl
    rw [State.raise_setLink]
    dsimp only
    rw [hroom]
    split
    · simp
    · rfl

theorem commutes_takeWork (fuel : Nat) : CommutesWithSupervisor (State.takeWork fuel) := by
  induction fuel with
  | zero => exact fun _ _ => rfl
  | succ fuel ih =>
    intro s x
    unfold State.takeWork
    extract_lets u v
    have huv : u = v.setLink .supervisor x := rfl
    clear_value u
    subst huv
    rw [State.setLink_readiness, State.setLink_rescues, State.setLink_refreshFifo]
    split
    · rfl
    split
    · exact commutes_rescueAsks ih _ _ x
    split
    · rfl
    extract_lets u' v'
    have huv : u' = v'.setLink .supervisor x := rfl
    clear_value u'
    subst huv
    rw [State.unit_setLink]
    split
    · exact ih _ x
    dsimp only
    rw [State.grantUnit_setSupervisor]
    cases v'.grantUnit captureNeed _ _ .destination with
    | some p => exact (commutes_askCopyBuffer _ _).of_eq rfl
    | none => exact ih.of_eq ((commutes_raise _).of_eq rfl)

@[simp] theorem State.engineNext_setSupervisor : (s.setLink .supervisor x).engineNext = s.engineNext.setLink .supervisor x :=
  commutes_takeWork _ s x

@[simp] theorem State.stopWork_setSupervisor (w : Work) : (s.setLink .supervisor x).stopWork w = (s.stopWork w).setLink .supervisor x := by
  have hfree : ({ s.setLink .supervisor x with
      engine := .idle, rescues := s.rescues.filter fun e => e.unit != w.source } : State).freeOptBuffer w.buf =
      (({ s with engine := .idle, rescues := s.rescues.filter fun e => e.unit != w.source } : State).freeOptBuffer w.buf).setLink
        .supervisor x :=
    (commutes_freeOptBuffer w.buf).of_eq rfl
  unfold State.stopWork
  dsimp only
  rw [State.setLink_rescues, hfree, State.reclaimOpt_setSupervisor, State.engineNext_setSupervisor]

theorem commutes_stopWork (w : Work) : CommutesWithSupervisor fun s => s.stopWork w :=
  fun _ x => State.stopWork_setSupervisor x w

/-! ### Pages let go, stations and read-backs -/

@[simp] theorem State.unpin_setSupervisor (b : BufId) : (s.setLink .supervisor x).unpin b = (s.unpin b).setLink .supervisor x := by
  unfold State.unpin
  simp only [State.modBuffer_eq, State.buffer_setLink, State.setBuffer_setLink, State.buffer_setBuffer_same]
  split
  · simp
  · rfl

@[simp] theorem State.dropHolding_setSupervisor (h : Holding) :
    (s.setLink .supervisor x).dropHolding h = (s.dropHolding h).setLink .supervisor x := by
  unfold State.dropHolding
  split <;> simp

@[simp] theorem State.releaseHolding_setSupervisor (k : StationId) :
    (s.setLink .supervisor x).releaseHolding k = (s.releaseHolding k).setLink .supervisor x := by
  unfold State.releaseHolding
  rw [State.station_setLink]
  split
  · rfl
  · simp

@[simp] theorem State.releaseReadback_setSupervisor (r : RoomId) :
    (s.setLink .supervisor x).releaseReadback r = (s.releaseReadback r).setLink .supervisor x := by
  unfold State.releaseReadback
  rw [State.readback_setLink]
  split
  · rfl
  · simp

@[simp] theorem State.endReadback_setSupervisor (r : RoomId) :
    (s.setLink .supervisor x).endReadback r = (s.endReadback r).setLink .supervisor x := by
  simp [State.endReadback, State.idleReadback, State.restReadback]

theorem State.leaveCurrent_setSupervisor (k : StationId) :
    (s.setLink .supervisor x).leaveCurrent k = ((s.leaveCurrent k).1.setLink .supervisor x, (s.leaveCurrent k).2) := by
  unfold State.leaveCurrent
  simp only [State.station_setLink, State.lookup_setLink]
  split
  · simp
  · simp

theorem State.loseSlot_setSupervisor (k : StationId) (slot : Slot) (f : Fate) :
    (s.setLink .supervisor x).loseSlot k slot f = ((s.loseSlot k slot f).1.setLink .supervisor x, (s.loseSlot k slot f).2) := by
  cases slot with
  | shadow => simp [State.loseSlot]
  | current => simp [State.loseSlot, State.setFate, State.leaveCurrent_setSupervisor]

theorem State.foldl_setSupervisor {α : Type} {f : State → α → State}
    (h : ∀ (s : State) (a : α) (x : LinkRec), f (s.setLink .supervisor x) a = (f s a).setLink .supervisor x) (as : List α) :
    as.foldl f (s.setLink .supervisor x) = (as.foldl f s).setLink .supervisor x := by
  induction as generalizing s with
  | nil => rfl
  | cons a as ih => rw [List.foldl_cons, h, ih, List.foldl_cons]

/-! ### The release of a take -/

@[simp] theorem State.takeBack_setSupervisor (id : Nat) (k : StationId) :
    State.takeBack id (s.setLink .supervisor x) k = (State.takeBack id s k).setLink .supervisor x := by
  unfold State.takeBack
  simp only [State.station_setLink]
  split
  · rfl
  cases ((s.station k).shadow.map Shadow.seg).filter (fun x => x.take == id) <;>
    cases (s.station k).current.filter (fun x => x.take == id) <;> simp [State.loseSlot_setSupervisor]

@[simp] theorem State.releaseEndsReadback_setSupervisor (id : Nat) (r : RoomId) :
    State.releaseEndsReadback id (s.setLink .supervisor x) r = (State.releaseEndsReadback id s r).setLink .supervisor x := by
  unfold State.releaseEndsReadback
  simp only [State.readback_setLink]
  split
  · simp
  · rfl

@[simp] theorem State.withdraw_setSupervisor (id : Nat) (b : BufId) :
    State.withdraw id (s.setLink .supervisor x) b = (State.withdraw id s b).setLink .supervisor x := by
  unfold State.withdraw
  simp only [State.buffer_setLink, State.setLink_flashOps]
  split
  · exact (commutes_freeBuffer b).of_eq rfl
  · rfl

@[simp] theorem State.reclaimChain_setSupervisor (id : Nat) :
    (s.setLink .supervisor x).reclaimChain id = (s.reclaimChain id).setLink .supervisor x := by
  have hstop : ∀ u : State, (u.setLink .supervisor x).stopEngineFor id = (u.stopEngineFor id).setLink .supervisor x := by
    intro u
    unfold State.stopEngineFor
    dsimp only
    rw [State.setLink_engine]
    split
    · split
      · rfl
      split
      · exact (commutes_stopWork _).of_eq rfl
      · rfl
    · rfl
  have hnumbers : (s.setLink .supervisor x).chainNumbers id = s.chainNumbers id := rfl
  have hfold : ∀ ns : List Nat, ns.foldl State.reclaimChainUnit (s.setLink .supervisor x) =
      (ns.foldl State.reclaimChainUnit s).setLink .supervisor x :=
    State.foldl_setSupervisor x fun _ _ _ => rfl
  rw [State.reclaimChain, hnumbers, hfold, State.drainReclaim_setSupervisor, hstop, State.reclaimChain]

theorem State.releaseTake_setSupervisor (id : Nat) :
    (s.setLink .supervisor x).releaseTake id = (s.releaseTake id).setLink .supervisor x := by
  have hunits : (s.setLink .supervisor x).chainUnits id = s.chainUnits id := rfl
  have hfree : ∀ u : State, (u.setLink .supervisor x).freeTake id = (u.freeTake id).setLink .supervisor x := fun _ => rfl
  unfold State.releaseTake
  simp only [hunits, State.modTake_setLink,
    State.foldl_setSupervisor x (f := State.takeBack id) fun _ _ _ => State.takeBack_setSupervisor ..,
    State.foldl_setSupervisor x (f := State.releaseEndsReadback id) fun _ _ _ => State.releaseEndsReadback_setSupervisor ..,
    State.foldl_setSupervisor x (f := State.withdraw id) fun _ _ _ => State.withdraw_setSupervisor ..,
    State.reclaimChain_setSupervisor, hfree]
  split <;> rfl

end SupervisorLink

end Sys2Proof.Machine
end

section
/-! RELEASE_TAKE (R25, R26, R105, R120, R133, R145, R154). -/

namespace Sys2Proof.Machine

/-! ### Lists kept in order of a key -/

section Sorting

variable {α : Type} (key : α → Nat)

theorem insertBy_perm (x : α) (xs : List α) : (insertBy key x xs).Perm (x :: xs) := by
  induction xs with
  | nil => exact .refl _
  | cons y ys ih =>
    unfold insertBy
    split
    · exact .refl _
    · exact (ih.cons y).trans (.swap x y ys)

theorem insertBy_pairwise (x : α) {xs : List α} (h : xs.Pairwise fun a b => key a ≤ key b) :
    (insertBy key x xs).Pairwise fun a b => key a ≤ key b := by
  induction xs with
  | nil => exact List.pairwise_singleton ..
  | cons y ys ih =>
    obtain ⟨hy, hys⟩ := List.pairwise_cons.mp h
    unfold insertBy
    split
    · rename_i hlt
      refine List.pairwise_cons.mpr ⟨fun z hz => ?_, h⟩
      obtain rfl | hz := List.mem_cons.mp hz
      · omega
      · have := hy z hz
        omega
    · rename_i hge
      refine List.pairwise_cons.mpr ⟨fun z hz => ?_, ih hys⟩
      obtain rfl | hz := List.mem_cons.mp ((insertBy_perm key x ys).mem_iff.mp hz)
      · omega
      · exact hy z hz

theorem sortBy_perm (xs : List α) : (sortBy key xs).Perm xs := by
  have h : ∀ xs acc : List α, (xs.foldl (fun acc x => insertBy key x acc) acc).Perm (xs ++ acc) := by
    intro xs
    induction xs with
    | nil => exact fun _ => .refl _
    | cons x xs ih =>
      exact fun acc => (ih _).trans (((insertBy_perm key x acc).append_left xs).trans List.perm_middle)
  simpa [sortBy] using h xs []

theorem sortBy_pairwise (xs : List α) : (sortBy key xs).Pairwise fun a b => key a ≤ key b := by
  have h : ∀ xs acc : List α, acc.Pairwise (fun a b => key a ≤ key b) →
      (xs.foldl (fun acc x => insertBy key x acc) acc).Pairwise fun a b => key a ≤ key b := by
    intro xs
    induction xs with
    | nil => exact fun _ h => h
    | cons x xs ih => exact fun acc h => ih _ (insertBy_pairwise key x h)
  exact h xs [] .nil

end Sorting

/-! ### Units found after a change of the unit table -/

theorem State.unit_modUnit_ne (s : State) {n m : Nat} (h : m ≠ n) {f : UnitEntry → UnitEntry} (hf : ∀ u, (f u).number = u.number) :
    (s.modUnit n f).unit m = s.unit m := by
  have hother : ∀ u : UnitEntry, (u.number == n) = true → (u.number == m) = false ∧ ((f u).number == m) = false := by
    intro u hu
    have e : u.number = n := by simpa using hu
    simp [hf, e, h.symm]
  have h := find?_map_ite_ne (fun u : UnitEntry => u.number == m) (fun u => u.number == n) f hother s.units
  simp only [beq_iff_eq] at h
  exact h

theorem State.unit_modUnit_same (s : State) (n : Nat) {f : UnitEntry → UnitEntry} (hf : ∀ u, (f u).number = u.number) :
    (s.modUnit n f).unit n = (s.unit n).map f := by
  have h := find?_map_ite (fun u : UnitEntry => u.number == n) f (fun u => by rw [hf]) s.units
  simp only [beq_iff_eq] at h
  exact h

/-! ### The chain reclaimed (R145) -/

/-- A unit as the reclaim of its chain leaves it. -/
def UnitEntry.reclaimed (u : UnitEntry) : UnitEntry := { u with state := .reclaim, finalPage := none, refreshWanted := false }

/-- The changes of several units, one after another, are one change of the table. -/
theorem map_units_cons {n : Nat} {ns : List Nat} {f : UnitEntry → UnitEntry} (hf : ∀ u, (f u).number = u.number) (hn : n ∉ ns)
    (us : List UnitEntry) :
    (us.map fun u => if u.number = n then f u else u).map (fun u => if u.number ∈ ns then f u else u) =
      us.map fun u => if u.number ∈ n :: ns then f u else u := by
  rw [List.map_map]
  refine List.map_congr_left fun u _ => ?_
  rw [Function.comp_apply]
  by_cases hu : u.number = n
  · simp [hu, hf, hn]
  · simp [hu]

/-- The state after several units of a chain have been put into RECLAIM. -/
def State.chainReclaimed (s : State) (ns : List Nat) : State :=
  { s with
    units := s.units.map fun u => if u.number ∈ ns then u.reclaimed else u
    refreshFifo := s.refreshFifo.filter fun m => decide (m ∉ ns)
    reclaimFifo := s.reclaimFifo ++ ns }

theorem State.reclaimChainUnits {s : State} (ns : List Nat) (hnd : ns.Nodup) :
    ns.foldl State.reclaimChainUnit s = s.chainReclaimed ns := by
  induction ns generalizing s with
  | nil => simp [State.chainReclaimed, filter_always]
  | cons n ns ih =>
    obtain ⟨hn, hns⟩ := List.nodup_cons.mp hnd
    rw [List.foldl_cons, ih hns, State.chainReclaimed, State.chainReclaimed,
      ← map_units_cons (f := UnitEntry.reclaimed) (fun _ => rfl) hn]
    have hfifo : (s.refreshFifo.filter fun m => m != n).filter (fun m => decide (m ∉ ns)) =
        s.refreshFifo.filter fun m => decide (m ∉ n :: ns) := by
      rw [List.filter_filter]
      refine List.filter_congr fun m _ => ?_
      rw [Bool.eq_iff_iff]
      simp [and_comm]
    simp only [State.reclaimChainUnit, hfifo, List.append_assoc, List.singleton_append]
    rfl

/-- A unit whose erase has been requested. -/
def UnitEntry.erasing (u : UnitEntry) : UnitEntry := { u with state := .erasing }

/-- The state after the erase of a unit of the reclaim FIFO has been requested. -/
def State.eraseRequested (s : State) (n : Nat) : State :=
  { s with
    units := s.units.map fun u => if u.number = n then u.erasing else u
    reclaimFifo := s.reclaimFifo.filter fun m => m != n
    flashOps := s.flashOps ++ [⟨5, s.requestNumber, .erase n⟩]
    requestNumber := s.requestNumber + 1 }

theorem State.requestErase_drained {s : State} {n : Nat} {u : UnitEntry} (hu : s.unit n = some u) (hstate : u.state = .reclaim)
    (hflight : u.inFlight = 0) (hnum : s.requestNumber ≤ 4294967295) : s.requestErase n = s.eraseRequested n := by
  simp only [State.requestErase, hu, hstate, hflight, and_self, if_true]
  exact State.requestOp_of_le (s := { s.modUnit n fun x => { x with state := .erasing } with
    reclaimFifo := s.reclaimFifo.filter fun m => m != n }) (ops := s.flashOps) (n := s.requestNumber) rfl rfl hnum 5 _

/-- The erases of several drained units requested one after another. -/
theorem State.requestErases {s : State} (ns : List Nat) (hnd : ns.Nodup)
    (hunits : ∀ n ∈ ns, ∃ u, s.unit n = some u ∧ u.state = .reclaim ∧ u.inFlight = 0)
    (hnum : s.requestNumber + ns.length ≤ 4294967296) :
    ns.foldl State.requestErase s = { s with
      units := s.units.map fun u => if u.number ∈ ns then u.erasing else u
      reclaimFifo := s.reclaimFifo.filter fun m => decide (m ∉ ns)
      flashOps := s.flashOps ++ ns.zipIdx.map fun p => ⟨5, s.requestNumber + p.2, .erase p.1⟩
      requestNumber := s.requestNumber + ns.length } := by
  induction ns generalizing s with
  | nil => simp [filter_always]
  | cons n ns ih =>
    obtain ⟨hn, hns⟩ := List.nodup_cons.mp hnd
    rw [List.length_cons] at hnum
    obtain ⟨u, hu, hstate, hflight⟩ := hunits n (List.mem_cons_self ..)
    have hrest : ∀ m ∈ ns, ∃ v, (s.eraseRequested n).unit m = some v ∧ v.state = .reclaim ∧ v.inFlight = 0 := by
      intro m hm
      obtain ⟨v, hv, hvs⟩ := hunits m (List.mem_cons_of_mem _ hm)
      have hne : m ≠ n := fun h => hn (h ▸ hm)
      refine ⟨v, ?_, hvs⟩
      rw [← hv]
      exact s.unit_modUnit_ne hne (f := UnitEntry.erasing) fun _ => rfl
    have hops : (ns.zipIdx 1).map (fun p => (⟨5, s.requestNumber + p.2, .erase p.1⟩ : FlashOp)) =
        ns.zipIdx.map fun p => ⟨5, s.requestNumber + 1 + p.2, .erase p.1⟩ := by
      rw [List.zipIdx_succ, List.map_map]
      refine List.map_congr_left fun p _ => ?_
      simp only [Function.comp_apply, Nat.add_assoc, Nat.add_comm 1]
    have hfifo : (s.reclaimFifo.filter fun m => m != n).filter (fun m => decide (m ∉ ns)) =
        s.reclaimFifo.filter fun m => decide (m ∉ n :: ns) := by
      rw [List.filter_filter]
      refine List.filter_congr fun m _ => ?_
      rw [Bool.eq_iff_iff]
      simp [and_comm]
    have hnum' : (s.eraseRequested n).requestNumber + ns.length ≤ 4294967296 := by
      show s.requestNumber + 1 + ns.length ≤ _
      omega
    rw [List.foldl_cons, State.requestErase_drained hu hstate hflight (by omega), ih hns hrest hnum',
      ← map_units_cons (f := UnitEntry.erasing) (fun _ => rfl) hn]
    simp only [State.eraseRequested, hfifo, List.zipIdx_cons, List.map_cons, hops, List.append_assoc, List.singleton_append,
      Nat.zero_add, List.length_cons, Nat.add_zero, Nat.add_assoc, Nat.add_comm 1]

/-- A unit of a released take's chain whose erase has been requested. -/
def UnitEntry.chainErasing (u : UnitEntry) : UnitEntry := { u with state := .erasing, finalPage := none, refreshWanted := false }

/-- The unit found after a change of the table that keeps every number. -/
theorem find_unit_map {us : List UnitEntry} {f : UnitEntry → UnitEntry} (hf : ∀ u, (f u).number = u.number) (n : Nat) :
    (us.map f).find? (fun u => u.number == n) = (us.find? fun u => u.number == n).map f := by
  have hcomp : ((fun u : UnitEntry => u.number == n) ∘ f) = fun u => u.number == n := by
    funext u
    rw [Function.comp_apply, hf]
  rw [List.find?_map, hcomp]

theorem State.unit_number {s : State} {n : Nat} {u : UnitEntry} (h : s.unit n = some u) : u.number = n := by
  simpa using List.find?_some h

/-- The units of a chain put into RECLAIM and, drained, their erases requested. -/
theorem State.drainReclaim_chain {s : State} {ns : List Nat} (hready : s.readiness = .ready) (hfifo : s.reclaimFifo = [])
    (hnd : ns.Nodup) (hunits : ∀ n ∈ ns, ∃ u, s.unit n = some u ∧ u.inFlight = 0)
    (hnum : s.requestNumber + ns.length ≤ 4294967296) :
    (ns.foldl State.reclaimChainUnit s).drainReclaim = { s with
      units := s.units.map fun u => if u.number ∈ ns then u.chainErasing else u
      refreshFifo := s.refreshFifo.filter fun m => decide (m ∉ ns)
      flashOps := s.flashOps ++ ns.zipIdx.map fun p => ⟨5, s.requestNumber + p.2, .erase p.1⟩
      requestNumber := s.requestNumber + ns.length } := by
  have hkeep : ∀ u : UnitEntry, (if u.number ∈ ns then u.reclaimed else u).number = u.number := by
    intro u
    split <;> rfl
  have hfound : ∀ n ∈ ns, ∃ u, (s.chainReclaimed ns).unit n = some u ∧ u.state = .reclaim ∧ u.inFlight = 0 := by
    intro n hn
    obtain ⟨u, hu, hflight⟩ := hunits n hn
    have hmem : u.number ∈ ns := (State.unit_number hu).symm ▸ hn
    have hu' : s.units.find? (fun u => u.number == n) = some u := hu
    refine ⟨u.reclaimed, ?_, rfl, hflight⟩
    rw [State.unit, State.chainReclaimed, find_unit_map hkeep, hu', Option.map_some, if_pos hmem]
  have hmap : (s.units.map fun u => if u.number ∈ ns then u.reclaimed else u).map (fun u => if u.number ∈ ns then u.erasing else u) =
      s.units.map fun u => if u.number ∈ ns then u.chainErasing else u := by
    rw [List.map_map]
    refine List.map_congr_left fun u _ => ?_
    rw [Function.comp_apply, hkeep]
    split <;> rfl
  have hnone : ns.filter (fun m => decide (m ∉ ns)) = [] := by simp
  have hlist : (s.chainReclaimed ns).reclaimFifo = ns := by rw [State.chainReclaimed, hfifo, List.nil_append]
  rw [State.reclaimChainUnits ns hnd, State.drainReclaim, if_pos (by exact hready), hlist, State.requestErases ns hnd hfound hnum, hlist]
  simp only [State.chainReclaimed, hmap, hnone, ← hfifo]

/-- The engine goes on with its work on another take (R154). -/
theorem State.stopEngineFor_other {s : State} {id : Nat} (h : ∀ y, s.engine.work = some y → y.2.take ≠ id) :
    s.stopEngineFor id = { s with rescues := s.rescues.filter fun e => e.take != id || s.engine.rescuing e.unit } := by
  unfold State.stopEngineFor
  dsimp only
  cases hwork : s.engine.work with
  | none => rfl
  | some y =>
    obtain ⟨isRescue, w⟩ := y
    exact if_pos (h _ hwork)

/-- The chain of a released take, drained, goes to be erased, while the engine does not work on the take. -/
theorem State.reclaimChain_of_drained {s : State} {id : Nat} (hready : s.readiness = .ready) (hfifo : s.reclaimFifo = [])
    (hnd : (s.chainNumbers id).Nodup) (hunits : ∀ n ∈ s.chainNumbers id, ∃ u, s.unit n = some u ∧ u.inFlight = 0)
    (hengine : ∀ y, s.engine.work = some y → y.2.take ≠ id)
    (hnum : s.requestNumber + (s.chainNumbers id).length ≤ 4294967296) :
    s.reclaimChain id = { s with
      units := s.units.map fun u => if u.number ∈ s.chainNumbers id then u.chainErasing else u
      refreshFifo := s.refreshFifo.filter fun m => decide (m ∉ s.chainNumbers id)
      rescues := s.rescues.filter fun e => e.take != id || s.engine.rescuing e.unit
      flashOps := s.flashOps ++ (s.chainNumbers id).zipIdx.map fun p => ⟨5, s.requestNumber + p.2, .erase p.1⟩
      requestNumber := s.requestNumber + (s.chainNumbers id).length } := by
  rw [State.reclaimChain, State.drainReclaim_chain hready hfifo hnd hunits hnum,
    State.stopEngineFor_other (by exact hengine)]

/-! ### What a release takes back first -/

section TakenBack

variable {s : State} {id : Nat}

theorem State.takeBack_other {k : StationId} (hcur : ∀ x, (s.station k).current = some x → x.take ≠ id)
    (hshadow : ∀ sh, (s.station k).shadow = some sh → sh.seg.take ≠ id) : State.takeBack id s k = s := by
  have h1 : (s.station k).current.filter (fun x => x.take == id) = none := by
    rw [Option.filter_eq_none_iff]
    intro x hx
    simpa using hcur x hx
  have h2 : ((s.station k).shadow.map Shadow.seg).filter (fun x => x.take == id) = none := by
    rw [Option.filter_eq_none_iff]
    intro x hx
    obtain ⟨sh, hsh, rfl⟩ := Option.map_eq_some_iff.mp hx
    simpa using hshadow sh hsh
  simp [State.takeBack, h1, h2]

theorem State.takeBack_current {k : StationId} {x : SegRef} (hcur : (s.station k).current = some x) (hid : x.take = id)
    (hshadow : (s.station k).shadow = none) (hwait : (s.station k).holding ≠ none → s.noneWaits)
    (hup : (s.link (.station k)).up = true) :
    State.takeBack id s k =
      ((s.withoutHolding (s.station k).holding).setStation k
        { s.station k with
          state := .idle
          current := none
          cursor := 0
          stop := none
          holding := none
          pendingRead := (s.station k).pendingRead.map fun f => if f = .none_ then .gone else f }).queued (.station k)
        ⟨.unsolicited, 0x2F, 0, .ok, {},
          fieldBytes [fNum 1 1 1, fEntry 2 [fNum 1 2 x.take, fNum 2 2 x.index, fNum 3 1 0], ⟨3, []⟩]⟩ := by
  subst hid
  have hkeep : (some x : Option SegRef).filter (fun y => y.take == x.take) = some x := by simp
  simp only [State.takeBack, hcur, hshadow, hkeep, Option.map_none, Option.filter_none, Option.toList, List.map_nil, List.map_cons,
    List.nil_append, reduceCtorEq, if_false]
  rw [State.loseSlot_current_idle hwait hshadow, State.notify_of_up (by simpa using hup)]
  simp [noticeKind, recalledBody, Slot.code, fFlag, hshadow]

theorem State.releaseEndsReadback_other {r : RoomId} (h : (s.readback r).active = false ∨ (s.readback r).take ≠ some id) :
    State.releaseEndsReadback id s r = s := by
  refine if_neg fun ⟨hactive, htake⟩ => ?_
  obtain h | h := h
  · simp [h] at hactive
  · exact h htake

theorem State.releaseEndsReadback_own {r : RoomId} (hactive : (s.readback r).active = true) (htake : (s.readback r).take = some id)
    (hwait : (s.readback r).holding ≠ none → s.noneWaits) :
    State.releaseEndsReadback id s r = (s.withoutHolding (s.readback r).holding).setReadback r
      { s.readback r with
        active := false
        take := none
        endPoint := none
        holding := none
        pendingRead := (s.readback r).pendingRead.map fun p => { p with fate := .discard }
        gone := true } := by
  simp [State.releaseEndsReadback, hactive, htake, State.endReadback, State.idleReadback, State.restReadback_of_noneWaits hwait]

theorem State.withdraw_other {b : BufId} (h : (s.buffer b).state = .programWait → ∀ p, (s.buffer b).page = some p → p.1 ≠ id) :
    State.withdraw id s b = s := by
  refine if_neg fun ⟨hstate, hpage⟩ => ?_
  obtain ⟨p, hp, hid⟩ := exists_of_any hpage
  exact h hstate p hp (by simpa using hid)

end TakenBack

theorem foldl_fixed {α β : Type} {f : β → α → β} {b : β} (xs : List α) (h : ∀ x, f b x = b) : xs.foldl f b = b := by
  induction xs with
  | nil => rfl
  | cons x xs ih => rw [List.foldl_cons, h, ih]

/-! ### The release of a take -/

theorem State.freeTake_eq (s : State) (id : Nat) :
    s.freeTake id = { s with
      takes := s.takes.filter fun y => y.id != id
      stations := s.stations.map fun y => { y with lastCompleted := y.lastCompleted.filter fun x => x.take != id } } := by
  unfold State.freeTake
  congr 1
  refine Vector.map_congr_left fun y _ => ?_
  split
  · rename_i x hlast
    by_cases hid : x.take = id
    · rw [if_pos hid, hlast, Option.filter_some, if_neg (by simpa using hid)]
    · rw [if_neg hid, hlast, Option.filter_some, if_pos (by simpa using hid), ← hlast]
  · rename_i hlast
    rw [hlast, Option.filter_none, ← hlast]

/-- A released take's record, with nothing of the take left. -/
def Take.emptied (t : Take) : Take :=
  { t with state := .released, segments := [], marks := [], damage := [], damageOverflow := 0 }

theorem State.modTake_modTake (s : State) (n : Nat) {f g : Take → Take} (hf : ∀ t, (f t).id = t.id) :
    (s.modTake n f).modTake n g = s.modTake n fun t => g (f t) := by
  unfold State.modTake
  dsimp only
  rw [List.map_map]
  congr 1
  refine List.map_congr_left fun t _ => ?_
  rw [Function.comp_apply]
  by_cases h : t.id = n <;> simp [h, hf]

/-- The release of a take that no station, no read-back and no waiting page holds. -/
theorem State.releaseTake_unheld {s : State} {id : Nat}
    (hstation : ∀ k : StationId, (∀ x, (s.station k).current = some x → x.take ≠ id) ∧
      ∀ sh, (s.station k).shadow = some sh → sh.seg.take ≠ id)
    (hreadback : ∀ r : RoomId, (s.readback r).active = true → (s.readback r).take ≠ some id)
    (hbuffer : ∀ b : BufId, (s.buffer b).state = .programWait → ∀ p, (s.buffer b).page = some p → p.1 ≠ id) :
    s.releaseTake id = if (s.chainUnits id).isEmpty then ((s.modTake id Take.emptied).reclaimChain id).freeTake id
      else (s.modTake id Take.emptied).reclaimChain id := by
  have hback : ∀ (u : State) (hu : ∀ k, u.station k = s.station k), allStations.foldl (State.takeBack id) u = u := by
    refine fun u hu => foldl_fixed _ fun k => State.takeBack_other ?_ ?_
    · rw [hu]
      exact (hstation k).1
    · rw [hu]
      exact (hstation k).2
  have hends : ∀ (u : State) (hu : ∀ r, u.readback r = s.readback r), allRooms.foldl (State.releaseEndsReadback id) u = u := by
    refine fun u hu => foldl_fixed _ fun r => State.releaseEndsReadback_other ?_
    rw [hu]
    cases hactive : (s.readback r).active with
    | false => exact .inl rfl
    | true => exact .inr (hreadback r hactive)
  have hwithdraw : ∀ (u : State) (hu : ∀ b, u.buffer b = s.buffer b), allBuffers.foldl (State.withdraw id) u = u := by
    refine fun u hu => foldl_fixed _ fun b => State.withdraw_other ?_
    rw [hu]
    exact hbuffer b
  unfold State.releaseTake
  dsimp only
  rw [hback, hends, hwithdraw, State.modTake_modTake]
  · rfl
  all_goals intro; rfl

/-! ### Units of a table without repeated numbers -/

theorem State.unit_of_mem {s : State} (hnd : (s.units.map UnitEntry.number).Nodup) {u : UnitEntry} (hu : u ∈ s.units) :
    s.unit u.number = some u := by
  cases hfind : s.unit u.number with
  | none =>
    have := List.find?_eq_none.mp hfind u hu
    simp at this
  | some v => rw [eq_of_nodup_map hnd (List.mem_of_find?_eq_some hfind) hu (State.unit_number hfind)]

theorem State.mem_chainUnits {s : State} {id : Nat} {u : UnitEntry} :
    u ∈ s.chainUnits id ↔ u ∈ s.units ∧ u.inChain = true ∧ u.owner = some id := by
  simp [State.chainUnits]

theorem State.chainNumbers_nodup {s : State} (hnd : (s.units.map UnitEntry.number).Nodup) (id : Nat) : (s.chainNumbers id).Nodup := by
  have hsub : (s.chainUnits id).Sublist s.units := List.filter_sublist
  exact ((sortBy_perm _ _).map _).nodup_iff.mpr (hnd.sublist (hsub.map _))

theorem State.number_mem_chainNumbers {s : State} (hnd : (s.units.map UnitEntry.number).Nodup) {id : Nat} {u : UnitEntry}
    (hu : u ∈ s.units) : u.number ∈ s.chainNumbers id ↔ u ∈ s.chainUnits id := by
  rw [State.chainNumbers, ((sortBy_perm _ _).map _).mem_iff]
  constructor
  · intro h
    obtain ⟨v, hv, hnumber⟩ := List.mem_map.mp h
    rwa [eq_of_nodup_map hnd hu (State.mem_chainUnits.mp hv).1 hnumber.symm]
  · exact List.mem_map_of_mem

/-! ### RELEASE_TAKE at the supervisor's link -/

theorem State.link_releaseTake (s : State) (id : Nat) : (s.releaseTake id).link .supervisor = s.link .supervisor := by
  have h := State.releaseTake_setSupervisor (s := s) (s.link .supervisor) id
  rw [State.setLink_link] at h
  rw [h, State.link_setLink_same]

theorem State.releaseTake_taken (s : State) (kind : Nat) (tag : Byte) (id : Nat) :
    (s.taken .supervisor kind tag).releaseTake id = (s.releaseTake id).taken .supervisor kind tag := by
  rw [State.taken, State.releaseTake_setSupervisor, State.taken, State.link_releaseTake]

/-- The release of a take without chain unit that nothing holds (R25, R133). -/
theorem State.releaseTake_noChain {s : State} {id : Nat}
    (hstation : ∀ k : StationId, (∀ x, (s.station k).current = some x → x.take ≠ id) ∧
      ∀ sh, (s.station k).shadow = some sh → sh.seg.take ≠ id)
    (hreadback : ∀ r : RoomId, (s.readback r).active = true → (s.readback r).take ≠ some id)
    (hbuffer : ∀ b : BufId, (s.buffer b).state = .programWait → ∀ p, (s.buffer b).page = some p → p.1 ≠ id)
    (hchain : s.chainUnits id = []) (hfifo : s.reclaimFifo = []) (hengine : s.engine = .idle) :
    s.releaseTake id = { s with
      takes := s.takes.filter fun y => y.id != id
      rescues := s.rescues.filter fun e => e.take != id
      stations := s.stations.map fun y => { y with lastCompleted := y.lastCompleted.filter fun x => x.take != id } } := by
  have hnumbers : (s.modTake id Take.emptied).chainNumbers id = [] := by
    have h : s.chainNumbers id = [] := by rw [State.chainNumbers, hchain]; rfl
    exact h
  have hdrain : (s.modTake id Take.emptied).drainReclaim = s.modTake id Take.emptied := by
    have h : (s.modTake id Take.emptied).reclaimFifo = [] := hfifo
    rw [State.drainReclaim, h, List.foldl_nil, ite_self]
  have hwork : ∀ y, (s.modTake id Take.emptied).engine.work = some y → y.2.take ≠ id := by
    have h : (s.modTake id Take.emptied).engine = .idle := hengine
    rw [h]
    exact fun _ => nofun
  have hrescues : (s.rescues.filter fun e => e.take != id || s.engine.rescuing e.unit) = s.rescues.filter fun e => e.take != id := by
    simp only [hengine, Engine.rescuing, Bool.or_false]
  have htakes : (s.takes.map fun y => if y.id = id then y.emptied else y).filter (fun y => y.id != id) =
      s.takes.filter fun y => y.id != id := by
    induction s.takes with
    | nil => rfl
    | cons t ts ih =>
      rw [List.map_cons, List.filter_cons, List.filter_cons, ih]
      by_cases h : t.id = id <;> simp [h, Take.emptied]
  rw [State.releaseTake_unheld hstation hreadback hbuffer, hchain, List.isEmpty_nil, if_pos rfl, State.reclaimChain, hnumbers,
    List.foldl_nil, hdrain, State.stopEngineFor_other hwork, State.freeTake_eq, ← htakes, ← hrescues]
  rfl

/-- The release of a take with one chain unit that nothing holds (R25, R145). -/
theorem State.releaseTake_oneUnit {s : State} {id : Nat} {u : UnitEntry} (hready : s.readiness = .ready)
    (hstation : ∀ k : StationId, (∀ x, (s.station k).current = some x → x.take ≠ id) ∧
      ∀ sh, (s.station k).shadow = some sh → sh.seg.take ≠ id)
    (hreadback : ∀ r : RoomId, (s.readback r).active = true → (s.readback r).take ≠ some id)
    (hbuffer : ∀ b : BufId, (s.buffer b).state = .programWait → ∀ p, (s.buffer b).page = some p → p.1 ≠ id)
    (hchain : s.chainUnits id = [u]) (hunit : s.unit u.number = some u) (hflight : u.inFlight = 0) (hfifo : s.reclaimFifo = [])
    (hnum : s.requestNumber ≤ 4294967295) (hengine : ∀ y, s.engine.work = some y → y.2.take ≠ id) :
    s.releaseTake id = { (s.modTake id Take.emptied).modUnit u.number UnitEntry.chainErasing with
      refreshFifo := s.refreshFifo.filter fun m => m != u.number
      rescues := s.rescues.filter fun e => e.take != id || s.engine.rescuing e.unit
      flashOps := s.flashOps ++ [⟨5, s.requestNumber, .erase u.number⟩]
      requestNumber := s.requestNumber + 1 } := by
  have hnumbers : (s.modTake id Take.emptied).chainNumbers id = [u.number] := by
    have h : s.chainNumbers id = [u.number] := by rw [State.chainNumbers, hchain]; rfl
    exact h
  rw [State.releaseTake_unheld hstation hreadback hbuffer, hchain, if_neg (by simp),
    State.reclaimChain_of_drained (by exact hready) (by exact hfifo) (by rw [hnumbers]; exact List.nodup_cons.mpr ⟨List.not_mem_nil, List.nodup_nil⟩)
      (by rw [hnumbers]; exact List.forall_mem_singleton.mpr ⟨u, hunit, hflight⟩) (by exact hengine)
      (by rw [hnumbers]; exact Nat.succ_le_succ hnum)]
  have hbne : (fun m => decide (¬m = u.number)) = fun m => m != u.number := by
    funext m
    rw [Bool.eq_iff_iff]
    simp
  simp only [hnumbers, List.mem_singleton, hbne]
  rfl

theorem execReleaseTake_ok {tag : Byte} {body : List Byte} {id : Nat} {force : Bool} {t : Take} {s : State}
    (hserve : s.canServe .supervisor) (hparse : parseReleaseTake body = some (id, force)) (hfind : s.findTake id = some t)
    (hhold : t.hold = false) (hstate : t.state = .complete ∨ t.state = .closed ∧ force = true) :
    exec (.releaseTake tag body) s = .next (State.settle s ((s.releaseTake id).answered .supervisor 0x4A tag .ok {} [])) := by
  obtain ⟨htake, hready⟩ := hserve
  simp only [exec, execReleaseTake]
  rw [State.request_served htake hparse (by rw [hready]; rfl), serveReleaseTake]
  simp only [State.findTake_taken, hfind, hhold, Bool.false_eq_true, if_false]
  rw [if_pos hstate, State.findTake_id hfind, State.releaseTake_taken, State.answer_taken, State.settle_taken]

/-- Settles O41: the refusals, the steps of a release, and the two releases of a take that nothing holds. -/
theorem releaseTake : Obligations.ReleaseTake := by
  refine ⟨fun tag body id force s hserve hparse hfind => ?noTake, fun id s => ?steps,
    fun id s hready hnd hfifo hflight hengine hnum => ?chain,
    fun tag body id force t s hserve hparse hfind => ⟨fun hrefused => ?refused, execReleaseTake_ok hserve hparse hfind,
      fun hhold hstate hchain hfifo hstation hreadback hbuffer hengine => ?noChain,
      fun u hhold hstate hchain hunit hflight hfifo hnum hstation hreadback hbuffer hengine => ?oneUnit⟩,
    fun s k id => ⟨State.takeBack_other, fun x hcur hid hshadow hwait hup => State.takeBack_current hcur hid hshadow hwait hup⟩,
    fun s r id => ⟨State.releaseEndsReadback_other, State.releaseEndsReadback_own⟩,
    fun s b id tp hstate hpage hwait => ?withdrawn⟩
  case noTake =>
    obtain ⟨htake, hready⟩ := hserve
    simp only [exec, execReleaseTake]
    rw [State.request_served htake hparse (by rw [hready]; rfl), serveReleaseTake]
    simp [hfind]
  case steps =>
    rw [State.releaseTake, State.freeTake_eq]
    simp only [List.isEmpty_iff]
    rfl
  case chain =>
    have hmem : ∀ n ∈ s.chainNumbers id, ∃ u, s.unit n = some u ∧ u.inFlight = 0 := by
      intro n hn
      obtain ⟨u, hu, rfl⟩ := List.mem_map.mp hn
      have hu' : u ∈ s.chainUnits id := (sortBy_perm _ _).mem_iff.mp hu
      exact ⟨u, State.unit_of_mem hnd (State.mem_chainUnits.mp hu').1, hflight u hu'⟩
    have hlen : (s.chainNumbers id).length = (s.chainUnits id).length := by
      rw [State.chainNumbers, List.length_map, (sortBy_perm _ _).length_eq]
    refine ⟨sortBy (fun u => u.chain.getD 0) (s.chainUnits id), sortBy_perm .., sortBy_pairwise .., ?_⟩
    rw [State.reclaimChain_of_drained hready hfifo (State.chainNumbers_nodup hnd id) hmem hengine (by rw [hlen]; exact hnum)]
    have hunits : (s.units.map fun u => if u.number ∈ s.chainNumbers id then u.chainErasing else u) =
        s.units.map fun u => if u ∈ s.chainUnits id then u.chainErasing else u := by
      refine List.map_congr_left fun u hu => ?_
      simp only [State.number_mem_chainNumbers hnd hu]
    rw [hunits, State.chainNumbers, List.zipIdx_map, List.map_map, List.length_map]
    rfl
  case refused =>
    refine exec_refused (f := serveReleaseTake) rfl hserve (by rw [hparse]; rfl) fun a ha => ?_
    obtain rfl : (id, force) = a := Option.some.inj (hparse.symm.trans ha)
    simp only [serveReleaseTake, State.findTake_taken, hfind]
    split
    · rfl
    rename_i hhold
    rw [if_neg]
    obtain h | h | h | ⟨h, hforce⟩ := hrefused
    · exact absurd h hhold
    · simp [h]
    · simp [h]
    · simp [h, hforce]
  case noChain =>
    rw [execReleaseTake_ok hserve hparse hfind hhold (.inl hstate),
      State.releaseTake_noChain hstation hreadback hbuffer hchain hfifo hengine, State.settle_noRush]
    intro h
    rw [State.rushCount_eq_zero_iff] at h ⊢
    intro y hy
    rw [State.takes_answered] at hy
    exact h y (List.mem_filter.mp hy).1
  case oneUnit =>
    rw [execReleaseTake_ok hserve hparse hfind hhold hstate,
      State.releaseTake_oneUnit hserve.2 hstation hreadback hbuffer hchain hunit hflight hfifo hnum hengine]
    rfl
  case withdrawn =>
    have hpage' : (s.buffer b).page.any (fun p => p.1 == id) = true := by simp [hpage]
    rw [State.withdraw]
    dsimp only
    rw [if_pos ⟨hstate, hpage'⟩, State.freeBuffer_of_noneWaits (by exact hwait)]
    rfl

end Sys2Proof.Machine
end

section
/-! TAKE_START (R3, R4, R8, R32, R85). -/

namespace Sys2Proof.Machine

/-- A take inserted under a new id is the take found under that id. -/
theorem find_insertTake {t : Take} {ts : List Take} (h : t.id ∉ ts.map Take.id) :
    (insertTake t ts).find? (fun u => u.id == t.id) = some t := by
  induction ts with
  | nil => simp [insertTake]
  | cons u ts ih =>
    obtain ⟨hne, hts⟩ : t.id ≠ u.id ∧ t.id ∉ ts.map Take.id := by simpa [not_or] using h
    unfold insertTake
    split
    · simp
    · rw [List.find?_cons_of_neg (by simpa using hne.symm), ih hts]

/-! ### The room's FILLING buffer (R32, R46, R129) -/

/-- A room last in the drop-wait list (R46). -/
def State.joinDropWait (s : State) (r : RoomId) : State := { s with dropWait := s.dropWait ++ [r] }

section DropWait

variable (s : State) (r q : RoomId)

@[simp] theorem State.room_joinDropWait : (s.joinDropWait r).room q = s.room q := rfl
@[simp] theorem State.takes_joinDropWait : (s.joinDropWait r).takes = s.takes := rfl
@[simp] theorem State.findTake_joinDropWait (n : Nat) : (s.joinDropWait r).findTake n = s.findTake n := rfl
@[simp] theorem State.link_joinDropWait (l : LinkId) : (s.joinDropWait r).link l = s.link l := by cases l <;> rfl
@[simp] theorem State.setRoom_joinDropWait (x : Room) : (s.joinDropWait r).setRoom q x = (s.setRoom q x).joinDropWait r := rfl
@[simp] theorem State.joinDropWait_taken (l : LinkId) (kind : Nat) (tag : Byte) :
    (s.taken l kind tag).joinDropWait r = (s.joinDropWait r).taken l kind tag := by cases l <;> rfl

end DropWait

section Filling

variable {s : State} {r : RoomId} {id : Nat} {t : Take}

theorem State.obtainFilling_free {b : BufId} (htake : (s.room r).take = some id) (hfind : s.findTake id = some t)
    (hfree : s.firstFree = some b) :
    s.obtainFilling r = (s.setBuffer b (fillingBuffer r t.id (takePage t.channels t.length))).setRoom r
      { s.room r with filling := some b, slot := 0 } := by
  simp [State.obtainFilling, htake, hfind, hfree]

theorem State.obtainFilling_none (htake : (s.room r).take = some id) (hfind : s.findTake id = some t)
    (hfree : s.firstFree = none) (hrun : (s.room r).filledRun = none) :
    s.obtainFilling r =
      (s.setRoom r { s.room r with filling := none, slot := 0, dropping := some .noBuffer, dropped := 0 }).joinDropWait r := by
  simp [State.obtainFilling, htake, hfind, hfree, State.enterDropping, State.reportFilledRun_of_none hrun, State.joinDropWait]

end Filling

/-- A room as it begins to record a take, before its FILLING buffer. -/
def Room.started (x : Room) (id : Nat) : Room :=
  { x with
    state := .recording
    take := some id
    dropping := none
    dropped := 0
    rescueWaiting := false
    filling := none
    slot := 0
    filledRun := none
    call := none
    carry := [] }

theorem State.beginRecording_eq (s : State) (r : RoomId) (id : Nat) :
    s.beginRecording r id = s.setRoom r ((s.room r).started id) := rfl

theorem State.createTake_of_ne_rush (s : State) {t : Take} (h : t.cls ≠ .rush) :
    s.createTake t = { s with takes := insertTake t s.takes, lastId := t.id } :=
  if_neg h

/-- The first call of a paced room (R39). -/
theorem State.sendCall_first {s : State} {r : RoomId} {id : Nat} {t : Take} (hup : (s.link (.room r)).up = true)
    (hcounter : (s.room r).callCounter = 0) (htake : (s.room r).take = some id) (hfind : s.findTake id = some t) (hlen : t.length = 0) :
    s.sendCall r = (s.setRoom r { s.room r with call := some ⟨0, true⟩, callCounter := 1 }).queued (.room r)
      ⟨.unsolicited, 0x1F, 0, .ok, {}, toLE 4 0 ++ toLE 4 0⟩ := by
  have hlength : (((s.room r).take.bind s.findTake).map Take.length).getD 0 = 0 := by simp [htake, hfind, hlen]
  rw [State.sendCall]
  dsimp only
  rw [hlength, State.notify_of_up (by simpa using hup), hcounter]
  rfl

/-! ### TAKE_START served -/

@[simp] theorem State.setBuffer_setRoom (s : State) (r : RoomId) (x : Room) (b : BufId) (y : Buffer) :
    (s.setRoom r x).setBuffer b y = (s.setBuffer b y).setRoom r x := rfl

section Begun

variable {s : State} {r : RoomId} {id : Nat} {t : Take}

theorem State.begun_free {b : BufId} (hfind : s.findTake id = some t) (hfree : s.firstFree = some b) :
    (s.beginRecording r id).obtainFilling r = (s.setBuffer b (fillingBuffer r t.id (takePage t.channels t.length))).setRoom r
      { (s.room r).started id with filling := some b } := by
  rw [State.beginRecording_eq, State.obtainFilling_free (s := s.setRoom r ((s.room r).started id)) (id := id) (t := t)
    (b := b) (by simp [Room.started]) (by simpa using hfind)    ((State.firstFree_congr rfl).trans hfree)]
  simp [Room.started]

theorem State.begun_none (hfind : s.findTake id = some t) (hfree : s.firstFree = none) :
    (s.beginRecording r id).obtainFilling r =
      (s.setRoom r { (s.room r).started id with dropping := some .noBuffer }).joinDropWait r := by
  rw [State.beginRecording_eq, State.obtainFilling_none (s := s.setRoom r ((s.room r).started id)) (id := id) (t := t)
    (by simp [Room.started]) (by simpa using hfind)    ((State.firstFree_congr rfl).trans hfree) (by simp [Room.started])]
  simp [Room.started]

theorem State.begun_taken {l : LinkId} {kind : Nat} {tag : Byte} (hfind : s.findTake id = some t) :
    ((s.taken l kind tag).beginRecording r id).obtainFilling r = ((s.beginRecording r id).obtainFilling r).taken l kind tag := by
  have hfind' : (s.taken l kind tag).findTake id = some t := by simpa using hfind
  cases hfree : s.firstFree with
  | some b =>
    have hfree' : (s.taken l kind tag).firstFree = some b := by simpa [State.taken] using hfree
    rw [State.begun_free hfind hfree, State.begun_free hfind' hfree']
    simp
  | none =>
    have hfree' : (s.taken l kind tag).firstFree = none := by simpa [State.taken] using hfree
    rw [State.begun_none hfind hfree, State.begun_none hfind' hfree']
    simp

theorem State.begun_active (hfind : s.findTake id = some t) :
    (((s.beginRecording r id).obtainFilling r).room r).active = (s.room r).active := by
  cases hfree : s.firstFree with
  | some b => simp [State.begun_free hfind hfree, Room.started]
  | none =>
    rw [State.begun_none hfind hfree]
    simp [Room.started]

end Begun

/-- The answer to a TAKE_START and the first call of a paced room. -/
def State.takeAnswered (s : State) (r : RoomId) (id : Nat) : State :=
  let u := s.answerFields (.room r) .ok {} (fNum 1 2 id :: fOpt 2 1 ((s.room r).dropping.map DropCause.code))
  match (s.room r).active.timing with
  | .paced => (u.modRoom r fun y => { y with callCounter := 0, cadence := true }).sendCall r
  | .pushed => u

section Answered

variable {s : State} {r : RoomId} {id : Nat}

theorem State.takeAnswered_pushed {l : List BodyField} {tag : Byte} (htiming : (s.room r).active.timing = .pushed)
    (hdropping : fOpt 2 1 ((s.room r).dropping.map DropCause.code) = l) :
    (s.taken (.room r) 0x10 tag).takeAnswered r id = s.answered (.room r) 0x10 tag .ok {} (fieldBytes (fNum 1 2 id :: l)) := by
  simp [State.takeAnswered, htiming, hdropping, State.answerFields]

theorem State.takeAnswered_paced {l : List BodyField} {tag : Byte} {t : Take} (htiming : (s.room r).active.timing = .paced)
    (hdropping : fOpt 2 1 ((s.room r).dropping.map DropCause.code) = l) (hup : (s.link (.room r)).up = true)
    (htake : (s.room r).take = some id) (hfind : s.findTake id = some t) (hlen : t.length = 0) :
    (s.taken (.room r) 0x10 tag).takeAnswered r id =
      ((s.setRoom r { s.room r with call := some ⟨0, true⟩, callCounter := 1, cadence := true }).answered (.room r) 0x10 tag .ok {}
        (fieldBytes (fNum 1 2 id :: l))).queued (.room r) ⟨.unsolicited, 0x1F, 0, .ok, {}, toLE 4 0 ++ toLE 4 0⟩ := by
  simp only [State.takeAnswered, State.room_taken, htiming, hdropping, State.answerFields, State.answer_taken, State.modRoom_eq]
  rw [State.sendCall_first (id := id) (t := t)]
  · simp [State.answered]
  all_goals simp [State.answered, *]

end Answered

section Served

variable {s : State} {r : RoomId} {a : TakeStartArgs}

theorem serveTakeStart_served (hstate : (s.room r).state ≠ .recording) (hlen : s.takes.length < 256) (hfree : 0 < s.freeSegments)
    (hactive : ((((s.createTake (newTake s.newTakeId r (s.room r).active a)).beginRecording r s.newTakeId).obtainFilling r).room
      r).active = (s.room r).active) :
    serveTakeStart r a s = State.settle s
      ((((s.createTake (newTake s.newTakeId r (s.room r).active a)).beginRecording r s.newTakeId).obtainFilling r).takeAnswered r
        s.newTakeId) := by
  rw [serveTakeStart, if_neg hstate, if_neg (by simpa [Config.takeRecords] using hlen), if_neg (by omega), State.takeAnswered, hactive]
  rfl

end Served

/-- TAKE_START served, from the state with the take's record in its table. -/
theorem execTakeStart_served {r : RoomId} {tag : Byte} {body : List Byte} {a : TakeStartArgs} {s u : State}
    (hserve : s.canServe (.room r)) (hparse : parseTakeStart body = some a) (hstate : (s.room r).state ≠ .recording)
    (hlen : s.takes.length < 256) (hfree : 0 < s.freeSegments)
    (hu : (s.taken (.room r) 0x10 tag).createTake (newTake s.newTakeId r (s.room r).active a) = u.taken (.room r) 0x10 tag)
    {t : Take} (hfind : u.findTake s.newTakeId = some t) (hroom : u.room r = s.room r) :
    exec (.takeStart r tag body) s = .next (State.settle s
      ((((u.beginRecording r s.newTakeId).obtainFilling r).taken (.room r) 0x10 tag).takeAnswered r s.newTakeId)) := by
  obtain ⟨htake, hready⟩ := hserve
  have hid : (s.taken (.room r) 0x10 tag).newTakeId = s.newTakeId := rfl
  simp only [exec, execTakeStart]
  rw [State.request_served htake hparse (by rw [hready]; rfl), serveTakeStart_served, State.settle_taken, hid, State.room_taken, hu,
    State.begun_taken hfind]
  · simpa using hstate
  · simpa using hlen
  · exact hfree
  · rw [hid, State.room_taken, hu, State.begun_taken hfind, State.room_taken, State.begun_active hfind, hroom]

/-- The state with the record of a new take that is handed over to nobody yet. -/
def State.takeAdded (s : State) (t : Take) : State := { s with takes := insertTake t s.takes, lastId := t.id }

theorem State.findTake_takeAdded {s : State} {t : Take} (h : t.id ∉ s.takes.map Take.id) : (s.takeAdded t).findTake t.id = some t :=
  find_insertTake h

theorem State.rushCount_takeAdded {s : State} {t : Take} (hcls : t.cls ≠ .rush) (h : s.rushCount = 0) :
    (s.takeAdded t).rushCount = 0 := by
  rw [State.rushCount_eq_zero_iff] at h ⊢
  intro y hy
  obtain rfl | hy := mem_insertTake.mp hy
  · exact fun hrush => absurd hrush hcls
  · exact h y hy

/-- Settles O46: by whether a buffer is FREE and by the room's timing. -/
theorem takeStartBeginsATake : Obligations.TakeStartBeginsATake := by
  refine fun r tag body a s hserve hparse hstate hlen hfree hcls => ?_
  dsimp only
  have hadded : (s.takeAdded (newTake s.newTakeId r (s.room r).active a)).findTake s.newTakeId =
    some (newTake s.newTakeId r (s.room r).active a) := State.findTake_takeAdded (s.newTakeId_notMem hlen)
  have hrush : ∀ v : State, v.takes = (s.takeAdded (newTake s.newTakeId r (s.room r).active a)).takes →
      State.settle s v = v.issue := fun v hv =>
    State.settle_noRush fun h => (State.rushCount_congr hv).trans (State.rushCount_takeAdded hcls h)
  rw [execTakeStart_served hserve hparse hstate hlen hfree (u := s.takeAdded (newTake s.newTakeId r (s.room r).active a))
    (State.createTake_of_ne_rush _ hcls) hadded rfl]
  have hroom : (s.takeAdded (newTake s.newTakeId r (s.room r).active a)).room r = s.room r := rfl
  have hup : ((s.takeAdded (newTake s.newTakeId r (s.room r).active a)).link (.room r)).up = true := hserve.1.1
  have hpage : takePage (s.room r).active.channels 0 = 0 := by simp [takePage]
  refine congrArg Host.Outcome.next ?_
  cases hbuf : s.firstFree with
  | some b =>
    rw [State.begun_free (id := s.newTakeId) (b := b) hadded hbuf, hroom]
    cases htiming : (s.room r).active.timing with
    | pushed =>
      rw [State.takeAnswered_pushed (l := []), hrush]
      · simp [hpage, newTake, newSegment, fillingBuffer, Room.started, State.takeAdded]
      all_goals simp [Room.started, fOpt, htiming]
    | paced =>
      rw [State.takeAnswered_paced (l := []) (hlen := rfl)
          (t := newTake s.newTakeId r (s.room r).active a), hrush]
      · simp [hpage, newTake, newSegment, fillingBuffer, Room.started, State.takeAdded]
      all_goals simp [Room.started, fOpt, hadded, hup, htiming]
  | none =>
    rw [State.begun_none (id := s.newTakeId) hadded hbuf, hroom]
    cases htiming : (s.room r).active.timing with
    | pushed =>
      rw [State.takeAnswered_pushed (l := [fNum 2 1 0]), hrush]
      · simp [newTake, newSegment, Room.started, State.takeAdded]
        rfl
      all_goals simp [Room.started, DropCause.code, fOpt, htiming]
    | paced =>
      rw [State.takeAnswered_paced (l := [fNum 2 1 0]) (hlen := rfl)
          (t := newTake s.newTakeId r (s.room r).active a), hrush]
      · simp [newTake, newSegment, Room.started, State.takeAdded]
        rfl
      all_goals simp [Room.started, DropCause.code, fOpt, hadded, hup, htiming]

end Sys2Proof.Machine
end

section
/-! TAKE_START in class RUSH, and its refusals (R3, R8, R32, R85). -/

namespace Sys2Proof.Machine

/-! ### RUSH_READY (R85) -/

theorem State.mem_entries {s : State} {e : QEntry} : e ∈ s.entries ↔
    ∃ t ∈ s.takes, ∃ g ∈ t.segments, g.work = some .queued ∧ e = ⟨⟨t.id, g.index⟩, t.cls, g.band, g.sequence⟩ := by
  simp only [State.entries, List.mem_flatMap, Take.queuedEntries, List.mem_map, List.mem_filter, beq_iff_eq]
  constructor
  · rintro ⟨t, ht, g, ⟨hg, hwork⟩, rfl⟩
    exact ⟨t, ht, g, hg, hwork, rfl⟩
  · rintro ⟨t, ht, g, hg, hwork, rfl⟩
    exact ⟨t, ht, g, ⟨hg, hwork⟩, rfl⟩

/-- RUSH_READY names the one RUSH entry of a queue that held none before. -/
theorem State.rushCheck_only {before s : State} {x : SegRef} (hbefore : before.rushCount = 0)
    (hsome : ∃ e ∈ s.entries, e.cls = .rush) (honly : ∀ e ∈ s.entries, e.cls = .rush → e.ref = x) :
    State.rushCheck before s = s.raise (.rushReady x.take x.index s.idleRushStations) := by
  rw [State.rushCheck, if_pos hbefore]
  cases hfind : s.queue.find? fun e => e.cls == .rush with
  | none =>
    obtain ⟨e, he, hcls⟩ := hsome
    have := List.find?_eq_none.mp hfind e (s.mem_queue.mpr he)
    simp [hcls] at this
  | some e =>
    have hcls : e.cls = .rush := by simpa using List.find?_some hfind
    have hmem := s.mem_queue.mp (List.mem_of_find?_eq_some hfind)
    dsimp only
    rw [honly e hmem hcls]

theorem State.rushCheck_loud {before s : State} (h : before.rushCount ≠ 0) : State.rushCheck before s = s := if_neg h

/-! ### What the answer and the first buffer leave to the scheduler -/

/-- Two states with the same takes, counter, stations and alerts. -/
def State.SameSchedule (s t : State) : Prop :=
  s.takes = t.takes ∧ s.enqueueCounter = t.enqueueCounter ∧ s.stations = t.stations ∧ s.alerts = t.alerts

theorem State.begun_sameSchedule {s : State} {r : RoomId} {id : Nat} {t : Take} (hfind : s.findTake id = some t) :
    ((s.beginRecording r id).obtainFilling r).SameSchedule s := by
  cases hfree : s.firstFree with
  | some b =>
    rw [State.begun_free hfind hfree]
    exact ⟨rfl, rfl, rfl, rfl⟩
  | none =>
    rw [State.begun_none hfind hfree]
    exact ⟨rfl, rfl, rfl, rfl⟩

theorem State.setLink_sameSchedule (s : State) (l : LinkId) (x : LinkRec) : (s.setLink l x).SameSchedule s := by
  cases l <;> exact ⟨rfl, rfl, rfl, rfl⟩

theorem State.SameSchedule.trans {s t u : State} (h : s.SameSchedule t) (h' : t.SameSchedule u) : s.SameSchedule u := by
  obtain ⟨h1, h2, h3, h4⟩ := h
  obtain ⟨h1', h2', h3', h4'⟩ := h'
  exact ⟨h1.trans h1', h2.trans h2', h3.trans h3', h4.trans h4'⟩

theorem State.notify_sameSchedule (s : State) (l : LinkId) (kind : Nat) (body : List Byte) : (s.notify l kind body).SameSchedule s := by
  unfold State.notify State.send
  dsimp only
  split
  · exact State.setLink_sameSchedule ..
  · exact ⟨rfl, rfl, rfl, rfl⟩

theorem State.takeAnswered_sameSchedule (s : State) (r : RoomId) (tag : Byte) (id : Nat) :
    ((s.taken (.room r) 0x10 tag).takeAnswered r id).SameSchedule s := by
  unfold State.takeAnswered
  simp only [State.answerFields, State.answer_taken]
  split
  · exact (State.notify_sameSchedule ..).trans ⟨rfl, rfl, rfl, rfl⟩
  · exact State.setLink_sameSchedule ..

theorem State.issue_sameSchedule (s : State) : s.issue.SameSchedule s := by
  obtain ⟨_, _, _, _, e⟩ := State.issueSome_eq 4 s
  rw [State.issue, e]
  exact ⟨rfl, rfl, rfl, rfl⟩

/-! ### The segment 0 of a take in class RUSH -/

section Rush

variable {s : State} {t : Take}

/-- A new take whose segment 0 is QUEUED in band 1. -/
def Take.handed (t : Take) (n : Nat) : Take := { t with segments := [⟨0, 0, none, some .queued, 1, n, none, none, 0⟩] }

/-- The state with the record of a new take whose segment 0 is handed over (R8). -/
def State.takeHanded (s : State) (t : Take) : State := (s.takeAdded t).enqueue ⟨t.id, 0⟩ 1

theorem State.createTake_of_rush (h : t.cls = .rush) : s.createTake t = s.takeHanded t := if_pos h

theorem State.takeHanded_eq (hcount : s.enqueueCounter < Config.max32) :
    s.takeHanded t = { (s.takeAdded t).modSegment ⟨t.id, 0⟩ fun g =>
      { g with work := some .queued, band := 1, sequence := s.enqueueCounter } with enqueueCounter := s.enqueueCounter + 1 } :=
  State.enqueue_of_lt (s := s.takeAdded t) hcount _ _

theorem State.takeHanded_taken (s : State) (t : Take) (l : LinkId) (kind : Nat) (tag : Byte) :
    (s.taken l kind tag).takeHanded t = (s.takeHanded t).taken l kind tag := by
  have h : (s.taken l kind tag).takeAdded t = (s.takeAdded t).taken l kind tag := by cases l <;> rfl
  rw [State.takeHanded, h, State.enqueue_taken, State.takeHanded]

theorem State.findTake_takeHanded (hcount : s.enqueueCounter < Config.max32) (hsegs : t.segments = [newSegment 0 0])
    (hid : t.id ∉ s.takes.map Take.id) : (s.takeHanded t).findTake t.id = some (t.handed s.enqueueCounter) := by
  have h := (s.takeAdded t).findTake_modTake_same t.id (f := fun y => y.modSegment 0 fun g =>
    { g with work := some .queued, band := 1, sequence := s.enqueueCounter }) fun _ => rfl
  rw [State.findTake_takeAdded hid, Option.map_some] at h
  rw [State.takeHanded_eq hcount]
  refine h.trans ?_
  unfold Take.modSegment
  rw [hsegs]
  rfl

theorem State.mem_takeHanded (hcount : s.enqueueCounter < Config.max32) (hsegs : t.segments = [newSegment 0 0])
    (hid : t.id ∉ s.takes.map Take.id) {y : Take} (hy : y ∈ (s.takeHanded t).takes) :
    y = t.handed s.enqueueCounter ∨ y ∈ s.takes := by
  rw [State.takeHanded_eq hcount] at hy
  obtain ⟨z, hz, rfl⟩ := List.mem_map.mp hy
  obtain rfl | hz := mem_insertTake.mp hz
  · left
    rw [if_pos rfl]
    dsimp only [Take.modSegment]
    rw [hsegs]
    rfl
  · right
    rwa [if_neg fun h : z.id = t.id => hid (List.mem_map.mpr ⟨z, hz, h⟩)]

theorem State.segment_takeHanded (hcount : s.enqueueCounter < Config.max32) (hsegs : t.segments = [newSegment 0 0])
    (hid : t.id ∉ s.takes.map Take.id) :
    (s.takeHanded t).segment ⟨t.id, 0⟩ = some ⟨0, 0, none, some .queued, 1, s.enqueueCounter, none, none, 0⟩ := by
  rw [State.segment, State.findTake_takeHanded hcount hsegs hid]
  rfl

/-- The new take's segment 0 is the one RUSH entry where there was none before. -/
theorem State.rushCheck_takeHanded {w : State} (hcount : s.enqueueCounter < Config.max32) (hsegs : t.segments = [newSegment 0 0])
    (hid : t.id ∉ s.takes.map Take.id) (hcls : t.cls = .rush) (hnone : s.rushCount = 0) (hw : w.takes = (s.takeHanded t).takes) :
    State.rushCheck s w = w.raise (.rushReady t.id 0 w.idleRushStations) := by
  have hrush := State.rushCount_eq_zero_iff.mp hnone
  refine State.rushCheck_only (x := ⟨t.id, 0⟩) hnone ⟨⟨⟨t.id, 0⟩, .rush, 1, s.enqueueCounter⟩, State.mem_entries.mpr ?_, rfl⟩ ?_
  · rw [hw]
    refine ⟨t.handed s.enqueueCounter, List.mem_of_find?_eq_some (State.findTake_takeHanded hcount hsegs hid),
      _, List.mem_singleton_self _, rfl, ?_⟩
    rw [← hcls]
    rfl
  · intro e he hrushEntry
    obtain ⟨y, hy, g, hg, hwork, rfl⟩ := State.mem_entries.mp he
    rw [hw] at hy
    obtain rfl | hy := State.mem_takeHanded hcount hsegs hid hy
    · obtain rfl := List.mem_singleton.mp hg
      rfl
    · exact absurd hwork (hrush y hy hrushEntry g hg)

end Rush

theorem State.idleRushStations_congr {s t : State} (h : s.stations = t.stations) : s.idleRushStations = t.idleRushStations := by
  simp only [State.idleRushStations, State.station, h]

theorem State.segment_congr {s t : State} (h : s.takes = t.takes) (x : SegRef) : s.segment x = t.segment x := by
  simp only [State.segment, State.findTake, h]

theorem State.SameSchedule.raise {s t : State} (h : s.SameSchedule t) (a : Alert) :
    (s.raise a).takes = t.takes ∧ (s.raise a).enqueueCounter = t.enqueueCounter := by
  obtain ⟨htakes, hcounter, -, -⟩ := h
  refine ⟨(State.takes_raise ..).trans htakes, ?_⟩
  unfold State.raise
  split <;> exact hcounter

/-- The end of the event that creates a take in class RUSH. -/
theorem State.settle_takeHanded {s w : State} {t : Take} (hcount : s.enqueueCounter < Config.max32)
    (hsegs : t.segments = [newSegment 0 0]) (hid : t.id ∉ s.takes.map Take.id) (hcls : t.cls = .rush)
    (hsame : w.SameSchedule (s.takeHanded t)) :
    (State.settle s w).segment ⟨t.id, 0⟩ = some ⟨0, 0, none, some .queued, 1, s.enqueueCounter, none, none, 0⟩ ∧
    (State.settle s w).enqueueCounter = s.enqueueCounter + 1 ∧
    (s.rushCount = 0 →
      ∃ v : State, State.settle s w = (v.raise (.rushReady t.id 0 s.idleRushStations)).issue ∧ v.alerts = s.alerts) ∧
    (s.rushCount ≠ 0 → ∃ v : State, State.settle s w = v.issue ∧ v.alerts = s.alerts) := by
  have hshape := State.takeHanded_eq (s := s) (t := t) hcount
  have hstations : (s.takeHanded t).stations = s.stations := by rw [hshape]; rfl
  have halerts : w.alerts = s.alerts := hsame.2.2.2.trans (by rw [hshape]; rfl)
  have hcounter : (s.takeHanded t).enqueueCounter = s.enqueueCounter + 1 := by rw [hshape]
  have hquiet : s.rushCount ≠ 0 → State.settle s w = w.issue := fun h => by rw [State.settle, State.rushCheck_loud h]
  have hloud : s.rushCount = 0 → State.settle s w = (w.raise (.rushReady t.id 0 s.idleRushStations)).issue := by
    intro h
    rw [State.settle, State.rushCheck_takeHanded hcount hsegs hid hcls h hsame.1,
      State.idleRushStations_congr (hsame.2.2.1.trans hstations)]
  have hkept : (State.settle s w).takes = (s.takeHanded t).takes ∧
      (State.settle s w).enqueueCounter = (s.takeHanded t).enqueueCounter := by
    by_cases h : s.rushCount = 0
    · rw [hloud h]
      exact ⟨(State.takes_issue _).trans (hsame.raise _).1, (State.issue_sameSchedule _).2.1.trans (hsame.raise _).2⟩
    · rw [hquiet h]
      exact ⟨(State.takes_issue _).trans hsame.1, (State.issue_sameSchedule _).2.1.trans hsame.2.1⟩
  exact ⟨(State.segment_congr hkept.1 _).trans (State.segment_takeHanded hcount hsegs hid), hkept.2.trans hcounter,
    fun h => ⟨w, hloud h, halerts⟩, fun h => ⟨w, hquiet h, halerts⟩⟩

/-- Settles O47: the three refusals are tests of the room and the tables; in class RUSH the take's segment 0 is enqueued as the take is
created. -/
theorem takeStartRushOrRefused : Obligations.TakeStartRushOrRefused := by
  refine fun r tag body a s hserve hparse => ⟨fun hstate => ?recording, fun hstate hlen => ?takesFull,
    fun hstate hlen hfree => ?segmentsFull, fun hstate hlen hfree hcls hcount => ?rush⟩
  case recording =>
    refine exec_refused (f := serveTakeStart r) rfl hserve (by rw [hparse]; rfl) fun _ _ => ?_
    rw [serveTakeStart, if_pos (by simpa using hstate)]
  case takesFull =>
    obtain ⟨htake, hready⟩ := hserve
    simp only [exec, execTakeStart]
    rw [State.request_served htake hparse (by rw [hready]; rfl), serveTakeStart, if_neg (by simpa using hstate),
      if_pos (by simpa [Config.takeRecords] using hlen), State.raise_taken, State.answer_taken]
  case segmentsFull =>
    obtain ⟨htake, hready⟩ := hserve
    simp only [exec, execTakeStart]
    rw [State.request_served htake hparse (by rw [hready]; rfl), serveTakeStart, if_neg (by simpa using hstate),
      if_neg (by simpa [Config.takeRecords] using hlen), if_pos (by exact hfree), State.raise_taken, State.answer_taken]
  case rush =>
    have hnew : (newTake s.newTakeId r (s.room r).active a).id ∉ s.takes.map Take.id := s.newTakeId_notMem hlen
    have hfind := State.findTake_takeHanded hcount rfl hnew
    have hhanded : (s.taken (.room r) 0x10 tag).createTake (newTake s.newTakeId r (s.room r).active a) =
        (s.takeHanded (newTake s.newTakeId r (s.room r).active a)).taken (.room r) 0x10 tag :=
      (State.createTake_of_rush hcls).trans (State.takeHanded_taken ..)
    refine ⟨_, execTakeStart_served hserve hparse hstate hlen hfree hhanded hfind ?_, ?_⟩
    · rw [State.takeHanded_eq hcount]
      rfl
    exact State.settle_takeHanded hcount rfl hnew hcls
      ((State.takeAnswered_sameSchedule _ r tag s.newTakeId).trans (State.begun_sameSchedule (r := r) hfind))

end Sys2Proof.Machine
end

section
/-! What the report of a gap leaves alone, and what may be changed before or after it (R43 to R46). -/

namespace Sys2Proof.Machine

/-! ### Alerts and other updates -/

section Raise

variable (s : State) (a : Alert)

@[simp] theorem State.modTake_raise (n : Nat) (f : Take → Take) : (s.raise a).modTake n f = (s.modTake n f).raise a := by
  by_cases h : s.alerts.length < Config.alertRecords <;> simp only [State.raise, State.modTake, h, if_true, if_false]

@[simp] theorem State.setRoom_raise (r : RoomId) (x : Room) : (s.raise a).setRoom r x = (s.setRoom r x).raise a := by
  by_cases h : s.alerts.length < Config.alertRecords <;> simp only [State.raise, State.setRoom, h, if_true, if_false]

@[simp] theorem State.setBuffer_raise (b : BufId) (x : Buffer) : (s.raise a).setBuffer b x = (s.setBuffer b x).raise a := by
  by_cases h : s.alerts.length < Config.alertRecords <;> simp only [State.raise, State.setBuffer, h, if_true, if_false]

@[simp] theorem State.writeBuf_raise (b : BufId) (o : Nat) (bs : List Byte) :
    (s.raise a).writeBuf b o bs = (s.writeBuf b o bs).raise a := by
  by_cases h : s.alerts.length < Config.alertRecords <;> simp only [State.raise, State.writeBuf, h, if_true, if_false]

@[simp] theorem State.joinDropWait_raise (r : RoomId) : (s.raise a).joinDropWait r = (s.joinDropWait r).raise a := by
  by_cases h : s.alerts.length < Config.alertRecords <;> simp only [State.raise, State.joinDropWait, h, if_true, if_false]

@[simp] theorem State.room_raise (r : RoomId) : (s.raise a).room r = s.room r := by unfold State.raise; split <;> rfl
@[simp] theorem State.buffer_raise (b : BufId) : (s.raise a).buffer b = s.buffer b := by unfold State.raise; split <;> rfl
@[simp] theorem State.findTake_raise (n : Nat) : (s.raise a).findTake n = s.findTake n := by unfold State.raise; split <;> rfl
@[simp] theorem State.firstFree_raise : (s.raise a).firstFree = s.firstFree := by unfold State.raise; split <;> rfl
@[simp] theorem State.settingsHold_raise : (s.raise a).settingsHold = s.settingsHold := by unfold State.raise; split <;> rfl
@[simp] theorem State.flashOps_raise : (s.raise a).flashOps = s.flashOps := by unfold State.raise; split <;> rfl
@[simp] theorem State.requestNumber_raise : (s.raise a).requestNumber = s.requestNumber := by unfold State.raise; split <;> rfl

@[simp] theorem State.blockBoundary_raise (r : RoomId) : (s.raise a).blockBoundary r = (s.blockBoundary r).raise a := by
  unfold State.blockBoundary
  rw [State.settingsHold_raise]
  split
  · rfl
  · simp

end Raise

/-! ### Changes that a gap report neither reads nor makes -/

/-- A change of the state apart from what a gap report of the room reads and changes. -/
structure GapApart (r : RoomId) (h : State → State) : Prop where
  freeMarks (s : State) : (h s).freeMarks = s.freeMarks
  modTake (s : State) (n : Nat) (f : Take → Take) : (h s).modTake n f = h (s.modTake n f)
  raise (s : State) (a : Alert) : (h s).raise a = h (s.raise a)
  carry (s : State) : ((h s).room r).carry = (s.room r).carry
  take (s : State) : ((h s).room r).take = (s.room r).take
  filledRun (s : State) : ((h s).room r).filledRun = (s.room r).filledRun
  setCarry (s : State) (c : List Mark) : (h s).modRoom r (fun x => { x with carry := c }) = h (s.modRoom r fun x => { x with carry := c })
  countLost (s : State) (n : Nat) : (h s).modRoom r (fun x => { x with lostMarks := satAdd Config.max16 x.lostMarks n }) =
    h (s.modRoom r fun x => { x with lostMarks := satAdd Config.max16 x.lostMarks n })
  endRun (s : State) : (h s).modRoom r (fun x => { x with filledRun := none }) = h (s.modRoom r fun x => { x with filledRun := none })

namespace GapApart

variable {r : RoomId} {h : State → State} (ha : GapApart r h) {s : State}
include ha

theorem loseMarks (take n : Nat) : (h s).loseMarks r take n = h (s.loseMarks r take n) := by
  rw [State.loseMarks, ha.countLost, ha.raise, State.loseMarks]

theorem placeMark (take : Nat) (m : Mark) : (h s).placeMark r take m = h (s.placeMark r take m) := by
  unfold State.placeMark State.addMark
  rw [ha.modTake]
  unfold State.carry
  dsimp only
  rw [ha.carry]
  split
  · rw [ha.setCarry]
  split
  · rw [ha.setCarry, ha.loseMarks]
  split
  · rw [ha.setCarry, ha.loseMarks]
  · rw [ha.loseMarks]

theorem placeGapMarks (take : Nat) (g : GapType) (codes : List Nat) (first : Nat) :
    (h s).placeGapMarks r take g first codes = h (s.placeGapMarks r take g first codes) := by
  induction codes generalizing s first with
  | nil => rfl
  | cons code codes ih =>
    unfold State.placeGapMarks
    dsimp only
    rw [ha.freeMarks]
    split
    · rw [ha.placeMark, ih]
    · rw [ha.loseMarks, ih]

theorem reportGap (take : Nat) (g : GapType) (first n : Nat) :
    (h s).reportGap r take g first n = h (s.reportGap r take g first n) := by
  cases g with
  | filled => rw [State.reportGap, State.reportGap, ha.placeGapMarks, ha.raise]
  | lost =>
    rw [State.reportGap, State.reportGap, ha.modTake, ha.placeGapMarks, ha.raise]

theorem reportFilledRun : (h s).reportFilledRun r = h (s.reportFilledRun r) := by
  unfold State.reportFilledRun
  rw [ha.take, ha.filledRun]
  split
  · rw [ha.endRun, ha.reportGap]
  · rfl

end GapApart

theorem gapApart_setLink (r : RoomId) (l : LinkId) (x : LinkRec) : GapApart r fun s => s.setLink l x where
  freeMarks s := by simp [State.freeMarks]
  modTake s n f := s.modTake_setLink l x n f
  raise s a := s.raise_setLink l x a
  carry s := by simp
  take s := by simp
  filledRun s := by simp
  setCarry s c := by simp
  countLost s n := by simp
  endRun s := by simp

/-- A room with its call replaced. -/
def State.setCall (s : State) (r : RoomId) (c : Option Call) : State := s.setRoom r { s.room r with call := c }

theorem gapApart_setCall (r : RoomId) (c : Option Call) : GapApart r fun s => s.setCall r c where
  freeMarks s := rfl
  modTake s n f := rfl
  raise s a := by simp [State.setCall]
  carry s := by simp [State.setCall]
  take s := by simp [State.setCall]
  filledRun s := by simp [State.setCall]
  setCarry s c := by simp [State.setCall]
  countLost s n := by simp [State.setCall]
  endRun s := by simp [State.setCall]

/-! ### What a gap report changes -/

/-- What a gap report of a room may change: marks and the lost count of takes, marks to carry and marks lost of the room, and the alert
list. -/
structure GapReported (r : RoomId) (s t : State) : Prop where
  shape : ∃ takes rooms alerts overflow next,
    t = { s with takes := takes, rooms := rooms, alerts := alerts, alertOverflow := overflow, nextAlert := next }
  room : ∃ carry lost, t.room r = { s.room r with carry := carry, lostMarks := lost }
  found : ∀ n y, s.findTake n = some y → ∃ marks lost, t.findTake n = some { y with marks := marks, lostBlocks := lost }
  rush : s.rushCount = 0 → t.rushCount = 0

namespace GapReported

variable {r : RoomId} {s t u : State}

theorem refl (s : State) : GapReported r s s :=
  ⟨⟨_, _, _, _, _, rfl⟩, ⟨_, _, rfl⟩, fun _ _ h => ⟨_, _, h⟩, id⟩

theorem trans (h : GapReported r s t) (h' : GapReported r t u) : GapReported r s u := by
  refine ⟨?_, ?_, fun n y hy => ?_, fun hs => h'.rush (h.rush hs)⟩
  · obtain ⟨_, _, _, _, _, rfl⟩ := h.shape
    exact h'.shape
  · obtain ⟨_, _, e⟩ := h.room
    obtain ⟨_, _, e'⟩ := h'.room
    exact ⟨_, _, by rw [e', e]⟩
  · obtain ⟨_, _, e⟩ := h.found n y hy
    obtain ⟨marks, lost, e'⟩ := h'.found n _ e
    exact ⟨marks, lost, e'⟩

theorem raise (h : GapReported r s t) (a : Alert) : GapReported r s (t.raise a) := by
  refine h.trans ⟨?_, ⟨_, _, by rw [State.room_raise]⟩, fun n y hy => ⟨_, _, by rw [State.findTake_raise, hy]⟩, fun hs => ?_⟩
  · unfold State.raise
    split <;> exact ⟨_, _, _, _, _, rfl⟩
  · rwa [State.rushCount_congr (State.takes_raise t a)]

theorem modRoom (h : GapReported r s t) (carry : List Mark) (lost : Nat) :
    GapReported r s (t.setRoom r { t.room r with carry := carry, lostMarks := lost }) :=
  h.trans ⟨⟨_, _, _, _, _, rfl⟩, ⟨_, _, t.room_setRoom_same ..⟩, fun _ _ h => ⟨_, _, h⟩, id⟩

theorem modTake (h : GapReported r s t) (n : Nat) {f : Take → Take}
    (hf : ∀ y, ∃ marks lost, f y = { y with marks := marks, lostBlocks := lost }) : GapReported r s (t.modTake n f) := by
  have hid : ∀ y, (f y).id = y.id := by
    intro y
    obtain ⟨_, _, e⟩ := hf y
    rw [e]
  refine h.trans ⟨⟨_, _, _, _, _, rfl⟩, ⟨_, _, rfl⟩, fun m y hy => ?_, State.rushCount_modTake fun y => ?_⟩
  · by_cases hm : m = n
    · obtain ⟨marks, lost, e⟩ := hf y
      exact ⟨marks, lost, by rw [hm, State.findTake_modTake_same _ _ hid, ← hm, hy, Option.map_some, e]⟩
    · exact ⟨_, _, by rw [State.findTake_modTake_ne _ hm hid, hy]⟩
  · obtain ⟨marks, lost, e⟩ := hf y
    rw [e]
    exact ⟨id, fun g hg hw => ⟨g, hg, hw⟩⟩

theorem loseMarks (h : GapReported r s t) (take n : Nat) : GapReported r s (t.loseMarks r take n) :=
  (h.modRoom ..).raise _

theorem placeMark (h : GapReported r s t) (take : Nat) (m : Mark) : GapReported r s (t.placeMark r take m) := by
  have hadd : GapReported r s (t.addMark take m) := h.modTake take fun y => ⟨_, _, rfl⟩
  unfold State.placeMark State.carry
  dsimp only
  split
  · exact hadd.modRoom ..
  split
  · exact (hadd.modRoom ..).loseMarks ..
  split
  · exact (hadd.modRoom ..).loseMarks ..
  · exact hadd.loseMarks ..

theorem placeGapMarks (h : GapReported r s t) (take : Nat) (g : GapType) (codes : List Nat) (first : Nat) :
    GapReported r s (t.placeGapMarks r take g first codes) := by
  induction codes generalizing t first with
  | nil => exact h
  | cons code codes ih =>
    unfold State.placeGapMarks
    dsimp only
    split
    · exact ih (h.placeMark ..) _
    · exact ih (h.loseMarks ..) _

theorem reportGap (h : GapReported r s t) (take : Nat) (g : GapType) (first n : Nat) :
    GapReported r s (t.reportGap r take g first n) := by
  cases g with
  | filled => exact (h.placeGapMarks ..).raise _
  | lost => exact ((h.modTake take fun y => ⟨_, _, rfl⟩).placeGapMarks ..).raise _

end GapReported

@[simp] theorem State.setRoom_room (s : State) (r : RoomId) : s.setRoom r (s.room r) = s := by
  simp [State.setRoom, State.room]

/-- A room with no filled run. -/
def State.runEnded (s : State) (r : RoomId) : State := s.setRoom r { s.room r with filledRun := none }

theorem State.reportFilledRun_reported {s : State} {r : RoomId} {id : Nat} (htake : (s.room r).take = some id) :
    GapReported r (s.runEnded r) (s.reportFilledRun r) := by
  cases hrun : (s.room r).filledRun with
  | none =>
    have h : s.runEnded r = s := by
      rw [State.runEnded, ← hrun]
      exact s.setRoom_room r
    rw [h, State.reportFilledRun_of_none hrun]
    exact .refl s
  | some run =>
    rw [State.reportFilledRun, htake, hrun]
    exact (GapReported.refl _).reportGap ..

end Sys2Proof.Machine
end

section
/-! A block of a recording room, up to where it is stored or dropped (R34, R35, R40). -/

namespace Sys2Proof.Machine

/-! ### The filled run reported and the unit granted, whatever the link and the call -/

section Apart

variable (s : State) (r : RoomId)

@[simp] theorem State.link_reportFilledRun (l : LinkId) : (s.reportFilledRun r).link l = s.link l := by
  have h := (gapApart_setLink r l (s.link l)).reportFilledRun (s := s)
  rw [State.setLink_link] at h
  rw [h, State.link_setLink_same]

@[simp] theorem State.reportFilledRun_taken (l : LinkId) (kind : Nat) (tag : Byte) :
    (s.taken l kind tag).reportFilledRun r = (s.reportFilledRun r).taken l kind tag := by
  rw [State.taken, (gapApart_setLink r l _).reportFilledRun, State.taken, State.link_reportFilledRun]

@[simp] theorem State.reportFilledRun_setCall (c : Option Call) :
    (s.setCall r c).reportFilledRun r = (s.reportFilledRun r).setCall r c :=
  (gapApart_setCall r c).reportFilledRun

end Apart

/-! ### Units granted (R138, R139) -/

section Grant

variable {s : State} {take chain tp n need : Nat} {rest : List Nat} {role : Role}

/-- The state with a FREE unit granted, before STORE_LOW. -/
def State.unitGranted (s : State) (take chain : Nat) (role : Role) (n : Nat) (rest : List Nat) : State :=
  { s.modUnit n fun y =>
      { y with
        state := .opened
        owner := some take
        chain := some chain
        role := some role
        writeSeq := some s.writeSeq
        nextPage := 0
        finalPage := none
        refreshWanted := false
        inFlight := 0 } with
    freeList := rest
    writeSeq := s.writeSeq + 1 }

/-- The state with a FREE unit granted, STORE_LOW raised as the free count comes down to the low-water mark. -/
def State.unitGrantedLow (s : State) (take chain : Nat) (role : Role) (n : Nat) (rest : List Nat) : State :=
  if rest.length = s.lowWater then (s.unitGranted take chain role n rest).raise (.storeLow rest.length s.lowWater)
  else s.unitGranted take chain role n rest

theorem State.grantUnit_some (hlist : s.freeList = n :: rest) (hseq : s.writeSeq < 4294967295) (hneed : need ≤ rest.length + 1) :
    s.grantUnit need take chain role = some (n, s.unitGrantedLow take chain role n rest) := by
  have hlow : (s.lowWater < rest.length + 1 ∧ rest.length ≤ s.lowWater) = (rest.length = s.lowWater) := by
    rw [eq_iff_iff]
    omega
  rw [State.grantUnit, hlist]
  simp only [List.length_cons, Config.max32, hneed, hseq, and_self, if_true, hlow]
  rfl

theorem State.grantUnit_none (h : s.freeList = [] ∨ s.freeList.length < need ∨ 4294967295 ≤ s.writeSeq) :
    s.grantUnit need take chain role = none := by
  unfold State.grantUnit
  split
  · rfl
  · rename_i hlist
    refine if_neg fun ⟨hneed, hseq⟩ => ?_
    rw [Config.max32] at hseq
    obtain h | h | h := h
    · rw [hlist] at h
      cases h
    · omega
    · omega

theorem State.grantUnit_cases (s : State) (need take chain : Nat) (role : Role) :
    (s.freeList = [] ∨ s.freeList.length < need ∨ 4294967295 ≤ s.writeSeq) ∧ s.grantUnit need take chain role = none ∨
      ∃ n rest, s.freeList = n :: rest ∧ s.writeSeq < 4294967295 ∧ need ≤ rest.length + 1 ∧
        s.grantUnit need take chain role = some (n, s.unitGrantedLow take chain role n rest) := by
  by_cases hshort : s.freeList = [] ∨ s.freeList.length < need ∨ 4294967295 ≤ s.writeSeq
  · exact .inl ⟨hshort, State.grantUnit_none hshort⟩
  obtain ⟨hnil, hrest⟩ := not_or.mp hshort
  obtain ⟨hneed, hseq⟩ := not_or.mp hrest
  obtain ⟨n, rest, hlist⟩ := List.exists_cons_of_ne_nil hnil
  rw [hlist, List.length_cons] at hneed
  exact .inr ⟨n, rest, hlist, by omega, by omega, State.grantUnit_some hlist (by omega) (by omega)⟩

theorem State.ensureUnit_held (h : s.chainUnit take (chainIndex tp) ≠ none) : s.ensureUnit take tp = (true, s) :=
  if_pos (Option.isSome_iff_ne_none.mpr h)

theorem State.ensureUnit_granted (hchain : s.chainUnit take (chainIndex tp) = none) (hlist : s.freeList = n :: rest)
    (hseq : s.writeSeq < 4294967295) (hlen : 2 ≤ rest.length) :
    s.ensureUnit take tp = (true, s.unitGrantedLow take (chainIndex tp) .chain n rest) := by
  rw [State.ensureUnit, hchain, State.grantUnit_some hlist hseq (by simpa [captureNeed, Config.captureReserve] using hlen)]
  rfl

theorem State.ensureUnit_short (hchain : s.chainUnit take (chainIndex tp) = none) (hlen : s.freeList.length ≤ 2) :
    s.ensureUnit take tp = (false, s) := by
  rw [State.ensureUnit, hchain, State.grantUnit_none (.inr (.inl (by simp only [captureNeed, Config.captureReserve]; omega)))]
  rfl

/-- A chain index that holds a unit or is granted one. -/
theorem State.ensureUnit_fst (h : s.chainUnit take (chainIndex tp) ≠ none ∨ 2 < s.freeList.length ∧ s.writeSeq < 4294967295) :
    (s.ensureUnit take tp).1 = true := by
  by_cases hchain : s.chainUnit take (chainIndex tp) = none
  · obtain ⟨hlen, hseq⟩ := h.resolve_left (absurd hchain)
    obtain ⟨n, rest, hlist⟩ := List.exists_cons_of_length_pos (show 0 < s.freeList.length by omega)
    rw [hlist, List.length_cons] at hlen
    rw [State.ensureUnit_granted hchain hlist hseq (by omega)]
  · rw [State.ensureUnit_held hchain]

end Grant

/-! ### Changes apart from the unit table -/

/-- A change of the state apart from the unit table and its lists. -/
structure UnitApart (h : State → State) : Prop where
  units (s : State) : (h s).units = s.units
  freeList (s : State) : (h s).freeList = s.freeList
  writeSeq (s : State) : (h s).writeSeq = s.writeSeq
  lowWater (s : State) : (h s).lowWater = s.lowWater
  raise (s : State) (a : Alert) : (h s).raise a = h (s.raise a)
  grant (s : State) (take chain : Nat) (role : Role) (n : Nat) (rest : List Nat) :
    (h s).unitGranted take chain role n rest = h (s.unitGranted take chain role n rest)

theorem UnitApart.grantUnit {h : State → State} (ha : UnitApart h) (s : State) (need take chain : Nat) (role : Role) :
    (h s).grantUnit need take chain role = (s.grantUnit need take chain role).map fun p => (p.1, h p.2) := by
  have hlow : ∀ n rest, (h s).unitGrantedLow take chain role n rest = h (s.unitGrantedLow take chain role n rest) := by
    intro n rest
    unfold State.unitGrantedLow
    rw [ha.lowWater, ha.grant]
    split
    · rw [ha.raise]
    · rfl
  obtain ⟨hshort, e⟩ | ⟨n, rest, hlist, hseq, hneed, e⟩ := s.grantUnit_cases need take chain role
  · rw [e, State.grantUnit_none (by rw [ha.freeList, ha.writeSeq]; exact hshort)]
    rfl
  · rw [e, State.grantUnit_some (by rw [ha.freeList, hlist]) (by rw [ha.writeSeq]; exact hseq) hneed, hlow]
    rfl

theorem UnitApart.ensureUnit {h : State → State} (ha : UnitApart h) (s : State) (take tp : Nat) :
    (h s).ensureUnit take tp = ((s.ensureUnit take tp).1, h (s.ensureUnit take tp).2) := by
  have hchain : (h s).chainUnit take (chainIndex tp) = s.chainUnit take (chainIndex tp) := by
    simp only [State.chainUnit, ha.units]
  unfold State.ensureUnit
  rw [hchain, ha.grantUnit]
  split
  · rfl
  · cases s.grantUnit captureNeed take (chainIndex tp) .chain <;> rfl

theorem unitApart_setLink (l : LinkId) (x : LinkRec) : UnitApart fun s => s.setLink l x where
  units s := by simp
  freeList s := by simp
  writeSeq s := by simp
  lowWater s := by simp
  raise s a := s.raise_setLink l x a
  grant s take chain role n rest := by cases l <;> rfl

theorem unitApart_setCall (r : RoomId) (c : Option Call) : UnitApart fun s => s.setCall r c where
  units s := rfl
  freeList s := rfl
  writeSeq s := rfl
  lowWater s := rfl
  raise s a := by simp [State.setCall]
  grant s take chain role n rest := rfl

/-- What a grant leaves alone. -/
theorem State.ensureUnit_eq (s : State) (take tp : Nat) : ∃ units free seq alerts overflow next,
    (s.ensureUnit take tp).2 = { s with
      units := units
      freeList := free
      writeSeq := seq
      alerts := alerts
      alertOverflow := overflow
      nextAlert := next } := by
  unfold State.ensureUnit
  split
  · exact ⟨_, _, _, _, _, _, rfl⟩
  · obtain ⟨-, e⟩ | ⟨n, rest, -, -, -, e⟩ := s.grantUnit_cases captureNeed take (chainIndex tp) .chain
    · rw [e]
      exact ⟨_, _, _, _, _, _, rfl⟩
    · rw [e]
      dsimp only
      unfold State.unitGrantedLow
      split
      · unfold State.raise
        split <;> exact ⟨_, _, _, _, _, _, rfl⟩
      · exact ⟨_, _, _, _, _, _, rfl⟩

@[simp] theorem State.link_ensureUnit (s : State) (take tp : Nat) (l : LinkId) : (s.ensureUnit take tp).2.link l = s.link l := by
  obtain ⟨_, _, _, _, _, _, e⟩ := s.ensureUnit_eq take tp
  rw [e]
  cases l <;> rfl

end Sys2Proof.Machine
end

section
/-! BLOCK up to where the block is stored or dropped (R34, R35, R40, R47). -/

namespace Sys2Proof.Machine

/-! ### Block boundaries -/

section Boundary

variable (s : State) (r : RoomId)

@[simp] theorem State.takes_blockBoundary : (s.blockBoundary r).takes = s.takes := by unfold State.blockBoundary; split <;> rfl
@[simp] theorem State.findTake_blockBoundary (n : Nat) : (s.blockBoundary r).findTake n = s.findTake n := by
  unfold State.blockBoundary; split <;> rfl
@[simp] theorem State.link_blockBoundary (l : LinkId) : (s.blockBoundary r).link l = s.link l := by
  unfold State.blockBoundary
  split
  · rfl
  · cases l <;> rfl

@[simp] theorem State.blockBoundary_taken (l : LinkId) (kind : Nat) (tag : Byte) :
    (s.taken l kind tag).blockBoundary r = (s.blockBoundary r).taken l kind tag := by
  have hhold : (s.taken l kind tag).settingsHold = s.settingsHold := by simp [State.taken]
  unfold State.blockBoundary
  rw [hhold]
  split
  · rfl
  · simp

theorem State.room_blockBoundary : (s.blockBoundary r).room r = { s.room r with
    active := ((s.blockBoundary r).room r).active
    staged := ((s.blockBoundary r).room r).staged } := by
  unfold State.blockBoundary
  split
  · rfl
  · simp [Room.applyStaged]

end Boundary

@[simp] theorem State.setCall_call (s : State) (r : RoomId) : s.setCall r (s.room r).call = s := s.setRoom_room r

@[simp] theorem State.takes_setCall (s : State) (r : RoomId) (c : Option Call) : (s.setCall r c).takes = s.takes := rfl
@[simp] theorem State.findTake_setCall (s : State) (r : RoomId) (c : Option Call) (n : Nat) :
    (s.setCall r c).findTake n = s.findTake n := rfl
@[simp] theorem State.room_setCall (s : State) (r : RoomId) (c : Option Call) :
    (s.setCall r c).room r = { s.room r with call := c } := by simp [State.setCall]

/-- A room last in the list of rooms that wait for a unit (R46). -/
def State.joinUnitWait (s : State) (w : UnitWait) : State := { s with unitWait := s.unitWait ++ [w] }

section UnitWait

variable (s : State) (w : UnitWait) (r : RoomId)

@[simp] theorem State.room_joinUnitWait : (s.joinUnitWait w).room r = s.room r := rfl
@[simp] theorem State.takes_joinUnitWait : (s.joinUnitWait w).takes = s.takes := rfl
@[simp] theorem State.findTake_joinUnitWait (n : Nat) : (s.joinUnitWait w).findTake n = s.findTake n := rfl
@[simp] theorem State.link_joinUnitWait (l : LinkId) : (s.joinUnitWait w).link l = s.link l := by cases l <;> rfl
@[simp] theorem State.setRoom_joinUnitWait (x : Room) : (s.joinUnitWait w).setRoom r x = (s.setRoom r x).joinUnitWait w := rfl
@[simp] theorem State.joinUnitWait_taken (l : LinkId) (kind : Nat) (tag : Byte) :
    (s.taken l kind tag).joinUnitWait w = (s.joinUnitWait w).taken l kind tag := by cases l <;> rfl

end UnitWait

/-- The call of a room whose block has come. -/
def Room.closedCall (x : Room) (n : Nat) : Option Call := if x.active.timing = .paced then some ⟨n, false⟩ else x.call

section Block

variable {r : RoomId} {tag : Byte} {body bytes : List Byte} {n : Nat} {s : State}

/-- A block that a recording room pushes, or that answers its open call. -/
theorem execBlock_comes (hserve : s.canServe (.room r)) (hparse : parseBlock (s.room r).active.channels body = some (n, bytes))
    (hstate : (s.room r).state = .recording) (hcall : (s.room r).active.timing = .pushed ∨ (s.room r).call = some ⟨n, true⟩) :
    exec (.block r tag body) s = .next (State.settle s
      (((s.setCall r ((s.room r).closedCall n)).taken (.room r) 0x11 tag).takeBlock r bytes)) := by
  obtain ⟨htake, hready⟩ := hserve
  simp only [exec, execBlock]
  rw [State.request_served htake rfl (by rw [hready]; rfl)]
  simp only [serveBlock, State.room_taken, hparse, hstate, ne_eq, not_true_eq_false, if_false, Room.closedCall]
  cases htiming : (s.room r).active.timing with
  | pushed => simp
  | paced =>
    have hopen := hcall.resolve_left (by simp [htiming])
    simp [hopen, State.setCall, hstate]

/-- A block of a room in DROPPING is counted (R47). -/
theorem State.takeBlock_dropping {c : DropCause} (hdropping : (s.room r).dropping = some c) :
    s.takeBlock r bytes = ((s.setRoom r { s.room r with dropped := min ((s.room r).dropped + 1) 4294967295 }).blockBoundary r).answer
      (.room r) .waitStore {} (toLE 1 c.code ++ toLE 4 (min ((s.room r).dropped + 1) 4294967295)) := by
  have hroom := State.room_blockBoundary (s.setRoom r { s.room r with dropped := min ((s.room r).dropped + 1) 4294967295 }) r
  rw [State.room_setRoom_same] at hroom
  unfold State.takeBlock
  dsimp only
  rw [hdropping]
  dsimp only
  unfold State.answerDropped State.dropBlock
  dsimp only [State.modRoom_eq, satAdd, Config.max32]
  rw [hroom]
  simp [hdropping]

/-- The room's wait for the unit of a take's next chain index. -/
def unitWaitOf (r : RoomId) (t : Take) : UnitWait := ⟨r, t.id, chainIndex (takePage t.channels t.length)⟩

theorem State.unitForBlock_short {t : Take} (hopens : opensChain t (s.room r).slot = true)
    (hchain : s.chainUnit t.id (chainIndex (takePage t.channels t.length)) = none) (hlen : s.freeList.length ≤ 2) :
    s.unitForBlock r t = (false, s) := by
  rw [State.unitForBlock, if_pos hopens, State.ensureUnit_short hchain hlen]

/-- A block that finds no unit for the chain index it opens is the first of a room in DROPPING (R46). -/
theorem State.storeBlock_noUnit {t : Take} {b : BufId} (hrun : (s.room r).filledRun = none) (hopens : opensChain t (s.room r).slot = true)
    (hchain : s.chainUnit t.id (chainIndex (takePage t.channels t.length)) = none) (hlen : s.freeList.length ≤ 2) :
    s.storeBlock r t b bytes =
      (((s.setRoom r { s.room r with dropping := some .noUnit, dropped := 1 }).joinUnitWait (unitWaitOf r t)).blockBoundary r).answer
        (.room r) .waitStore {} (toLE 1 1 ++ toLE 4 1) := by
  have hroom := State.room_blockBoundary
    ((s.setRoom r { s.room r with dropping := some .noUnit, dropped := 1 }).joinUnitWait (unitWaitOf r t)) r
  rw [State.room_joinUnitWait, State.room_setRoom_same] at hroom
  have hdrop : s.dropForUnit r t =
      ((s.setRoom r { s.room r with dropping := some .noUnit, dropped := 1 }).joinUnitWait (unitWaitOf r t)).blockBoundary r := by
    rw [State.dropForUnit, State.enterDropping, State.reportFilledRun_of_none hrun]
    rfl
  rw [State.storeBlock, State.reportFilledRun_of_none hrun, State.unitForBlock_short hopens hchain hlen]
  dsimp only
  rw [hdrop, State.answerDropped, hroom]
  rfl

end Block

/-- Settles O50: the body's length, the room's state, its call, DROPPING and the unit are tested in this order. -/
theorem blockIsNotStored : Obligations.BlockIsNotStored := by
  refine fun r tag body s hserve => ⟨fun hlen => ?badArg, fun n bytes hparse => ⟨fun hstate => ?discarded,
    fun hstate htiming hcall => ?late, fun c hstate hcall hdropping => ?dropping,
    fun id t b hstate hcall hdropping htake hfind hfilling hrun hopens hchain hlen => ?noUnit⟩⟩
  case badArg =>
    obtain ⟨htake, hready⟩ := hserve
    have hparse : parseBlock (s.room r).active.channels body = none := if_neg hlen
    simp only [exec, execBlock]
    rw [State.request_served htake rfl (by rw [hready]; rfl)]
    simp [serveBlock, hparse]
  case discarded =>
    obtain ⟨htake, hready⟩ := hserve
    simp only [exec, execBlock]
    rw [State.request_served htake rfl (by rw [hready]; rfl)]
    simp [serveBlock, hparse, hstate, satAdd, Config.max16]
  case late =>
    obtain ⟨htake, hready⟩ := hserve
    simp only [exec, execBlock]
    rw [State.request_served htake rfl (by rw [hready]; rfl)]
    simp [serveBlock, hparse, hstate, htiming, hcall, satAdd, Config.max16]
  case dropping =>
    rw [execBlock_comes hserve hparse hstate hcall, State.takeBlock_dropping (c := c) (by simpa [State.setCall] using hdropping),
      State.settle_same]
    · simp [State.setCall, Room.closedCall]
    · simp
  case noUnit =>
    have hid := State.findTake_id hfind
    rw [execBlock_comes hserve hparse hstate hcall]
    have hstore : ((s.setCall r ((s.room r).closedCall n)).taken (.room r) 0x11 tag).takeBlock r bytes =
        ((s.setCall r ((s.room r).closedCall n)).taken (.room r) 0x11 tag).storeBlock r t b bytes := by
      simp [State.takeBlock, hdropping, htake, hfind, hfilling]
    rw [hstore, State.storeBlock_noUnit (by simpa using hrun) (by simpa using hopens)
      ((State.chainUnit_congr (t := s) (by simp [State.setCall, State.taken]) _ _).trans hchain)
      (by simpa [State.taken, State.setCall] using hlen),
      State.settle_same (by simp)]
    simp [State.setCall, Room.closedCall, unitWaitOf, hid]
    rfl

end Sys2Proof.Machine
end

section
/-! A stored block: its samples, its clip flag, the take's length and the slot (R35 to R37). -/

namespace Sys2Proof.Machine

/-- A take that is one block longer. -/
def Take.longer (t : Take) : Take := { t with length := t.length + 1 }

/-- The growing segment is short of a cut at the take's length (R10). -/
def Take.short (t : Take) (a : RoomSettings) : Prop :=
  ∀ g, t.length < 16777215 → t.growing = some g → t.length - g.first < secToBlocks a.target + secToBlocks a.extension

section Stored

variable {s : State} {r : RoomId} {id : Nat} {t : Take} {b : BufId}

theorem State.lengthCut_short (hfind : s.findTake id = some t) (hshort : t.short (s.room r).active) : s.lengthCut r id = s := by
  unfold State.lengthCut
  rw [hfind]
  dsimp only
  split
  · rfl
  · rename_i g hgrow
    refine if_neg fun ⟨hlong, hlen⟩ => ?_
    have := hshort g hlen hgrow
    rw [growingLength] at hlong
    omega

theorem State.findTake_longer (hfind : s.findTake id = some t) : (s.modTake id Take.longer).findTake id = some t.longer := by
  rw [State.findTake_modTake_same (f := Take.longer) _ _ fun _ => rfl, hfind]
  rfl

/-- The end of a stored block that leaves its page open and makes no cut. -/
theorem State.endStoredBlock_open (hfind : s.findTake id = some t) (hslot : (s.room r).slot + 1 ≠ t.channels.bpp)
    (hshort : t.longer.short (s.room r).active) :
    s.endStoredBlock r id b =
      ((s.modTake id Take.longer).setRoom r { s.room r with slot := (s.room r).slot + 1 }).blockBoundary r := by
  have hcut := State.lengthCut_short (s := s.modTake id Take.longer) (r := r) (State.findTake_longer hfind) hshort
  unfold State.endStoredBlock
  rw [hfind]
  dsimp only
  rw [show (s.modTake id fun t => { t with length := t.length + 1 }) = s.modTake id Take.longer from rfl, hcut]
  exact congrArg (fun u : State => u.blockBoundary r) (if_neg hslot)

/-- The clip flag after a block with saturated samples, and CLIP where the flag was clear (R37). -/
theorem State.noteClip_eq (take block n : Nat) :
    s.noteClip r take block n =
      if n ≠ 0 ∧ (s.room r).clip = false ∧ (s.room r).active.clipAlert = true then
        (s.setRoom r { s.room r with clip := (s.room r).clip || n != 0 }).raise (.clip r take block)
      else s.setRoom r { s.room r with clip := (s.room r).clip || n != 0 } := by
  unfold State.noteClip
  by_cases hn : n = 0
  · simp only [hn, if_true, ne_eq, not_true_eq_false, false_and, if_false, bne_self_eq_false, Bool.or_false]
    exact (s.setRoom_room r).symm
  · have hset : ((s.room r).clip || n != 0) = true := by simp [hn]
    have hdue : (n ≠ 0 ∧ (s.room r).clip = false ∧ (s.room r).active.clipAlert = true) =
        ((!(s.room r).clip && (s.room r).active.clipAlert) = true) := by simp [hn]
    simp only [hset, hdue, hn, if_false]

theorem State.limitStop_eq (hfind : s.findTake id = some t) :
    s.limitStop r id = if t.length = 16777215 then s.stopRoom r .idle else s := by
  rw [State.limitStop, hfind]
  rfl

end Stored

/-! ### The room's update stands outermost -/

section Outermost

variable (s : State) (r : RoomId) (x : Room)

@[simp] theorem State.writeBuf_setRoom (b : BufId) (o : Nat) (bs : List Byte) :
    (s.setRoom r x).writeBuf b o bs = (s.writeBuf b o bs).setRoom r x := rfl
@[simp] theorem State.modTake_setRoom (n : Nat) (f : Take → Take) :
    (s.setRoom r x).modTake n f = (s.modTake n f).setRoom r x := rfl

end Outermost

/-! ### The unit of a block that opens a chain index (R33, R138) -/

section Unit

variable {s : State} {r : RoomId} {t : Take}

/-- The state after the unit for a block has been asked for. -/
def State.unitAsked (s : State) (r : RoomId) (t : Take) : State :=
  if opensChain t (s.room r).slot then (s.ensureUnit t.id (takePage t.channels t.length)).2 else s

theorem State.unitForBlock_eq (h : opensChain t (s.room r).slot = true →
      s.chainUnit t.id (chainIndex (takePage t.channels t.length)) ≠ none ∨ 2 < s.freeList.length ∧ s.writeSeq < 4294967295) :
    s.unitForBlock r t = (true, s.unitAsked r t) := by
  unfold State.unitForBlock State.unitAsked
  split
  · rename_i hopens
    rw [← State.ensureUnit_fst (h hopens)]
  · rfl

theorem State.unitForBlock_comes (c : Option Call) (kind : Nat) (tag : Byte) :
    ((s.setCall r c).taken (.room r) kind tag).unitForBlock r t =
      ((s.unitForBlock r t).1, ((s.unitForBlock r t).2.setCall r c).taken (.room r) kind tag) := by
  have hask : ∀ tp, ((s.setCall r c).taken (.room r) kind tag).ensureUnit t.id tp =
      ((s.ensureUnit t.id tp).1, ((s.ensureUnit t.id tp).2.setCall r c).taken (.room r) kind tag) := by
    intro tp
    rw [State.taken, (unitApart_setLink _ _).ensureUnit, (unitApart_setCall r c).ensureUnit, State.taken]
    have hlink : ∀ u : State, (u.setCall r c).link (.room r) = u.link (.room r) := fun _ => rfl
    rw [hlink, hlink, State.link_ensureUnit]
  unfold State.unitForBlock
  simp only [State.room_taken, State.room_setCall]
  split
  · exact hask _
  · rfl

theorem State.unitAsked_eq (s : State) (r : RoomId) (t : Take) : ∃ units free seq alerts overflow next,
    s.unitAsked r t = { s with
      units := units
      freeList := free
      writeSeq := seq
      alerts := alerts
      alertOverflow := overflow
      nextAlert := next } := by
  unfold State.unitAsked
  split
  · exact s.ensureUnit_eq ..
  · exact ⟨_, _, _, _, _, _, rfl⟩

@[simp] theorem State.room_unitAsked (q : RoomId) : (s.unitAsked r t).room q = s.room q := by
  obtain ⟨_, _, _, _, _, _, e⟩ := s.unitAsked_eq r t
  rw [e]
  rfl

@[simp] theorem State.takes_unitAsked : (s.unitAsked r t).takes = s.takes := by
  obtain ⟨_, _, _, _, _, _, e⟩ := s.unitAsked_eq r t
  rw [e]

@[simp] theorem State.findTake_unitAsked (n : Nat) : (s.unitAsked r t).findTake n = s.findTake n := by
  simp [State.findTake]

end Unit

/-! ### A block written into the FILLING buffer -/

/-- The state in which a block's samples stand in the FILLING buffer and its clips are noted, the filled run before it reported, its
unit granted and its call closed (steps 1 to 4 of R35). -/
def State.blockWritten (s : State) (r : RoomId) (n : Nat) (t : Take) (b : BufId) (bytes : List Byte) : State :=
  let out := captureBytes (s.room r).active t.channels.count 0 bytes
  ((((s.reportFilledRun r).unitAsked r t).setCall r ((s.room r).closedCall n)).writeBuf b
    ((s.room r).slot * t.channels.count * 512) out.1).noteClip r t.id t.length out.2

section Written

variable {s : State} {r : RoomId} {tag : Byte} {body bytes : List Byte} {n id : Nat} {t : Take} {b : BufId}

@[simp] theorem State.noteClip_taken (l : LinkId) (kind : Nat) (take block m : Nat) :
    (s.taken l kind tag).noteClip r take block m = (s.noteClip r take block m).taken l kind tag := by
  simp only [State.noteClip_eq, State.room_taken]
  split <;> simp

@[simp] theorem State.writeBuf_taken (l : LinkId) (kind : Nat) (o : Nat) (bs : List Byte) :
    (s.taken l kind tag).writeBuf b o bs = (s.writeBuf b o bs).taken l kind tag := by cases l <;> rfl

@[simp] theorem State.room_noteClip (take block m : Nat) :
    (s.noteClip r take block m).room r = { s.room r with clip := (s.room r).clip || m != 0 } := by
  rw [State.noteClip_eq]
  split <;> simp

@[simp] theorem State.takes_noteClip (take block m : Nat) : (s.noteClip r take block m).takes = s.takes := by
  rw [State.noteClip_eq]
  split <;> simp

/-- The room after a block is written. -/
theorem State.room_blockWritten (htake : (s.room r).take = some id) : (s.blockWritten r n t b bytes).room r =
    { (s.reportFilledRun r).room r with
      call := (s.room r).closedCall n
      clip := (s.room r).clip || (captureBytes (s.room r).active t.channels.count 0 bytes).2 != 0 } := by
  obtain ⟨-, ⟨carry, lost, hroom⟩, -, -⟩ := State.reportFilledRun_reported htake
  have hclip : ((s.reportFilledRun r).room r).clip = (s.room r).clip := by rw [hroom]; simp [State.runEnded]
  simp [State.blockWritten, hclip]

theorem State.takes_blockWritten : (s.blockWritten r n t b bytes).takes = (s.reportFilledRun r).takes := by
  simp [State.blockWritten]

/-- A block that a recording room stores, up to the end of the block. -/
theorem execBlock_written (hserve : s.canServe (.room r)) (hparse : parseBlock (s.room r).active.channels body = some (n, bytes))
    (hstate : (s.room r).state = .recording) (hcall : (s.room r).active.timing = .pushed ∨ (s.room r).call = some ⟨n, true⟩)
    (hdropping : (s.room r).dropping = none) (htake : (s.room r).take = some id) (hfind : s.findTake id = some t)
    (hfilling : (s.room r).filling = some b)
    (hunit : opensChain t (s.room r).slot = true →
      s.chainUnit t.id (chainIndex (takePage t.channels t.length)) ≠ none ∨ 2 < s.freeList.length ∧ s.writeSeq < 4294967295) :
    exec (.block r tag body) s = .next (State.settle s
      (((((s.blockWritten r n t b bytes).taken (.room r) 0x11 tag).endStoredBlock r t.id b).answer (.room r) .ok {}
        (toLE 4 t.length ++ toLE 2 (captureBytes (s.room r).active t.channels.count 0 bytes).2)).limitStop r t.id)) := by
  obtain ⟨⟨_, _, _, _, _, hshape⟩, ⟨carry, lost, hroom⟩, -, -⟩ := State.reportFilledRun_reported htake
  rw [State.runEnded, State.room_setRoom_same] at hroom
  have hstore : ((s.setCall r ((s.room r).closedCall n)).taken (.room r) 0x11 tag).takeBlock r bytes =
      ((s.setCall r ((s.room r).closedCall n)).taken (.room r) 0x11 tag).storeBlock r t b bytes := by
    simp [State.takeBlock, hdropping, htake, hfind, hfilling]
  have hgranted : (s.reportFilledRun r).unitForBlock r t = (true, (s.reportFilledRun r).unitAsked r t) := by
    refine State.unitForBlock_eq fun hopens => ?_
    rw [hroom] at hopens
    rw [hshape]
    exact hunit hopens
  rw [execBlock_comes hserve hparse hstate hcall, hstore, State.storeBlock, State.reportFilledRun_taken, State.reportFilledRun_setCall,
    State.unitForBlock_comes, hgranted]
  simp only [State.room_taken, State.room_setCall, State.room_unitAsked, State.writeBuf_taken, State.noteClip_taken, hroom]
  rfl

end Written

/-- The end of a block that is stored with its page left open and no cut made. -/
theorem State.blockWritten_open {s : State} {r : RoomId} {n id : Nat} {t : Take} {b : BufId} {bytes : List Byte}
    (htake : (s.room r).take = some id) (hid : t.id = id) :
    (((s.blockWritten r n t b bytes).modTake id Take.longer).setRoom r
        { (s.blockWritten r n t b bytes).room r with slot := (s.room r).slot + 1 }).blockBoundary r =
      let out := captureBytes (s.room r).active t.channels.count 0 bytes
      let v := (((((s.reportFilledRun r).unitAsked r t).writeBuf b ((s.room r).slot * t.channels.count * 512) out.1).modTake id
        Take.longer).setRoom r
        { (s.reportFilledRun r).room r with
          call := (s.room r).closedCall n
          clip := (s.room r).clip || out.2 != 0
          slot := (s.room r).slot + 1 }).blockBoundary r
      if out.2 ≠ 0 ∧ (s.room r).clip = false ∧ (s.room r).active.clipAlert = true then v.raise (.clip r id t.length) else v := by
  obtain ⟨-, ⟨carry, lost, hroom⟩, -, -⟩ := State.reportFilledRun_reported htake
  rw [State.runEnded, State.room_setRoom_same] at hroom
  rw [State.room_blockWritten htake, State.blockWritten]
  dsimp only
  rw [State.noteClip_eq]
  simp only [State.room_writeBuf, State.room_setCall, State.room_unitAsked]
  rw [hroom]
  split <;> simp [State.setCall, hid]

section Ends

variable {s : State} {r : RoomId} {n id : Nat} {t : Take} {b : BufId} {bytes : List Byte}

/-- The take as it is found after a block is written: marks and lost count apart, it is as before. -/
theorem State.findTake_blockWritten (htake : (s.room r).take = some id) (hfind : s.findTake id = some t) :
    ∃ marks lost, (s.blockWritten r n t b bytes).findTake id = some { t with marks := marks, lostBlocks := lost } := by
  obtain ⟨marks, lost, e⟩ := (State.reportFilledRun_reported htake).found id t hfind
  refine ⟨marks, lost, ?_⟩
  rw [← e, State.findTake, State.takes_blockWritten, State.findTake]

theorem State.rushCount_blockWritten (htake : (s.room r).take = some id) (h : s.rushCount = 0) :
    (s.blockWritten r n t b bytes).rushCount = 0 :=
  (State.rushCount_congr State.takes_blockWritten).trans ((State.reportFilledRun_reported htake).rush h)

theorem rushCount_longer (h : s.rushCount = 0) : (s.modTake id Take.longer).rushCount = 0 :=
  State.rushCount_modTake (fun _ => ⟨fun h => h, fun g hg hw => ⟨g, hg, hw⟩⟩) h

end Ends

/-- Settles O48: the page stays open and no cut is due, so that the samples, the length and the slot are all that changes. -/
theorem blockIsStored : Obligations.BlockIsStored := by
  intro r tag body bytes n id t b s x tp hserve hparse hstate hcall hdropping htake hfind hfilling hunit hslot hlen hshort p q out u v w z
  have hid := State.findTake_id hfind
  obtain ⟨marks, lost, hwritten⟩ := State.findTake_blockWritten (n := n) (b := b) (bytes := bytes) htake hfind
  obtain ⟨-, ⟨carry, lostMarks, hroom⟩, -, -⟩ := State.reportFilledRun_reported htake
  rw [State.runEnded, State.room_setRoom_same] at hroom
  have hbefore := State.room_blockWritten (n := n) (t := t) (b := b) (bytes := bytes) htake
  rw [hroom] at hbefore
  have hend := State.endStoredBlock_open (s := (s.blockWritten r n t b bytes).taken (.room r) 0x11 tag) (r := r) (b := b)
    (by rw [State.findTake_taken]; exact hwritten) (by rw [State.room_taken, hbefore]; exact hslot)
    (by rw [State.room_taken, hbefore]; exact hshort)
  have hz : (((s.blockWritten r n t b bytes).modTake id Take.longer).setRoom r
        { (s.blockWritten r n t b bytes).room r with slot := (s.room r).slot + 1 }).blockBoundary r = w := by
    have hq : (s.reportFilledRun r).unitAsked r t = q := by
      rw [State.unitAsked, hroom]
    rw [State.blockWritten_open htake hid, hq]
    rfl
  have hkept : ((s.blockWritten r n t b bytes).room r).slot = (s.room r).slot := by rw [hbefore]
  have hfound : w.findTake id = some { t with marks := marks, lostBlocks := lost, length := t.length + 1 } := by
    rw [← hz, State.findTake_blockBoundary]
    exact State.findTake_longer hwritten
  have hrush : s.rushCount = 0 → w.rushCount = 0 := by
    rw [← hz]
    exact fun h => (State.rushCount_congr (State.takes_blockBoundary _ _)).trans (rushCount_longer (State.rushCount_blockWritten htake h))
  rw [execBlock_written hserve hparse hstate hcall hdropping htake hfind hfilling hunit, hid, hend]
  simp only [State.room_taken, State.modTake_taken, State.setRoom_taken, State.blockBoundary_taken, State.answer_taken, hkept, hz]
  rw [State.limitStop_eq (s := w.answered (.room r) 0x11 tag .ok {} _) (hfind := hfound)]
  refine congrArg Host.Outcome.next ?_
  dsimp only
  split
  · rfl
  · exact State.settle_noRush fun h => (State.rushCount_congr (State.takes_answered ..)).trans (hrush h)

end Sys2Proof.Machine
end

section
/-! A page that its last block fills: its hand-off and the next FILLING buffer (R35, R38, R46, R126 to R129). -/

namespace Sys2Proof.Machine

/-! ### An operation requested -/

/-- The state with one more pending operation (R157, R158). -/
def State.opRequested (s : State) (cls : Nat) (kind : OpKind) : State :=
  { s with flashOps := s.flashOps ++ [⟨cls, s.requestNumber, kind⟩], requestNumber := s.requestNumber + 1 }

section Requested

variable (s : State) (cls : Nat) (kind : OpKind) (r : RoomId) (b : BufId)

theorem State.requestOp_eq (h : s.requestNumber ≤ 4294967295) : s.requestOp cls kind = s.opRequested cls kind :=
  State.requestOp_of_le rfl rfl h cls kind

@[simp] theorem State.room_opRequested : (s.opRequested cls kind).room r = s.room r := rfl
@[simp] theorem State.takes_opRequested : (s.opRequested cls kind).takes = s.takes := rfl
@[simp] theorem State.findTake_opRequested (n : Nat) : (s.opRequested cls kind).findTake n = s.findTake n := rfl
@[simp] theorem State.firstFree_opRequested : (s.opRequested cls kind).firstFree = s.firstFree := rfl
@[simp] theorem State.setRoom_opRequested (x : Room) : (s.opRequested cls kind).setRoom r x = (s.setRoom r x).opRequested cls kind := rfl
@[simp] theorem State.setBuffer_opRequested (x : Buffer) :
    (s.opRequested cls kind).setBuffer b x = (s.setBuffer b x).opRequested cls kind := rfl
@[simp] theorem State.joinDropWait_opRequested : (s.opRequested cls kind).joinDropWait r = (s.joinDropWait r).opRequested cls kind := rfl
@[simp] theorem State.blockBoundary_opRequested :
    (s.opRequested cls kind).blockBoundary r = (s.blockBoundary r).opRequested cls kind := by
  unfold State.blockBoundary
  by_cases h : s.settingsHold = true
  · rw [if_pos h, if_pos (by exact h)]
  · rw [if_neg h, if_neg (by exact h)]; rfl
@[simp] theorem State.opRequested_taken (l : LinkId) (k : Nat) (tag : Byte) :
    (s.taken l k tag).opRequested cls kind = (s.opRequested cls kind).taken l k tag := by cases l <;> rfl
@[simp] theorem State.opRequested_raise (a : Alert) : (s.raise a).opRequested cls kind = (s.opRequested cls kind).raise a := by
  by_cases h : s.alerts.length < Config.alertRecords <;> simp only [State.raise, State.opRequested, h, if_true, if_false]

end Requested

@[simp] theorem State.flashOps_blockBoundary (s : State) (r : RoomId) : (s.blockBoundary r).flashOps = s.flashOps := by
  unfold State.blockBoundary; split <;> rfl
@[simp] theorem State.requestNumber_blockBoundary (s : State) (r : RoomId) : (s.blockBoundary r).requestNumber = s.requestNumber := by
  unfold State.blockBoundary; split <;> rfl

/-! ### FREE buffers -/

theorem State.firstFree_setBuffer_busy {s : State} {b : BufId} {x : Buffer} (hb : (s.buffer b).state ≠ .free) (hx : x.state ≠ .free) :
    (s.setBuffer b x).firstFree = s.firstFree := by
  unfold State.firstFree
  refine congrArg (fun p => allBuffers.find? p) (funext fun c => ?_)
  by_cases hc : b = c
  · subst hc
    rw [State.buffer_setBuffer_same, beq_eq_false_iff_ne.mpr hx, beq_eq_false_iff_ne.mpr hb]
  · rw [State.buffer_setBuffer_ne _ hc]

/-! ### The page handed off (R38, R127, R158) -/

section Handed

variable {s : State} {r : RoomId} {id : Nat} {t : Take} {b : BufId}

/-- The spare contents of a page handed off: its tag, and the stamp or the first two marks to carry. -/
def handedSpare (t : Take) (tp valid : Nat) (carry : List Mark) : List Byte :=
  Tag.bytes ⟨t.id, t.room, t.cls, t.channels, chainIndex tp, valid, 0⟩ ++
    if tp = 0 then stampSlots t.stamp else slotBytes carry[0]? ++ slotBytes carry[1]?

/-- The state after a page's hand-off. -/
def State.handedOff (s : State) (r : RoomId) (t : Take) (b : BufId) (tp valid : Nat) : State :=
  (((s.writeBuf b 2048 (handedSpare t tp valid (s.room r).carry)).setBuffer b
      { s.buffer b with state := .programWait, owner := .programQueue }).setRoom r
    { s.room r with
      carry := if tp = 0 then (s.room r).carry else (s.room r).carry.drop 2
      filling := none
      slot := 0 }).opRequested 2 (.captureProgram b t.id tp)

theorem State.handOff_eq (h : s.requestNumber ≤ 4294967295) (tp valid : Nat) : s.handOff r t b tp valid = s.handedOff r t b tp valid := by
  unfold State.handOff
  dsimp only
  rw [State.requestOp_eq]
  · rfl
  · exact h

theorem State.firstFree_handedOff (hb : (s.buffer b).state = .filling) (tp valid : Nat) :
    (s.handedOff r t b tp valid).firstFree = s.firstFree := by
  have hbusy := State.firstFree_setBuffer_busy (s := s.writeBuf b 2048 (handedSpare t tp valid (s.room r).carry)) (b := b)
    (x := { s.buffer b with state := .programWait, owner := .programQueue }) (by simp [hb]) (by simp)
  exact hbusy

@[simp] theorem State.handedOff_taken (l : LinkId) (kind : Nat) (tag : Byte) (tp valid : Nat) :
    (s.taken l kind tag).handedOff r t b tp valid = (s.handedOff r t b tp valid).taken l kind tag := by
  simp [State.handedOff]

@[simp] theorem State.handedOff_raise (a : Alert) (tp valid : Nat) :
    (s.raise a).handedOff r t b tp valid = (s.handedOff r t b tp valid).raise a := by
  simp [State.handedOff]

@[simp] theorem State.room_handedOff (tp valid : Nat) : (s.handedOff r t b tp valid).room r =
    { s.room r with
      carry := if tp = 0 then (s.room r).carry else (s.room r).carry.drop 2
      filling := none
      slot := 0 } := by
  simp [State.handedOff]

@[simp] theorem State.takes_handedOff (tp valid : Nat) : (s.handedOff r t b tp valid).takes = s.takes := rfl
@[simp] theorem State.findTake_handedOff (tp valid n : Nat) : (s.handedOff r t b tp valid).findTake n = s.findTake n := rfl

/-- The state with a page handed off that its last block fills, before the next buffer. -/
def State.pageFilled (s : State) (r : RoomId) (id : Nat) (t : Take) (b : BufId) : State :=
  (s.modTake id Take.longer).handedOff r t.longer b (takePage t.channels t.length) t.channels.bpp

/-- The end of a stored block that fills its page and makes no cut. -/
theorem State.endStoredBlock_full (hfind : s.findTake id = some t) (hslot : (s.room r).slot + 1 = t.channels.bpp)
    (hshort : t.longer.short (s.room r).active) (hnum : s.requestNumber ≤ 4294967295) :
    s.endStoredBlock r id b = ((s.pageFilled r id t b).obtainFilling r).blockBoundary r := by
  have hcut := State.lengthCut_short (s := s.modTake id Take.longer) (r := r) (State.findTake_longer hfind) hshort
  unfold State.endStoredBlock
  rw [hfind]
  dsimp only
  rw [show (s.modTake id fun t => { t with length := t.length + 1 }) = s.modTake id Take.longer from rfl, hcut,
    State.findTake_longer hfind, State.pageFilled, ← State.handOff_eq (by exact hnum)]
  exact congrArg (fun u : State => u.blockBoundary r) (if_pos hslot)

end Handed

/-! ### The next FILLING buffer, or DROPPING for want of one (R46, R129) -/

section Next

variable {s : State} {r : RoomId} {id : Nat} {t : Take} {b : BufId}

theorem State.obtainFilling_waits (htake : (s.room r).take = some id) (hfind : s.findTake id = some t) (hfree : s.firstFree = none) :
    s.obtainFilling r = ((s.reportFilledRun r).setRoom r
      { (s.reportFilledRun r).room r with
        dropping := some .noBuffer
        dropped := 0
        filling := none
        slot := 0 }).joinDropWait r := by
  simp [State.obtainFilling, htake, hfind, hfree, State.enterDropping, State.joinDropWait]

end Next

/-! ### BLOCK -/

section Written

variable {s : State} {r : RoomId} {n id : Nat} {t : Take} {b : BufId} {bytes : List Byte}

/-- The state with a block written, before CLIP. -/
def State.blockScaled (s : State) (r : RoomId) (n : Nat) (t : Take) (b : BufId) (bytes : List Byte) : State :=
  let out := captureBytes (s.room r).active t.channels.count 0 bytes
  (((s.reportFilledRun r).unitAsked r t).writeBuf b ((s.room r).slot * t.channels.count * 512) out.1).setRoom r
    { (s.reportFilledRun r).room r with
      call := (s.room r).closedCall n
      clip := (s.room r).clip || out.2 != 0 }

theorem State.blockWritten_eq (htake : (s.room r).take = some id) :
    s.blockWritten r n t b bytes =
      if (captureBytes (s.room r).active t.channels.count 0 bytes).2 ≠ 0 ∧ (s.room r).clip = false ∧
          (s.room r).active.clipAlert = true then
        (s.blockScaled r n t b bytes).raise (.clip r t.id t.length)
      else s.blockScaled r n t b bytes := by
  obtain ⟨-, ⟨carry, lost, hroom⟩, -, -⟩ := State.reportFilledRun_reported htake
  rw [State.runEnded, State.room_setRoom_same] at hroom
  rw [State.blockWritten, State.noteClip_eq]
  simp only [State.room_writeBuf, State.room_setCall, State.room_unitAsked]
  rw [hroom]
  simp [State.blockScaled, State.setCall, hroom]

/-- What the blocks' samples, marks and units leave alone. -/
theorem State.blockScaled_kept (htake : (s.room r).take = some id) :
    (s.blockScaled r n t b bytes).flashOps = s.flashOps ∧ (s.blockScaled r n t b bytes).requestNumber = s.requestNumber ∧
      (s.blockScaled r n t b bytes).dropWait = s.dropWait ∧ (s.blockScaled r n t b bytes).buffers = s.buffers := by
  obtain ⟨⟨_, _, _, _, _, hshape⟩, -, -, -⟩ := State.reportFilledRun_reported htake
  obtain ⟨_, _, _, _, _, _, hasked⟩ := (s.reportFilledRun r).unitAsked_eq r t
  unfold State.blockScaled
  rw [hasked, hshape]
  exact ⟨rfl, rfl, rfl, rfl⟩

end Written

theorem State.obtainFilling_taken {s : State} {r : RoomId} {id : Nat} {t : Take} (htake : (s.room r).take = some id)
    (hfind : s.findTake id = some t) (l : LinkId) (kind : Nat) (tag : Byte) :
    (s.taken l kind tag).obtainFilling r = (s.obtainFilling r).taken l kind tag := by
  have htake' : ((s.taken l kind tag).room r).take = some id := by simpa using htake
  have hfind' : (s.taken l kind tag).findTake id = some t := by simpa using hfind
  cases hfree : s.firstFree with
  | some b =>
    rw [State.obtainFilling_free htake hfind hfree,
      State.obtainFilling_free htake' hfind' (by simpa [State.taken] using hfree)]
    simp
  | none =>
    rw [State.obtainFilling_waits htake hfind hfree,
      State.obtainFilling_waits htake' hfind' (by simpa [State.taken] using hfree)]
    simp

section FullPage

variable {s : State} {r : RoomId} {id : Nat} {t : Take} {b : BufId}

@[simp] theorem State.pageFilled_taken (l : LinkId) (kind : Nat) (tag : Byte) :
    (s.taken l kind tag).pageFilled r id t b = (s.pageFilled r id t b).taken l kind tag := by
  simp [State.pageFilled]

theorem State.take_pageFilled (htake : (s.room r).take = some id) : ((s.pageFilled r id t b).room r).take = some id := by
  simpa [State.pageFilled] using htake

theorem State.findTake_pageFilled (hfind : s.findTake id = some t) : (s.pageFilled r id t b).findTake id = some t.longer :=
  State.findTake_longer hfind

theorem State.firstFree_pageFilled (hb : (s.buffer b).state = .filling) : (s.pageFilled r id t b).firstFree = s.firstFree :=
  State.firstFree_handedOff (s := s.modTake id Take.longer) hb _ _

theorem State.pageFilled_free {b' : BufId} (htake : (s.room r).take = some id) (hfind : s.findTake id = some t)
    (hb : (s.buffer b).state = .filling) (hfree : s.firstFree = some b') :
    (s.pageFilled r id t b).obtainFilling r = ((((((s.writeBuf b 2048
        (handedSpare t (takePage t.channels t.length) t.channels.bpp (s.room r).carry)).modTake id Take.longer).setBuffer b
        { s.buffer b with state := .programWait, owner := .programQueue }).setBuffer b'
        ⟨.filling, some (id, takePage t.channels (t.length + 1)), 0, .room r, none⟩).setRoom r
      { s.room r with
        carry := if takePage t.channels t.length = 0 then (s.room r).carry else (s.room r).carry.drop 2
        filling := some b'
        slot := 0 }).opRequested 2 (.captureProgram b id (takePage t.channels t.length))) := by
  have hid := State.findTake_id hfind
  rw [State.obtainFilling_free (State.take_pageFilled htake) (State.findTake_pageFilled hfind)
    ((State.firstFree_pageFilled hb).trans hfree)]
  simp [State.pageFilled, State.handedOff, Take.longer, hid, fillingBuffer, handedSpare]
  rfl

theorem State.pageFilled_none (htake : (s.room r).take = some id) (hfind : s.findTake id = some t)
    (hb : (s.buffer b).state = .filling) (hfree : s.firstFree = none) (hrun : (s.room r).filledRun = none) :
    (s.pageFilled r id t b).obtainFilling r = (((((s.writeBuf b 2048
        (handedSpare t (takePage t.channels t.length) t.channels.bpp (s.room r).carry)).modTake id Take.longer).setBuffer b
        { s.buffer b with state := .programWait, owner := .programQueue }).setRoom r
      { s.room r with
        carry := if takePage t.channels t.length = 0 then (s.room r).carry else (s.room r).carry.drop 2
        filling := none
        slot := 0
        dropping := some .noBuffer
        dropped := 0 }).joinDropWait r).opRequested 2 (.captureProgram b id (takePage t.channels t.length)) := by
  have hid := State.findTake_id hfind
  rw [State.obtainFilling_none (State.take_pageFilled htake) (State.findTake_pageFilled hfind)
    ((State.firstFree_pageFilled hb).trans hfree) (by simpa [State.pageFilled] using hrun)]
  simp [State.pageFilled, State.handedOff, Take.longer, hid, handedSpare]
  rfl

end FullPage

section FullBlock

variable {s : State} {r : RoomId} {n id : Nat} {t : Take} {b : BufId} {bytes : List Byte}

theorem State.blockWritten_kept (htake : (s.room r).take = some id) :
    (s.blockWritten r n t b bytes).requestNumber = s.requestNumber ∧ (s.blockWritten r n t b bytes).buffers = s.buffers := by
  obtain ⟨-, hnumber, -, hbuffers⟩ := State.blockScaled_kept (n := n) (t := t) (b := b) (bytes := bytes) htake
  rw [State.blockWritten_eq htake]
  split
  · unfold State.raise
    split <;> exact ⟨hnumber, hbuffers⟩
  · exact ⟨hnumber, hbuffers⟩

/-- The state with a full page's block written and its buffer waiting to be programmed, before CLIP and the next buffer. -/
def State.fullBlock (s : State) (r : RoomId) (id : Nat) (t : Take) (b : BufId) (bytes : List Byte) : State :=
  (((((s.reportFilledRun r).unitAsked r t).writeBuf b ((s.room r).slot * t.channels.count * 512)
    (captureBytes (s.room r).active t.channels.count 0 bytes).1).writeBuf b 2048
    (handedSpare t (takePage t.channels t.length) t.channels.bpp ((s.reportFilledRun r).room r).carry)).modTake id Take.longer).setBuffer b
    { s.buffer b with state := .programWait, owner := .programQueue }

/-- The room with a full page's block written, before the next buffer. -/
def State.fullRoom (s : State) (r : RoomId) (n : Nat) (t : Take) (bytes : List Byte) : Room :=
  { (s.reportFilledRun r).room r with
    call := (s.room r).closedCall n
    clip := (s.room r).clip || (captureBytes (s.room r).active t.channels.count 0 bytes).2 != 0
    carry := if takePage t.channels t.length = 0 then ((s.reportFilledRun r).room r).carry
      else ((s.reportFilledRun r).room r).carry.drop 2
    slot := 0 }

/-- CLIP raised where a block's saturated samples are the first since the clip flag was clear (R37). -/
def State.clipRaised (s : State) (r : RoomId) (x : Room) (id block n : Nat) : State :=
  if n ≠ 0 ∧ x.clip = false ∧ x.active.clipAlert = true then s.raise (.clip r id block) else s

variable {marks : List Mark} {lost : Nat}

theorem State.blockWritten_full_free {b' : BufId} (htake : (s.room r).take = some id) (hid : t.id = id)
    (hwritten : (s.blockWritten r n t b bytes).findTake id = some { t with marks := marks, lostBlocks := lost })
    (hbuf : (s.buffer b).state = .filling) (hfree : s.firstFree = some b') :
    (((s.blockWritten r n t b bytes).pageFilled r id { t with marks := marks, lostBlocks := lost } b).obtainFilling r).blockBoundary r =
      ((((((s.fullBlock r id t b bytes).setBuffer b'
        ⟨.filling, some (id, takePage t.channels (t.length + 1)), 0, .room r, none⟩).setRoom r
        { s.fullRoom r n t bytes with filling := some b' }).blockBoundary r).opRequested 2
        (.captureProgram b id (takePage t.channels t.length))).clipRaised r (s.room r) id t.length
          (captureBytes (s.room r).active t.channels.count 0 bytes).2) := by
  obtain ⟨-, hbuffers⟩ := State.blockWritten_kept (n := n) (t := t) (b := b) (bytes := bytes) htake
  have hbufb : (s.blockWritten r n t b bytes).buffer b = s.buffer b := by rw [State.buffer, hbuffers]; rfl
  have htake' : ((s.blockWritten r n t b bytes).room r).take = some id := by
    obtain ⟨-, ⟨carry, lostMarks, hroom⟩, -, -⟩ := State.reportFilledRun_reported htake
    rw [State.room_blockWritten htake, hroom]
    simpa [State.runEnded] using htake
  rw [State.pageFilled_free htake' hwritten (by rw [hbufb]; exact hbuf) ((State.firstFree_congr hbuffers).trans hfree), hbufb,
    State.room_blockWritten htake, State.blockWritten_eq htake]
  unfold State.blockScaled State.clipRaised
  split <;> simp [handedSpare, hid, State.fullBlock, State.fullRoom]

theorem State.blockWritten_full_none (htake : (s.room r).take = some id) (hid : t.id = id)
    (hwritten : (s.blockWritten r n t b bytes).findTake id = some { t with marks := marks, lostBlocks := lost })
    (hbuf : (s.buffer b).state = .filling) (hfree : s.firstFree = none) :
    (((s.blockWritten r n t b bytes).pageFilled r id { t with marks := marks, lostBlocks := lost } b).obtainFilling r).blockBoundary r =
      (((((s.fullBlock r id t b bytes).setRoom r
        { s.fullRoom r n t bytes with filling := none, dropping := some .noBuffer, dropped := 0 }).joinDropWait r).blockBoundary
        r).opRequested 2 (.captureProgram b id (takePage t.channels t.length))).clipRaised r (s.room r) id t.length
          (captureBytes (s.room r).active t.channels.count 0 bytes).2 := by
  obtain ⟨-, hbuffers⟩ := State.blockWritten_kept (n := n) (t := t) (b := b) (bytes := bytes) htake
  obtain ⟨-, ⟨carry, lostMarks, hroom⟩, -, -⟩ := State.reportFilledRun_reported htake
  have hbufb : (s.blockWritten r n t b bytes).buffer b = s.buffer b := by rw [State.buffer, hbuffers]; rfl
  have htake' : ((s.blockWritten r n t b bytes).room r).take = some id := by
    rw [State.room_blockWritten htake, hroom]
    simpa [State.runEnded] using htake
  have hrun : ((s.blockWritten r n t b bytes).room r).filledRun = none := by
    rw [State.room_blockWritten htake, hroom]
    simp [State.runEnded]
  rw [State.pageFilled_none htake' hwritten (by rw [hbufb]; exact hbuf) ((State.firstFree_congr hbuffers).trans hfree) hrun, hbufb,
    State.room_blockWritten htake, State.blockWritten_eq htake]
  unfold State.blockScaled State.clipRaised
  split <;> simp [handedSpare, hid, State.fullBlock, State.fullRoom]

end FullBlock

/-- Settles O49: the block before the page's end goes as in O48; then the page is handed off and the next buffer is taken, or waited for. -/
theorem blockHandsItsPageOff : Obligations.BlockHandsItsPageOff := by
  intro r tag body bytes n id t b s x tp hserve hparse hstate hcall hdropping htake hfind hfilling hbuf hunit hslot hlen hnum hshort p q cs
    out spare u y v w a z
  have hid := State.findTake_id hfind
  obtain ⟨marks, lost, hwritten⟩ := State.findTake_blockWritten (n := n) (b := b) (bytes := bytes) htake hfind
  obtain ⟨-, ⟨carry, lostMarks, hroom⟩, -, -⟩ := State.reportFilledRun_reported htake
  rw [State.runEnded, State.room_setRoom_same] at hroom
  have hbefore := State.room_blockWritten (n := n) (t := t) (b := b) (bytes := bytes) htake
  obtain ⟨hnumber, hbuffers⟩ := State.blockWritten_kept (n := n) (t := t) (b := b) (bytes := bytes) htake
  have hend := State.endStoredBlock_full (s := (s.blockWritten r n t b bytes).taken (.room r) 0x11 tag) (r := r) (b := b)
    (by rw [State.findTake_taken]; exact hwritten) (by rw [State.room_taken, hbefore, hroom]; exact hslot)
    (by rw [State.room_taken, hbefore, hroom]; exact hshort) (by exact Nat.le_trans (Nat.le_of_eq hnumber) hnum)
  have htake' : ((s.blockWritten r n t b bytes).room r).take = some id := by
    rw [hbefore, hroom]
    exact htake
  have hrun : ((s.blockWritten r n t b bytes).room r).filledRun = none := by rw [hbefore, hroom]
  have hz : (((s.blockWritten r n t b bytes).pageFilled r id { t with marks := marks, lostBlocks := lost } b).obtainFilling
      r).blockBoundary r = a := by
    have hq : (s.reportFilledRun r).unitAsked r t = q := by
      rw [State.unitAsked, hroom]
    obtain ⟨hops, hnum', hdrop, hbufs⟩ := State.blockScaled_kept (n := n) (t := t) (b := b) (bytes := bytes) htake
    have hbufb : (s.blockWritten r n t b bytes).buffer b = s.buffer b := by rw [State.buffer, hbuffers]; rfl
    have hfree' : (s.blockWritten r n t b bytes).firstFree = s.firstFree := State.firstFree_congr hbuffers
    have hqops : q.flashOps = s.flashOps := hq ▸ hops
    have hqnum : q.requestNumber = s.requestNumber := hq ▸ hnum'
    have hqdrop : q.dropWait = s.dropWait := hq ▸ hdrop
    have hw : v.flashOps = q.flashOps → v.requestNumber = q.requestNumber →
        w = (v.blockBoundary r).opRequested 2 (.captureProgram b id tp) := by
      intro h1 h2
      rw [State.opRequested, State.flashOps_blockBoundary, State.requestNumber_blockBoundary, h1, h2, hqops, hqnum]
    have hu : s.fullBlock r id t b bytes = u := by
      unfold State.fullBlock handedSpare
      rw [hq, hid]
      rfl
    have hy : s.fullRoom r n t bytes = y := rfl
    have ha : a = w.clipRaised r (s.room r) id t.length out.2 := rfl
    have huops : u.flashOps = q.flashOps := by
      simp only [u, State.setBuffer_flashOps, State.modTake_flashOps, State.writeBuf_flashOps]
    have hunum : u.requestNumber = q.requestNumber := by
      simp only [u, State.setBuffer_requestNumber, State.modTake_requestNumber, State.writeBuf_requestNumber]
    have hudrop : u.dropWait = s.dropWait := by
      simp only [u, State.setBuffer_dropWait, State.modTake_dropWait, State.writeBuf_dropWait, hqdrop]
    have hvfree : ∀ b', s.firstFree = some b' → v =
        (u.setBuffer b' ⟨.filling, some (id, takePage t.channels (t.length + 1)), 0, .room r, none⟩).setRoom r
          { y with filling := some b' } := by
      intro b' hfree
      simp only [v, hfree]
    have hvnone : s.firstFree = none →
        v = (u.setRoom r { y with filling := none, dropping := some .noBuffer, dropped := 0 }).joinDropWait r := by
      intro hfree
      simp only [v, hfree, State.joinDropWait, State.setRoom_dropWait, hudrop]
    clear_value a w v u y
    cases hfree : s.firstFree with
    | some b' =>
      have hv := hvfree b' hfree
      rw [State.blockWritten_full_free htake hid hwritten hbuf hfree, hu, hy, ha, ← hv,
        hw (by rw [hv]; exact huops) (by rw [hv]; exact hunum)]
    | none =>
      have hv := hvnone hfree
      rw [State.blockWritten_full_none htake hid hwritten hbuf hfree, hu, hy, ha, ← hv,
        hw (by rw [hv]; exact huops) (by rw [hv]; exact hunum)]
  have htakes : a.takes = ((s.blockWritten r n t b bytes).modTake id Take.longer).takes := by
    rw [← hz, State.takes_blockBoundary, State.takes_obtainFilling (by simpa [State.pageFilled] using hrun)]
    rfl
  have hfound : a.findTake id = some { t with marks := marks, lostBlocks := lost, length := t.length + 1 } := by
    rw [State.findTake, htakes]
    exact State.findTake_longer hwritten
  have hrush : s.rushCount = 0 → a.rushCount = 0 := fun h =>
    (State.rushCount_congr htakes).trans (rushCount_longer (State.rushCount_blockWritten htake h))
  rw [execBlock_written hserve hparse hstate hcall hdropping htake hfind hfilling hunit, hid, hend, State.pageFilled_taken,
    State.obtainFilling_taken (State.take_pageFilled htake') (State.findTake_pageFilled hwritten), State.blockBoundary_taken,
    State.answer_taken, hz, State.limitStop_eq (s := a.answered (.room r) 0x11 tag .ok {} _) (hfind := hfound)]
  refine congrArg Host.Outcome.next ?_
  dsimp only
  split
  · rfl
  · exact State.settle_noRush fun h => (State.rushCount_congr (State.takes_answered ..)).trans (hrush h)

end Sys2Proof.Machine
end

section
/-! Units granted to capture, to refreshes and to rescues, and the engine's next work (R138, R139, R147, R148, R152). -/

namespace Sys2Proof.Machine

/-! ### The copy buffer and the first read of the engine's work -/

section CopyRead

variable {s : State} {w : Work} {b : BufId}

theorem State.freeBuffers_pos (h : s.firstFree = some b) : 1 ≤ s.freeBuffers := by
  have hmem : b ∈ allBuffers.filter fun c => (s.buffer c).state == .free :=
    List.mem_filter.mpr ⟨List.mem_of_find?_eq_some h, List.find?_some (p := fun c => (s.buffer c).state == .free) h⟩
  exact List.length_pos_of_mem hmem

/-- The engine with a read of a page of its work's source in flight (R152). -/
def State.copyReading (s : State) (isRescue : Bool) (w : Work) (b : BufId) : State :=
  ({ s.modUnit w.source fun u => { u with inFlight := u.inFlight + 1 } with
    engine := .of isRescue { w with buf := some b, flight := .read } } : State).opRequested (engineClass isRescue)
      (.pageRead w.source w.page b .engine)

theorem State.requestCopyRead_eq (hnum : s.requestNumber ≤ 4294967295) (isRescue : Bool) :
    s.requestCopyRead isRescue w b = s.copyReading isRescue w b :=
  State.requestOp_eq (h := by exact hnum) ..

theorem State.askCopyBuffer_rescue (hfree : s.firstFree = some b) (hnum : s.requestNumber ≤ 4294967295) :
    s.askCopyBuffer true w = (s.setBuffer b ⟨.copy, none, 0, .engine, none⟩).copyReading true w b := by
  have hgranted : s.copyBufferGranted true = true := by
    simp [State.copyBufferGranted, State.freeBuffers_pos hfree]
  rw [State.askCopyBuffer, hfree]
  dsimp only
  rw [if_pos hgranted, State.requestCopyRead_eq (by exact hnum)]

theorem State.askCopyBuffer_refresh (hfree : s.firstFree = some b) (henough : s.nrec + 8 < s.freeBuffers)
    (hnum : s.requestNumber ≤ 4294967295) :
    s.askCopyBuffer false w = (s.setBuffer b ⟨.copy, none, 0, .engine, none⟩).copyReading false w b := by
  have hgranted : s.copyBufferGranted false = true := by simp [State.copyBufferGranted, henough]
  rw [State.askCopyBuffer, hfree]
  dsimp only
  rw [if_pos hgranted, State.requestCopyRead_eq (by exact hnum)]

end CopyRead

/-! ### The engine's next work -/

section Next

variable {s : State} {n u take chain : Nat} {rest : List Nat}

theorem State.unitGrantedLow_eq (s : State) (take chain : Nat) (role : Role) (n : Nat) (rest : List Nat) :
    ∃ alerts overflow next, s.unitGrantedLow take chain role n rest =
      { s.unitGranted take chain role n rest with alerts := alerts, alertOverflow := overflow, nextAlert := next } := by
  unfold State.unitGrantedLow
  split
  · unfold State.raise
    split <;> exact ⟨_, _, _, rfl⟩
  · exact ⟨_, _, _, rfl⟩

theorem State.withEngine_self {e : Engine} (h : s.engine = e) : ({ s with engine := e } : State) = s := by
  rw [← h]

/-- The engine takes the first rescue (R152). -/
theorem State.engineNext_rescue {e : Rescue} {more : List Rescue} (hready : s.readiness = .ready) (hengine : s.engine = .idle)
    (hrescues : s.rescues = e :: more) :
    ∃ fuel, s.engineNext = s.rescueAsks (State.takeWork fuel) (newWork e.take e.chain e.unit) := by
  refine ⟨s.rescues.length + s.refreshFifo.length, ?_⟩
  unfold State.engineNext State.takeWork
  rw [State.withEngine_self hengine]
  dsimp only
  rw [if_neg (by simp [hready]), hrescues]

theorem State.rescueAsks_granted {next : State → State} {e : Rescue} {more : List Rescue} {b : BufId} (hrescues : s.rescues = e :: more)
    (hlist : s.freeList = n :: rest) (hseq : s.writeSeq < 4294967295) (hpage : e.page ≠ 0) (hfree : s.firstFree = some b)
    (hnum : s.requestNumber ≤ 4294967295) :
    s.rescueAsks next (newWork e.take e.chain e.unit) =
      ((s.unitGrantedLow e.take e.chain .destination n rest).setBuffer b ⟨.copy, none, 0, .engine, none⟩).copyReading true
        { newWork e.take e.chain e.unit with dest := some n } b := by
  obtain ⟨_, _, _, hshape⟩ := s.unitGrantedLow_eq e.take e.chain .destination n rest
  have hresc : (s.unitGrantedLow e.take e.chain .destination n rest).rescues = e :: more := by
    rw [hshape]
    exact hrescues
  have hfree' : (s.unitGrantedLow e.take e.chain .destination n rest).firstFree = some b := by
    rw [hshape]
    exact hfree
  have hnum' : (s.unitGrantedLow e.take e.chain .destination n rest).requestNumber ≤ 4294967295 := by
    rw [hshape]
    exact hnum
  have hfirst : ((((s.unitGrantedLow e.take e.chain .destination n rest).rescues.find? fun x => x.unit == e.unit).map
      Rescue.page).getD 0) = e.page := by
    rw [hresc]
    simp
  rw [State.rescueAsks, newWork, State.grantUnit_some hlist hseq (by omega)]
  dsimp only
  unfold State.rescueHasUnit
  dsimp only
  rw [hfirst, if_neg hpage, State.askCopyBuffer_rescue (by exact hfree') (by exact hnum')]
  rfl

/-- The first read for a destination just granted. -/
theorem State.copyReading_granted {role : Role} {b : BufId} {x : Buffer} {isRescue : Bool} {w : Work} :
    ((s.unitGrantedLow take chain role n rest).setBuffer b x).copyReading isRescue w b =
      { ((s.unitGrantedLow take chain role n rest).setBuffer b x).modUnit w.source fun y => { y with inFlight := y.inFlight + 1 } with
        engine := .of isRescue { w with buf := some b, flight := .read }
        flashOps := s.flashOps ++ [⟨engineClass isRescue, s.requestNumber, .pageRead w.source w.page b .engine⟩]
        requestNumber := s.requestNumber + 1 } := by
  obtain ⟨_, _, _, hshape⟩ := s.unitGrantedLow_eq take chain role n rest
  rw [hshape]
  rfl

/-- The state with the engine at a rescue. -/
def State.atRescue (s : State) (w : Work) : State := { s with engine := .rescue w }

@[simp] theorem State.findTake_atRescue (w : Work) (m : Nat) : (s.atRescue w).findTake m = s.findTake m := rfl
@[simp] theorem State.room_atRescue (w : Work) (r : RoomId) : (s.atRescue w).room r = s.room r := rfl

theorem State.tellRescueWait_eq {r : RoomId} (hrun : (s.room r).filledRun = none) :
    s.tellRescueWait r = s.setRoom r (if (s.room r).dropping.isSome then { s.room r with rescueWaiting := true }
      else { s.room r with dropping := some .noUnit, dropped := 0, rescueWaiting := true }) := by
  unfold State.tellRescueWait
  split
  · rfl
  · simp [State.enterDropping, State.reportFilledRun_of_none hrun]

/-- A rescue for which no unit is FREE waits (R152). -/
theorem State.rescueAsks_waits {next : State → State} {e : Rescue} {t : Take} (hlist : s.freeList = []) (hfind : s.findTake e.take = some t)
    (hrun : (s.room t.room).filledRun = none) :
    s.rescueAsks next (newWork e.take e.chain e.unit) =
      let v := (s.atRescue (newWork e.take e.chain e.unit)).raise (.rescueWait e.take e.chain t.room)
      if t.state ≠ .recording then v
      else v.setRoom t.room (if (s.room t.room).dropping.isSome then { s.room t.room with rescueWaiting := true }
        else { s.room t.room with dropping := some .noUnit, dropped := 0, rescueWaiting := true }) := by
  have hasks : s.rescueAsks next (newWork e.take e.chain e.unit) =
      match (s.atRescue (newWork e.take e.chain e.unit)).findTake e.take with
      | none => s.atRescue (newWork e.take e.chain e.unit)
      | some t =>
        match ((s.atRescue (newWork e.take e.chain e.unit)).raise (.rescueWait e.take e.chain t.room)).recordingRoom e.take with
        | some r => ((s.atRescue (newWork e.take e.chain e.unit)).raise (.rescueWait e.take e.chain t.room)).tellRescueWait r
        | none => (s.atRescue (newWork e.take e.chain e.unit)).raise (.rescueWait e.take e.chain t.room) := by
    rw [State.rescueAsks, newWork, State.grantUnit_none (.inl hlist)]
    rfl
  rw [hasks, State.findTake_atRescue, hfind]
  dsimp only
  rw [State.recordingRoom, State.findTake_raise, State.findTake_atRescue, hfind]
  by_cases hstate : t.state = .recording
  · simp [hstate, State.tellRescueWait_eq, hrun]
  · simp [hstate]

/-- The state with the head of the refresh FIFO taken. -/
def State.fifoTaken (s : State) (more : List Nat) : State := { s with refreshFifo := more }

/-- The IDLE engine without rescues takes the head of the refresh FIFO where a destination is had (R148). -/
theorem State.takeWork_refresh {fuel : Nat} {e : UnitEntry} {more : List Nat} {p : Nat × State} (hready : s.readiness = .ready)
    (hengine : s.engine = .idle) (hrescues : s.rescues = []) (hfifo : s.refreshFifo = n :: more) (hunit : s.unit n = some e)
    (hgrant : (s.fifoTaken more).grantUnit captureNeed (e.owner.getD 0) (e.chain.getD 0) .destination = some p) :
    State.takeWork (fuel + 1) s =
      ({ p.2 with engine := .refresh { newWork (e.owner.getD 0) (e.chain.getD 0) n with dest := some p.1 } } : State).askCopyBuffer false
          { newWork (e.owner.getD 0) (e.chain.getD 0) n with dest := some p.1 } := by
  unfold State.takeWork
  rw [State.withEngine_self hengine]
  dsimp only
  rw [if_neg (by simp [hready])]
  split
  · rename_i h
    cases hrescues.symm.trans h
  split
  · rename_i h
    cases hfifo.symm.trans h
  rename_i h
  cases hfifo.symm.trans h
  split
  · rename_i h
    cases hunit.symm.trans h
  rename_i h
  cases hunit.symm.trans h
  rw [show ({ s with refreshFifo := more } : State) = s.fifoTaken more from rfl, hgrant]

/-- A refresh for which too few units are FREE is abandoned (R148). -/
theorem State.takeWork_abandons {fuel : Nat} {e : UnitEntry} {more : List Nat} (hready : s.readiness = .ready)
    (hengine : s.engine = .idle) (hrescues : s.rescues = []) (hfifo : s.refreshFifo = n :: more) (hunit : s.unit n = some e)
    (hgrant : (s.fifoTaken more).grantUnit captureNeed (e.owner.getD 0) (e.chain.getD 0) .destination = none) :
    State.takeWork (fuel + 1) s = State.takeWork fuel (((s.fifoTaken more).modUnit n fun x => { x with refreshWanted := false }).raise
      (.refreshAbandoned (e.owner.getD 0) (e.chain.getD 0) n)) := by
  rw [State.takeWork, State.withEngine_self hengine]
  dsimp only
  rw [if_neg (by simp [hready])]
  split
  · rename_i h
    cases hrescues.symm.trans h
  split
  · rename_i h
    cases hfifo.symm.trans h
  rename_i h
  cases hfifo.symm.trans h
  split
  · rename_i h
    cases hunit.symm.trans h
  rename_i h
  cases hunit.symm.trans h
  rw [show ({ s with refreshFifo := more } : State) = s.fifoTaken more from rfl, hgrant]

theorem State.takeWork_nothing {fuel : Nat} (hready : s.readiness = .ready) (hengine : s.engine = .idle) (hrescues : s.rescues = [])
    (hfifo : s.refreshFifo = []) : State.takeWork fuel s = s := by
  cases fuel with
  | zero => exact State.withEngine_self hengine
  | succ fuel =>
    unfold State.takeWork
    rw [State.withEngine_self hengine]
    dsimp only
    rw [if_neg (by simp [hready])]
    split
    · rename_i h
      cases hrescues.symm.trans h
    split
    · rfl
    · rename_i h
      cases hfifo.symm.trans h

theorem State.unitGrantedLow_fifoTaken {role : Role} {more : List Nat} :
    (s.fifoTaken more).unitGrantedLow take chain role n rest = (s.unitGrantedLow take chain role n rest).fifoTaken more := by
  have hraise : ∀ (u : State) a, (u.fifoTaken more).raise a = (u.raise a).fifoTaken more := by
    intro u a
    by_cases h : u.alerts.length < Config.alertRecords <;> simp only [State.raise, State.fifoTaken, h, if_true, if_false]
  have hgranted : (s.fifoTaken more).unitGranted take chain role n rest = (s.unitGranted take chain role n rest).fifoTaken more := rfl
  unfold State.unitGrantedLow
  rw [hgranted, hraise]
  by_cases h : rest.length = s.lowWater
  · rw [if_pos h, if_pos (by exact h)]; rfl
  · rw [if_neg h, if_neg (by exact h)]

end Next

/-- Settles O51: a grant reads the free list and the write sequence alone; the engine looks at the rescues before the refresh FIFO. -/
theorem grantsForCapture : Obligations.GrantsForCapture := by
  refine ⟨fun s take tp h => State.ensureUnit_held h, fun s take tp n rest hchain hlist hseq => ⟨fun hlen => ?few, fun hlen => ?granted⟩,
    fun s hready hengine => ⟨fun e more n rest b hrescues hlist hseq hpage hfree hnum => ?rescue,
      fun e more t hrescues hlist hfind hrun => ?waits, fun n more e id c hrescues hfifo hunit howner hc =>
        ⟨fun d rest b hlist hlen hseq hfree henough hnum => ?refresh, fun hmore hlen => ?abandoned⟩⟩⟩
  case few => exact State.ensureUnit_short hchain (by rw [hlist, List.length_cons]; omega)
  case granted => exact State.ensureUnit_granted hchain hlist hseq hlen
  case rescue =>
    obtain ⟨fuel, h⟩ := State.engineNext_rescue hready hengine hrescues
    rw [h, State.rescueAsks_granted hrescues hlist hseq hpage hfree hnum]
    exact State.copyReading_granted
  case waits =>
    obtain ⟨fuel, h⟩ := State.engineNext_rescue hready hengine hrescues
    rw [h]
    exact State.rescueAsks_waits hlist hfind hrun
  case refresh =>
    have hneed : captureNeed ≤ rest.length + 1 := by simpa [captureNeed, Config.captureReserve] using hlen
    obtain ⟨_, _, _, hshape⟩ := s.unitGrantedLow_eq id c .destination d rest
    have hfree' : (s.unitGrantedLow id c .destination d rest).firstFree = some b := by rw [hshape]; exact hfree
    have henough' : (s.unitGrantedLow id c .destination d rest).nrec + 8 < (s.unitGrantedLow id c .destination d rest).freeBuffers := by
      rw [hshape]; exact henough
    have hnum' : (s.unitGrantedLow id c .destination d rest).requestNumber ≤ 4294967295 := by rw [hshape]; exact hnum
    rw [State.engineNext, State.takeWork_refresh hready hengine hrescues hfifo hunit
      (State.grantUnit_some (s := s.fifoTaken more) hlist hseq hneed), howner, hc]
    dsimp only [Option.getD_some]
    rw [State.unitGrantedLow_fifoTaken, State.askCopyBuffer_refresh (b := b) (by exact hfree') (by exact henough') (by exact hnum')]
    exact congrArg (fun u : State => ({ u with refreshFifo := more } : State)) (State.copyReading_granted (s := s) (take := id)
      (chain := c) (role := .destination) (n := d) (rest := rest) (b := b) (x := ⟨.copy, none, 0, .engine, none⟩) (isRescue := false)
      (w := { newWork id c n with dest := some d }))
  case abandoned =>
    subst hmore
    have hnone : (s.fifoTaken []).freeList.length < captureNeed := Nat.lt_succ_of_le hlen
    rw [State.engineNext, State.takeWork_abandons hready hengine hrescues hfifo hunit (State.grantUnit_none (.inr (.inl hnone))),
      howner, hc, State.takeWork_nothing]
    · rfl
    · unfold State.raise; split <;> exact hready
    · unfold State.raise; split <;> exact hengine
    · unfold State.raise; split <;> exact hrescues
    · unfold State.raise; split <;> rfl

end Sys2Proof.Machine
end

section
/-! MARK (R17, R44). -/

namespace Sys2Proof.Machine

section Place

variable {s : State} {r : RoomId} {id : Nat} {m : Mark}

/-- The state with a mark placed in a take and last in the room's carry list. -/
def State.markPlaced (s : State) (r : RoomId) (id : Nat) (m : Mark) : State :=
  (s.modTake id fun y => { y with marks := insertMark m y.marks }).setRoom r { s.room r with carry := (s.room r).carry ++ [m] }

theorem State.placeMark_eq (h : (s.room r).carry.length < 8) : s.placeMark r id m = s.markPlaced r id m :=
  if_pos (by exact h)

theorem State.findTake_markPlaced {t : Take} (hfind : s.findTake id = some t) :
    (s.markPlaced r id m).findTake id = some { t with marks := insertMark m t.marks } := by
  have h := State.findTake_modTake_same (f := fun y => { y with marks := insertMark m y.marks }) s id fun _ => rfl
  rw [hfind] at h
  exact h

theorem State.rushCount_markPlaced (h : s.rushCount = 0) : (s.markPlaced r id m).rushCount = 0 :=
  State.rushCount_modTake (fun _ => ⟨fun h => h, fun g hg hw => ⟨g, hg, hw⟩⟩) h

@[simp] theorem State.markPlaced_taken (l : LinkId) (kind : Nat) (tag : Byte) :
    (s.taken l kind tag).markPlaced r id m = (s.markPlaced r id m).taken l kind tag := by
  simp [State.markPlaced]

end Place

/-- A mark that is due to make a cut (R9, R11, R12). -/
def markDue (k : MarkKind) (a : RoomSettings) (length : Nat) : Prop :=
  k = .speaker ∧ secToBlocks a.target ≤ length ∨ k = .break_ ∧ secToBlocks a.minimum ≤ length

theorem State.markCut_eq {s : State} {r : RoomId} {id : Nat} {t : Take} {g : Segment} (k : MarkKind) (b : Nat)
    (hfind : s.findTake id = some t) (hgrow : t.growing = some g) (hdue : markDue k (s.room r).active (t.length - g.first)) :
    s.markCut r id k b = if g.first < b then s.cutAt id b else s := by
  unfold State.markCut
  rw [hfind]
  dsimp only
  rw [hgrow]
  obtain ⟨rfl, h⟩ | ⟨rfl, h⟩ := hdue <;> simp [growingLength, h]

theorem State.markCut_none {s : State} {r : RoomId} {id : Nat} {t : Take} (k : MarkKind) (b : Nat)
    (hfind : s.findTake id = some t) (hdue : ∀ g, t.growing = some g → ¬ markDue k (s.room r).active (t.length - g.first)) :
    s.markCut r id k b = s := by
  unfold State.markCut
  rw [hfind]
  dsimp only
  split
  · rfl
  · rename_i g hgrow
    refine if_neg fun ⟨hlong, _⟩ => hdue g hgrow ?_
    cases k with
    | speaker => exact .inl ⟨rfl, of_decide_eq_true hlong⟩
    | break_ => exact .inr ⟨rfl, of_decide_eq_true hlong⟩
    | _ => cases hlong

/-- MARK of a recording room, its kind one that MARK may place and its carry list and the mark table having room. -/
theorem execMark_placed {r : RoomId} {tag : Byte} {body : List Byte} {a : MarkArgs} {id : Nat} {t : Take} {s : State}
    (hserve : s.canServe (.room r)) (hparse : parseMark body = some a) (hstate : (s.room r).state = .recording) (hgap : a.kind ≠ .gap)
    (hcut : a.kind ≠ .cut) (htake : (s.room r).take = some id) (hfind : s.findTake id = some t) (hcarry : (s.room r).carry.length < 7)
    (hfree : 16 < s.freeMarks) :
    exec (.mark r tag body) s = .next (State.settle s
      ((((s.markPlaced r id ⟨a.kind, markBlock t.length (a.back.map (min 1000)), a.code, none⟩).taken (.room r) 0x12 tag).markCut r id
        a.kind (markBlock t.length (a.back.map (min 1000)))).answer (.room r) .ok
          { clamped := a.back.any fun n => decide (1000 < n) }
          (fieldBytes (fPos 1 (markBlock t.length (a.back.map (min 1000))) ::
            if a.back.any fun n => decide (1000 < n) then [fNum 2 2 1000] else [])))) := by
  obtain ⟨hadmitted, hready⟩ := hserve
  have hid := State.findTake_id hfind
  have hfree' : ¬ (s.taken (.room r) 0x12 tag).freeMarks ≤ 16 := Nat.not_le.mpr hfree
  have hback : (if a.back.any fun n => decide (1000 < n) then fOpt 2 2 (a.back.map (min 1000)) else []) =
      if a.back.any fun n => decide (1000 < n) then [fNum 2 2 1000] else [] := by
    cases a.back with
    | none => rfl
    | some n =>
      by_cases hn : 1000 < n
      · simp [hn, fOpt, Nat.min_eq_left (Nat.le_of_lt hn)]
      · simp [hn]
  simp only [exec, execMark]
  rw [State.request_served hadmitted hparse (by rw [hready]; rfl)]
  simp only [serveMark, State.room_taken, hstate, ne_eq, not_true_eq_false, if_false, hgap, hcut, or_self, htake, Option.bind_some,
    State.findTake_taken, hfind, Config.carryRoomLimit, Nat.not_le.mpr hcarry, Config.markReserve, hfree', hid, State.settle_taken,
    State.answerFields, hback]
  rw [State.placeMark_eq (by simp only [State.room_taken]; omega), State.markPlaced_taken]

/-- Settles O53: the room, the kind, the carry list and the mark table are tested in this order. -/
theorem marksOfARoom : Obligations.MarksOfARoom := by
  refine fun r tag body a s hserve hparse => ⟨fun hstate => ?refused, fun hstate hkind => ?ownKind,
    fun id t hstate hgap hcut htake hfind => ⟨fun hfull => ?full, fun hcarry hfree hdue => ?placed⟩⟩
  case refused =>
    exact exec_refused (f := serveMark r) rfl hserve (by rw [hparse]; rfl) fun _ _ => if_pos (by simpa using hstate)
  case ownKind =>
    obtain ⟨hadmitted, hready⟩ := hserve
    simp only [exec, execMark]
    rw [State.request_served hadmitted hparse (by rw [hready]; rfl), serveMark]
    simp [hstate, hkind]
  case full =>
    obtain ⟨hadmitted, hready⟩ := hserve
    have hid := State.findTake_id hfind
    have hlose : (s.taken (.room r) 0x12 tag).loseMarks r id 1 =
        ((s.setRoom r { s.room r with lostMarks := min ((s.room r).lostMarks + 1) 65535 }).raise (.markLost id (some r) 1)).taken
          (.room r) 0x12 tag := by
      simp [State.loseMarks, satAdd, Config.max16]
    simp only [exec, execMark]
    rw [State.request_served hadmitted hparse (by rw [hready]; rfl)]
    simp only [serveMark, State.room_taken, hstate, ne_eq, not_true_eq_false, if_false, hgap, hcut, or_self, htake, Option.bind_some,
      State.findTake_taken, hfind, Config.carryRoomLimit, Config.markReserve, hid, hlose, State.answer_taken]
    by_cases hcarry : 7 ≤ (s.room r).carry.length
    · rw [if_pos hcarry]
    · rw [if_neg hcarry, if_pos (by exact hfull.resolve_left hcarry)]
  case placed =>
    have hfound := State.findTake_markPlaced (r := r)
      (m := ⟨a.kind, markBlock t.length (a.back.map (min 1000)), a.code, none⟩) hfind
    have hnot : ∀ g, t.growing = some g → ¬ markDue a.kind (s.room r).active (t.length - g.first) := by
      rintro g hgrow (⟨hkind, hlong⟩ | ⟨hkind, hlong⟩)
      · exact absurd ((hdue g hgrow).1 hkind) (Nat.not_lt.mpr hlong)
      · exact absurd ((hdue g hgrow).2 hkind) (Nat.not_lt.mpr hlong)
    rw [execMark_placed hserve hparse hstate hgap hcut htake hfind hcarry hfree,
      State.markCut_none (hfind := (State.findTake_taken ..).trans hfound) (hdue := by
        rw [State.room_taken, State.markPlaced, State.room_setRoom_same]
        exact hnot),
      State.answer_taken, State.settle_noRush]
    · rfl
    · exact fun h => (State.rushCount_congr (State.takes_answered ..)).trans (State.rushCount_markPlaced h)

end Sys2Proof.Machine
end

section
/-! The carry list when it is full (R45), and gaps reported (R18, R43, R48). -/

namespace Sys2Proof.Machine

theorem removeFirst_append {p : Mark → Bool} {y : Mark} {after : List Mark} (hy : p y = true) :
    ∀ {before : List Mark}, (∀ z ∈ before, p z = false) → removeFirst p (before ++ y :: after) = before ++ after
  | [], _ => if_pos hy
  | z :: before, h => by
    have hz := h z List.mem_cons_self
    rw [List.cons_append, removeFirst, hz, if_neg Bool.false_ne_true, removeFirst_append hy fun w hw => h w (List.mem_cons_of_mem _ hw),
      List.cons_append]

section Carry

variable {s : State} {r : RoomId} {take : Nat} {m y : Mark} {before after : List Mark}

theorem State.loseMarks_one : s.loseMarks r take 1 =
    (s.setRoom r { s.room r with lostMarks := min ((s.room r).lostMarks + 1) 65535 }).raise (.markLost take (some r) 1) := by
  simp [State.loseMarks, State.modRoom, satAdd, Config.max16]

/-- The mark `y` of a full carry list that a mark displaces: the oldest that is not a CUT mark, or the oldest of CUT marks alone. -/
def displaces (m y : Mark) (before after : List Mark) : Prop :=
  y.kind ≠ .cut ∧ (∀ z ∈ before, z.kind = .cut) ∨ m.kind = .cut ∧ before = [] ∧ ∀ z ∈ before ++ y :: after, z.kind = .cut

theorem State.carry_displaced (hfull : 8 ≤ (s.room r).carry.length) (hlist : (s.room r).carry = before ++ y :: after)
    (hold : displaces m y before after) : s.carry r take m =
      (s.setRoom r { s.room r with
        carry := before ++ after ++ [m]
        lostMarks := min ((s.room r).lostMarks + 1) 65535 }).raise (.markLost take (some r) 1) := by
  refine (if_neg (Nat.not_lt.mpr hfull)).trans ?_
  obtain ⟨hy, hbefore⟩ | ⟨hm, rfl, hall⟩ := hold
  · rw [if_pos (by rw [hlist]; simp [hy]), hlist, removeFirst_append (by simpa using hy) fun z hz => by simp [hbefore z hz],
      State.loseMarks_one]
    simp [State.modRoom]
  · rw [if_neg (by rw [hlist]; simpa using hall), if_pos hm, hlist, State.loseMarks_one]
    simp [State.modRoom]

theorem State.carry_lost (hfull : 8 ≤ (s.room r).carry.length) (hall : ∀ z ∈ (s.room r).carry, z.kind = .cut) (hm : m.kind ≠ .cut) :
    s.carry r take m = s.loseMarks r take 1 := by
  refine (if_neg (Nat.not_lt.mpr hfull)).trans ?_
  rw [if_neg (by simpa using hall), if_neg hm]

end Carry

section Gaps

variable {s : State} {r : RoomId} {t : Take}

theorem State.placeGapMarks_placed (h : 0 < s.freeMarks) (take : Nat) (y : GapType) (first n : Nat) :
    s.placeGapMarks r take y first [n] = s.placeMark r take ⟨.gap, first, n, some y⟩ := if_pos h

theorem State.placeGapMarks_lost (h : s.freeMarks = 0) (take : Nat) (y : GapType) (first n : Nat) :
    s.placeGapMarks r take y first [n] = s.loseMarks r take 1 := if_neg (by omega)

theorem State.reportFilledRun_of_some {take : Nat} {run : FilledRun} (htake : (s.room r).take = some take)
    (hrun : (s.room r).filledRun = some run) :
    s.reportFilledRun r = (s.setRoom r { s.room r with filledRun := none }).reportGap r take .filled run.first run.count := by
  unfold State.reportFilledRun
  rw [htake, hrun]
  rfl

theorem State.leaveDropping_eq (hfind : s.findTake t.id = some t) (htake : (s.room r).take = some t.id) :
    s.leaveDropping r =
      if (s.room r).dropped = 0 then s.setRoom r { s.room r with dropping := none, dropped := 0 }
      else (s.setRoom r { s.room r with dropping := none, dropped := 0 }).reportGap r t.id .lost t.length (s.room r).dropped := by
  unfold State.leaveDropping
  simp only [htake, State.findTake_setRoom, hfind, Nat.pos_iff_ne_zero, ne_eq, ite_not]

end Gaps

theorem gapCodes_eq (n : Nat) : gapCodes n = List.replicate ((n - 1) / 65535) 65535 ++ [n - (n - 1) / 65535 * 65535] := rfl

theorem sum_gapCodes (n : Nat) : (gapCodes n).sum = n := by
  have := Nat.div_mul_le_self (n - 1) 65535
  rw [gapCodes_eq, List.sum_append, List.sum_replicate_nat, List.sum_singleton]
  omega

theorem mem_gapCodes {n c : Nat} (h : 1 ≤ n) (hc : c ∈ gapCodes n) : 1 ≤ c ∧ c ≤ 65535 := by
  have hlow := Nat.div_mul_le_self (n - 1) 65535
  have hhigh := Nat.lt_div_mul_add (a := n - 1) (b := 65535) (by omega)
  rw [gapCodes_eq] at hc
  obtain h | h := List.mem_append.mp hc
  · rw [List.eq_of_mem_replicate h]
    omega
  · rw [List.mem_singleton.mp h]
    omega

theorem mem_dropLast_gapCodes {n c : Nat} (hc : c ∈ (gapCodes n).dropLast) : c = 65535 := by
  rw [gapCodes_eq, List.dropLast_concat] at hc
  exact List.eq_of_mem_replicate hc

end Sys2Proof.Machine
end

section
/-! A cut of the growing segment (R11) and the notices of it (R106). -/

namespace Sys2Proof.Machine

/-! ### The stations told -/

section Told

variable {s : State} {x : SegRef} {last b : Nat} {k : StationId}

@[simp] theorem State.setStation_station (s : State) (k : StationId) : s.setStation k (s.station k) = s := by
  simp [State.setStation, State.station]

theorem State.notify_eq (s : State) (l : LinkId) (kind : Nat) (body : List Byte) :
    ∃ y, s.notify l kind body = s.setLink l y := by
  unfold State.notify State.send
  dsimp only
  split
  · exact ⟨_, rfl⟩
  · exact ⟨s.link l, (State.setLink_link s l).symm⟩

/-- Telling a station changes its record and its link alone. -/
theorem State.tellClosed_eq (s : State) (x : SegRef) (last : Nat) (bound : Option Nat) (k : StationId) :
    ∃ st y, State.tellClosed x last bound s k = (s.setStation k st).setLink (.station k) y := by
  have hsame : (s.setStation k (s.station k)).setLink (.station k) (s.link (.station k)) = s := by
    rw [State.setStation_station]
    exact State.setLink_link s _
  unfold State.tellClosed
  dsimp only
  split
  · obtain ⟨y, e⟩ := State.notify_eq (s.setStation k _) (.station k) noticeKind _
    exact ⟨_, y, e⟩
  · split
    · split
      · obtain ⟨y, e⟩ := State.notify_eq (s.setStation k _) (.station k) noticeKind _
        exact ⟨_, y, e⟩
      · exact ⟨_, _, hsame.symm⟩
    · exact ⟨_, _, hsame.symm⟩

theorem State.tellClosed_current (h : (s.station k).current = some x) : State.tellClosed x last (some b) s k =
    (s.setStation k { s.station k with cursor := min (s.station k).cursor b, stop := (s.station k).stop.map fun m => min m b }).notify
      (.station k) noticeKind (segmentClosedBody x .current last (min (s.station k).cursor b)) := if_pos h

theorem State.tellClosed_shadow {sh : Shadow} (h : (s.station k).current ≠ some x) (hsh : (s.station k).shadow = some sh)
    (hseg : sh.seg = x) : State.tellClosed x last (some b) s k =
      (s.setStation k { s.station k with shadow := some { sh with cursor := min sh.cursor b } }).notify
        (.station k) noticeKind (segmentClosedBody x .shadow last (min sh.cursor b)) := by
  unfold State.tellClosed
  dsimp only
  rw [if_neg h]
  split
  · rename_i sh' e
    cases hsh.symm.trans e
    exact if_pos hseg
  · rename_i e
    cases hsh.symm.trans e

theorem State.tellClosed_other {bound : Option Nat} (h : (s.station k).current ≠ some x)
    (hsh : ∀ sh, (s.station k).shadow = some sh → sh.seg ≠ x) : State.tellClosed x last bound s k = s := by
  unfold State.tellClosed
  dsimp only
  rw [if_neg h]
  split
  · rename_i sh e
    exact if_neg (hsh sh e)
  · rfl

/-- The state before and after notices to some stations: these stations' records and links apart, they are the same. -/
structure State.ToldApart (p : StationId → Prop) (s u : State) : Prop where
  takes : u.takes = s.takes
  counter : u.enqueueCounter = s.enqueueCounter
  room : ∀ r, u.room r = s.room r
  alerts : u.alerts = s.alerts
  station : ∀ k, ¬ p k → u.station k = s.station k
  link : ∀ k, ¬ p k → u.link (.station k) = s.link (.station k)

theorem State.tellClosed_apart (s : State) (x : SegRef) (last : Nat) (bound : Option Nat) (k : StationId) :
    s.ToldApart (· = k) (State.tellClosed x last bound s k) := by
  obtain ⟨st, y, e⟩ := State.tellClosed_eq s x last bound k
  rw [e]
  exact ⟨by simp, by simp, by simp, by simp, fun j hj => by simp [State.station_setStation_ne _ (Ne.symm hj)],
    fun j hj => State.link_setLink_ne _ (fun h => hj (LinkId.station.inj h).symm) y⟩

theorem State.foldl_tellClosed_apart (x : SegRef) (last : Nat) (bound : Option Nat) :
    ∀ (l : List StationId) (s : State), s.ToldApart (· ∈ l) (l.foldl (State.tellClosed x last bound) s)
  | [], _ => ⟨rfl, rfl, fun _ => rfl, rfl, fun _ _ => rfl, fun _ _ => rfl⟩
  | k :: l, s => by
    have hone := s.tellClosed_apart x last bound k
    have hrest := State.foldl_tellClosed_apart x last bound l (State.tellClosed x last bound s k)
    refine ⟨hrest.takes.trans hone.takes, hrest.counter.trans hone.counter, fun r => (hrest.room r).trans (hone.room r),
      hrest.alerts.trans hone.alerts, fun j hj => ?_, fun j hj => ?_⟩
    all_goals rw [List.mem_cons, not_or] at hj
    · exact (hrest.station j hj.2).trans (hone.station j hj.1)
    · exact (hrest.link j hj.2).trans (hone.link j hj.1)

theorem State.tellAllClosed_apart (s : State) (x : SegRef) (last : Nat) (bound : Option Nat) :
    s.ToldApart (fun _ => True) (s.tellAllClosed x last bound) := by
  have h := State.foldl_tellClosed_apart x last bound allStations s
  exact ⟨h.takes, h.counter, h.room, h.alerts, fun _ hk => absurd trivial hk, fun _ hk => absurd trivial hk⟩

/-- Each station sees its own notice alone. -/
theorem State.tellAllClosed_station (s : State) (x : SegRef) (last : Nat) (bound : Option Nat) (k : StationId) :
    ∃ v : State, v.station k = s.station k ∧ v.link (.station k) = s.link (.station k) ∧
      (s.tellAllClosed x last bound).station k = (State.tellClosed x last bound v k).station k ∧
      (s.tellAllClosed x last bound).link (.station k) = (State.tellClosed x last bound v k).link (.station k) := by
  obtain ⟨front, back, hsplit⟩ := List.append_of_mem (List.mem_finRange k)
  have hnodup : (front ++ k :: back).Nodup := hsplit ▸ List.nodup_finRange 8
  obtain ⟨hfront, hback⟩ : k ∉ front ∧ k ∉ back := by
    rw [List.nodup_append, List.nodup_cons] at hnodup
    exact ⟨fun h => hnodup.2.2 k h k List.mem_cons_self rfl, hnodup.2.1.1⟩
  have h1 := State.foldl_tellClosed_apart x last bound front s
  have h2 := State.foldl_tellClosed_apart x last bound back
    (State.tellClosed x last bound (front.foldl (State.tellClosed x last bound) s) k)
  have hall : s.tellAllClosed x last bound = back.foldl (State.tellClosed x last bound)
      (State.tellClosed x last bound (front.foldl (State.tellClosed x last bound) s) k) := by
    rw [State.tellAllClosed, show allStations = front ++ k :: back from hsplit, List.foldl_append, List.foldl_cons]
  rw [hall]
  exact ⟨_, h1.station k hfront, h1.link k hfront, h2.station k hback, h2.link k hback⟩

end Told

end Sys2Proof.Machine
end

section
/-! A cut of the growing segment: what becomes of the take, the room and the stations (R11). -/

namespace Sys2Proof.Machine

/-! ### The segments of the take -/

/-- The take with its growing segment, of index `i`, closed before a block, and the next segment begun there. -/
def Take.split (t : Take) (i b : Nat) : Take :=
  { t with
    segments := (t.modSegment i fun x => { x with last := some (b - 1) }).segments ++ [newSegment (i + 1) b]
    cutDeferred := false }

/-- The take with a segment QUEUED in band 1. -/
def Take.queuedAt (t : Take) (i n : Nat) : Take :=
  t.modSegment i fun g => { g with work := some .queued, band := 1, sequence := n }

section Segments

variable {t : Take} {g : Segment} {b : Nat}

theorem Take.segment_of_mem (hg : g ∈ t.segments) (hone : ∀ h ∈ t.segments, h.index = g.index → h = g) :
    t.segment g.index = some g := by
  have hsome : (t.segment g.index).isSome := List.find?_isSome.mpr ⟨g, hg, by simp⟩
  obtain ⟨y, hy⟩ := Option.isSome_iff_exists.mp hsome
  have hindex := List.find?_some (p := fun h : Segment => h.index == g.index) hy
  rw [hy, hone y (List.mem_of_find?_eq_some hy) (beq_iff_eq.mp hindex)]

theorem Take.segment_split_old (hseg : t.segment g.index = some g) :
    (t.split g.index b).segment g.index = some { g with last := some (b - 1) } := by
  have h := Take.segment_modSegment_same t g.index (f := fun x => { x with last := some (b - 1) }) fun _ => rfl
  rw [hseg] at h
  have h' : ((t.modSegment g.index fun x => { x with last := some (b - 1) }).segments.find? fun y => y.index == g.index) =
      some { g with last := some (b - 1) } := h
  rw [Take.segment, Take.split, List.find?_append, h']
  rfl

theorem Take.segment_split_new (habove : ∀ h ∈ t.segments, h.index ≤ g.index) :
    (t.split g.index b).segment (g.index + 1) = some (newSegment (g.index + 1) b) := by
  have h : ((t.modSegment g.index fun x => { x with last := some (b - 1) }).segments.find? fun y => y.index == g.index + 1) =
      none := by
    rw [List.find?_eq_none]
    intro y hy
    obtain ⟨z, hz, rfl⟩ := List.mem_map.mp hy
    have := habove z hz
    by_cases e : z.index = g.index
    · simp [e]
    · simp only [e, if_false, beq_iff_eq]
      omega
  rw [Take.segment, Take.split, List.find?_append, h]
  simp [newSegment]

theorem Take.segment_queuedAt_same (i n : Nat) :
    (t.queuedAt i n).segment i = (t.segment i).map fun g => { g with work := some .queued, band := 1, sequence := n } :=
  Take.segment_modSegment_same t i fun _ => rfl

theorem Take.segment_queuedAt_ne {i j : Nat} (h : j ≠ i) (n : Nat) : (t.queuedAt i n).segment j = t.segment j :=
  Take.segment_modSegment_ne t h fun _ => rfl

end Segments

/-! ### What handing a segment over and carrying a mark change -/

section Steps

variable {s : State} {x : SegRef} {r : RoomId} {m : Mark} {take : Nat}

theorem State.findTake_handOver (h : s.enqueueCounter < 4294967295) (x : SegRef) :
    (s.handOver x).findTake x.take = (s.findTake x.take).map (Take.queuedAt · x.index s.enqueueCounter) := by
  rw [State.handOver, State.enqueue_of_lt h]
  exact State.findTake_modTake_same (f := (Take.queuedAt · x.index s.enqueueCounter)) s x.take fun _ => rfl

theorem State.handOver_counter (h : s.enqueueCounter < 4294967295) : (s.handOver x).enqueueCounter = s.enqueueCounter + 1 := by
  rw [State.handOver, State.enqueue_of_lt h]

@[simp] theorem State.room_handOver (q : RoomId) : (s.handOver x).room q = s.room q := by
  rw [State.handOver, State.enqueue_eq]
  rfl

@[simp] theorem State.station_handOver (k : StationId) : (s.handOver x).station k = s.station k := by
  rw [State.handOver, State.enqueue_eq]
  rfl

@[simp] theorem State.link_handOver (l : LinkId) : (s.handOver x).link l = s.link l := State.link_enqueue ..

@[simp] theorem State.alerts_handOver : (s.handOver x).alerts = s.alerts := by
  rw [State.handOver, State.enqueue_eq]

/-- A mark carried changes the room's carry list and count, and the alerts. -/
theorem State.carry_eq (s : State) (r : RoomId) (take : Nat) (m : Mark) : ∃ list lost alerts overflow next,
    s.carry r take m = { s.setRoom r { s.room r with carry := list, lostMarks := lost } with
      alerts := alerts, alertOverflow := overflow, nextAlert := next } := by
  have hlose : ∀ list, ∃ lost alerts overflow next,
      (s.setRoom r { s.room r with carry := list }).loseMarks r take 1 =
        { s.setRoom r { s.room r with carry := list, lostMarks := lost } with
          alerts := alerts, alertOverflow := overflow, nextAlert := next } := by
    intro list
    rw [State.loseMarks_one, State.setRoom_setRoom, State.room_setRoom_same, State.raise]
    split <;> exact ⟨_, _, _, _, rfl⟩
  unfold State.carry
  dsimp only
  split
  · exact ⟨_, _, _, _, _, rfl⟩
  · split
    · exact ⟨_, hlose _⟩
    · split
      · exact ⟨_, hlose _⟩
      · have h := hlose (s.room r).carry
        rw [show (s.setRoom r { s.room r with carry := (s.room r).carry }) = s from s.setRoom_room r] at h
        exact ⟨_, h⟩

end Steps

/-! ### The cut -/

/-- The table and the room of a cut, before the segments are handed over. -/
def State.cutPlaced (s : State) (t : Take) (g : Segment) (b : Nat) : State :=
  (s.modTake t.id (Take.split · g.index b)).placeMark t.room t.id ⟨.cut, b, g.index + 1, none⟩

/-- A segment handed over where a condition holds. -/
def State.handIf (s : State) (p : Prop) [Decidable p] (x : SegRef) : State := if p then s.handOver x else s

/-- The segments of a cut handed over: the old one that had no work state, and the new one in class RUSH. -/
def State.cutHanded (s : State) (t : Take) (g : Segment) : State :=
  (s.handIf (g.work = none) ⟨t.id, g.index⟩).handIf (t.cls = .rush) ⟨t.id, g.index + 1⟩

/-- The take with a segment QUEUED where a condition holds. -/
def Take.queuedIf (t : Take) (p : Prop) [Decidable p] (i n : Nat) : Take := if p then t.queuedAt i n else t

/-- The take after a cut: split, its mark placed, its segments handed over with the counter at `n`. -/
def Take.cut (t : Take) (g : Segment) (b n : Nat) : Take :=
  Take.queuedIf (Take.queuedIf { t.split g.index b with marks := insertMark ⟨.cut, b, g.index + 1, none⟩ t.marks }
    (g.work = none) g.index n) (t.cls = .rush) (g.index + 1) (if g.work = none then n + 1 else n)

section HandIf

variable {s : State} {p : Prop} [Decidable p] {x : SegRef}

theorem State.findTake_handIf {v : Take} (hfind : s.findTake x.take = some v) (h : s.enqueueCounter < 4294967295) :
    (s.handIf p x).findTake x.take = some (v.queuedIf p x.index s.enqueueCounter) := by
  unfold State.handIf Take.queuedIf
  split
  · rw [State.findTake_handOver h, hfind]
    rfl
  · exact hfind

theorem State.handIf_counter (h : s.enqueueCounter < 4294967295) :
    (s.handIf p x).enqueueCounter = if p then s.enqueueCounter + 1 else s.enqueueCounter := by
  unfold State.handIf
  split
  · exact State.handOver_counter h
  · rfl

@[simp] theorem State.room_handIf (q : RoomId) : (s.handIf p x).room q = s.room q := by
  unfold State.handIf
  split <;> simp

@[simp] theorem State.station_handIf (k : StationId) : (s.handIf p x).station k = s.station k := by
  unfold State.handIf
  split <;> simp

@[simp] theorem State.link_handIf (l : LinkId) : (s.handIf p x).link l = s.link l := by
  unfold State.handIf
  split <;> simp

@[simp] theorem State.alerts_handIf : (s.handIf p x).alerts = s.alerts := by
  unfold State.handIf
  split <;> simp

variable {t : Take} {i n : Nat}

theorem Take.segment_queuedIf_same {g : Segment} (hg : t.segment i = some g) : (t.queuedIf p i n).segment i =
    some (if p then { g with work := some .queued, band := 1, sequence := n } else g) := by
  unfold Take.queuedIf
  split
  · rw [Take.segment_queuedAt_same, hg]
    rfl
  · exact hg

theorem Take.segment_queuedIf_ne {j : Nat} (h : j ≠ i) : (t.queuedIf p i n).segment j = t.segment j := by
  unfold Take.queuedIf
  split
  · exact Take.segment_queuedAt_ne h n
  · rfl

/-- A segment queued leaves all but the segments. -/
theorem Take.queuedIf_eq : ∃ segs, t.queuedIf p i n = { t with segments := segs } := by
  unfold Take.queuedIf
  split <;> exact ⟨_, rfl⟩

end HandIf

section Cut

variable {s : State} {t : Take} {g : Segment} {b : Nat}

theorem State.modTake_split (s : State) (n : Nat) (g : Segment) (b : Nat) :
    ((s.modTake n fun t => { t.modSegment g.index (fun x => { x with last := some (b - 1) }) with cutDeferred := false }).modTake n
      fun t => { t with segments := t.segments ++ [newSegment (g.index + 1) b] }) = s.modTake n (Take.split · g.index b) :=
  State.modTake_modTake (hf := fun _ => rfl) ..

theorem State.makeCut_eq (s : State) (t : Take) (g : Segment) (b : Nat) :
    s.makeCut t g b = ((s.cutPlaced t g b).cutHanded t g).tellAllClosed ⟨t.id, g.index⟩ (b - 1) (some b) := by
  rw [State.makeCut, State.cutHanded, State.cutPlaced]
  dsimp only
  rw [State.modTake_split]
  cases g.work <;> rfl

theorem State.cutAt_eq (hfind : s.findTake t.id = some t) (hgrow : t.growing = some g) (hsegs : 0 < s.freeSegments)
    (hmarks : 0 < s.freeMarks) :
    s.cutAt t.id b = ((s.cutPlaced t g b).cutHanded t g).tellAllClosed ⟨t.id, g.index⟩ (b - 1) (some b) := by
  have hnot : ¬ (s.freeSegments = 0 ∨ s.freeMarks = 0) := by omega
  unfold State.cutAt
  rw [hfind]
  dsimp only
  rw [hgrow]
  dsimp only
  rw [if_neg hnot, State.makeCut_eq]

theorem State.cutPlaced_eq (s : State) (t : Take) (g : Segment) (b : Nat) : ∃ list lost alerts overflow next,
    s.cutPlaced t g b =
      { ((s.modTake t.id (Take.split · g.index b)).modTake t.id fun y =>
          { y with marks := insertMark ⟨.cut, b, g.index + 1, none⟩ y.marks }).setRoom t.room
          { s.room t.room with carry := list, lostMarks := lost } with
        alerts := alerts, alertOverflow := overflow, nextAlert := next } :=
  State.carry_eq ..

theorem State.findTake_cutPlaced (hfind : s.findTake t.id = some t) (b : Nat) : (s.cutPlaced t g b).findTake t.id =
    some { t.split g.index b with marks := insertMark ⟨.cut, b, g.index + 1, none⟩ t.marks } := by
  obtain ⟨_, _, _, _, _, e⟩ := s.cutPlaced_eq t g b
  rw [e]
  have h1 := State.findTake_modTake_same (f := (Take.split · g.index b)) s t.id fun _ => rfl
  have h2 := State.findTake_modTake_same (f := fun y => { y with marks := insertMark ⟨.cut, b, g.index + 1, none⟩ y.marks })
    (s.modTake t.id (Take.split · g.index b)) t.id fun _ => rfl
  rw [h1, hfind] at h2
  exact h2

/-- The take and the counter after a cut. -/
theorem State.findTake_cutHanded (hfind : s.findTake t.id = some t) (hcount : s.enqueueCounter < 4294967294) (b : Nat) :
    ((s.cutPlaced t g b).cutHanded t g).findTake t.id = some (t.cut g b s.enqueueCounter) ∧
      ((s.cutPlaced t g b).cutHanded t g).enqueueCounter =
        (if t.cls = .rush then (if g.work = none then s.enqueueCounter + 1 else s.enqueueCounter) + 1
          else if g.work = none then s.enqueueCounter + 1 else s.enqueueCounter) := by
  have hfound := State.findTake_cutPlaced (g := g) hfind b
  have hcounter : (s.cutPlaced t g b).enqueueCounter = s.enqueueCounter := by
    obtain ⟨_, _, _, _, _, e⟩ := s.cutPlaced_eq t g b
    rw [e]
    rfl
  have hold := State.findTake_handIf (p := g.work = none) (x := ⟨t.id, g.index⟩) hfound (by omega)
  have hafter := State.handIf_counter (s := s.cutPlaced t g b) (p := g.work = none) (x := ⟨t.id, g.index⟩) (by omega)
  rw [hcounter] at hold hafter
  have hlt : (if g.work = none then s.enqueueCounter + 1 else s.enqueueCounter) < 4294967295 := by split <;> omega
  have hnew := State.findTake_handIf (p := t.cls = .rush) (x := ⟨t.id, g.index + 1⟩) hold (by rwa [hafter])
  rw [hafter] at hnew
  exact ⟨hnew, by rw [State.cutHanded, State.handIf_counter (by rwa [hafter]), hafter]⟩

theorem Take.cut_eq (t : Take) (g : Segment) (b n : Nat) : ∃ segs, t.cut g b n =
    { t with segments := segs, cutDeferred := false, marks := insertMark ⟨.cut, b, g.index + 1, none⟩ t.marks } := by
  obtain ⟨segs, e⟩ := Take.queuedIf_eq (t := { t.split g.index b with marks := insertMark ⟨.cut, b, g.index + 1, none⟩ t.marks })
    (p := g.work = none) (i := g.index) (n := n)
  rw [Take.cut, e]
  exact Take.queuedIf_eq

theorem Take.segment_cut_old (hseg : t.segment g.index = some g) (b n : Nat) : (t.cut g b n).segment g.index =
    some (if g.work = none then { g with last := some (b - 1), work := some .queued, band := 1, sequence := n }
      else { g with last := some (b - 1) }) := by
  have h : Take.segment { t.split g.index b with marks := insertMark ⟨.cut, b, g.index + 1, none⟩ t.marks } g.index =
      some { g with last := some (b - 1) } := Take.segment_split_old hseg
  rw [Take.cut, Take.segment_queuedIf_ne (Nat.ne_of_lt (Nat.lt_succ_self _)), Take.segment_queuedIf_same h]

theorem Take.segment_cut_new (habove : ∀ h ∈ t.segments, h.index ≤ g.index) (b n : Nat) : (t.cut g b n).segment (g.index + 1) =
    some (if t.cls = .rush then
        ⟨g.index + 1, b, none, some .queued, 1, if g.work = none then n + 1 else n, none, none, 0⟩
      else ⟨g.index + 1, b, none, none, 1, 0, none, none, 0⟩) := by
  have h : Take.segment { t.split g.index b with marks := insertMark ⟨.cut, b, g.index + 1, none⟩ t.marks } (g.index + 1) =
      some (newSegment (g.index + 1) b) := Take.segment_split_new habove
  rw [Take.cut, Take.segment_queuedIf_same (g := newSegment (g.index + 1) b)]
  · rfl
  · rw [Take.segment_queuedIf_ne (Nat.succ_ne_self _), h]

/-- The state after a cut, but for the stations and their links. -/
theorem State.cutAt_apart (hfind : s.findTake t.id = some t) (hgrow : t.growing = some g) (hsegs : 0 < s.freeSegments)
    (hmarks : 0 < s.freeMarks) :
    State.ToldApart (fun _ => True) ((s.cutPlaced t g b).cutHanded t g) (s.cutAt t.id b) := by
  rw [State.cutAt_eq hfind hgrow hsegs hmarks]
  exact State.tellAllClosed_apart ..

/-- A cut is made, is deferred, or changes nothing. -/
theorem State.cutAt_cases (s : State) (n b : Nat) : s.cutAt n b = s ∨
    (∃ a, s.cutAt n b = (s.modTake n fun y => { y with cutDeferred := true }).raise a) ∨
    ∃ t g, State.ToldApart (fun _ => True) ((s.cutPlaced t g b).cutHanded t g) (s.cutAt n b) := by
  unfold State.cutAt
  split
  · exact .inl rfl
  · rename_i t hfind
    cases State.findTake_id hfind
    split
    · exact .inl rfl
    · rename_i g hgrow
      split
      · split
        · exact .inl rfl
        · exact .inr (.inl ⟨_, rfl⟩)
      · rename_i hfree
        have h := State.cutAt_apart (b := b) hfind hgrow (by omega) (by omega)
        unfold State.cutAt at h
        rw [hfind] at h
        dsimp only at h
        rw [hgrow] at h
        dsimp only at h
        rw [if_neg hfree] at h
        exact .inr (.inr ⟨t, g, h⟩)

/-- A cut changes of a room the carry list and the count of marks lost alone. -/
theorem State.room_cutAt (s : State) (n b : Nat) (q : RoomId) :
    ∃ list lost, (s.cutAt n b).room q = { s.room q with carry := list, lostMarks := lost } := by
  have hsame : ∃ list lost, s.room q = { s.room q with carry := list, lostMarks := lost } := ⟨_, _, rfl⟩
  obtain e | ⟨a, e⟩ | ⟨t, g, h⟩ := s.cutAt_cases n b
  · rwa [e]
  · rwa [e, State.room_raise]
  · obtain ⟨list, lost, _, _, _, e⟩ := s.cutPlaced_eq t g b
    rw [h.room, State.cutHanded, State.room_handIf, State.room_handIf, e]
    by_cases hq : t.room = q
    · exact ⟨list, lost, by rw [← hq]; exact State.room_setRoom_same ..⟩
    · obtain ⟨c, l, e'⟩ := hsame
      exact ⟨c, l, (State.room_setRoom_ne _ hq _).trans e'⟩

end Cut

/-! ### The takes' lengths, which no cut changes -/

/-- The takes' ids and lengths. -/
def State.lengths (s : State) : List (Nat × Nat) := s.takes.map fun t => (t.id, t.length)

theorem State.lengths_modTake (s : State) (n : Nat) {f : Take → Take} (hf : ∀ t, (f t).id = t.id ∧ (f t).length = t.length) :
    (s.modTake n f).lengths = s.lengths := by
  simp only [State.lengths, State.modTake, List.map_map]
  refine List.map_congr_left fun t _ => ?_
  obtain ⟨hid, hlen⟩ := hf t
  by_cases h : t.id = n <;> simp [h, hid, hlen]

theorem State.lengths_handIf (s : State) (p : Prop) [Decidable p] (x : SegRef) : (s.handIf p x).lengths = s.lengths := by
  have hmod : ∀ w : State, (w.modTake x.take (Take.queuedAt · x.index w.enqueueCounter)).lengths = w.lengths := fun w =>
    State.lengths_modTake w x.take fun _ => ⟨rfl, rfl⟩
  unfold State.handIf State.handOver State.enqueue
  split
  · refine (hmod (if Config.max32 ≤ s.enqueueCounter then s.renumberQueue else s)).trans ?_
    split
    · simp [State.lengths, State.renumberQueue, Function.comp_def]
    · rfl
  · rfl

theorem State.lengths_cutAt (s : State) (n b : Nat) : (s.cutAt n b).lengths = s.lengths := by
  obtain e | ⟨a, e⟩ | ⟨t, g, h⟩ := s.cutAt_cases n b
  · rw [e]
  · rw [e, State.lengths, State.takes_raise]
    exact State.lengths_modTake _ _ fun _ => ⟨rfl, rfl⟩
  · obtain ⟨_, _, _, _, _, e⟩ := s.cutPlaced_eq t g b
    rw [State.lengths, h.takes]
    refine (State.lengths_handIf ..).trans ((State.lengths_handIf ..).trans ?_)
    rw [e]
    have hmark := State.lengths_modTake (s.modTake t.id (Take.split · g.index b)) t.id
      (f := fun y => { y with marks := insertMark ⟨.cut, b, g.index + 1, none⟩ y.marks }) fun _ => ⟨rfl, rfl⟩
    exact hmark.trans (State.lengths_modTake s t.id (f := (Take.split · g.index b)) fun _ => ⟨rfl, rfl⟩)

theorem State.findTake_of_lengths {s u : State} {id : Nat} {t : Take} (h : u.lengths = s.lengths) (hfind : s.findTake id = some t) :
    ∃ v, u.findTake id = some v ∧ v.length = t.length := by
  have hpair : ∀ w : State, w.lengths.find? (fun x => x.1 == id) = (w.findTake id).map fun t => (t.id, t.length) := fun w => by
    simp [State.lengths, List.find?_map, State.findTake, Function.comp_def]
  have hu := hpair u
  rw [h, hpair s, hfind] at hu
  cases hv : u.findTake id with
  | none =>
    rw [hv] at hu
    cases hu
  | some v =>
    rw [hv] at hu
    exact ⟨v, rfl, (congrArg Prod.snd (Option.some.inj hu)).symm⟩

/-! ### A cut, whatever stands on the link of a room -/

section Apart

variable (s : State) (l : LinkId) (x : LinkRec)

theorem State.notify_setLink_ne {m : LinkId} (h : m ≠ l) (kind : Nat) (body : List Byte) :
    (s.setLink l x).notify m kind body = (s.notify m kind body).setLink l x := by
  unfold State.notify State.send
  rw [State.link_setLink_ne _ h.symm]
  dsimp only
  split
  · exact State.setLink_comm s h.symm ..
  · rfl

theorem State.tellClosed_setLink {k : StationId} (h : l ≠ .station k) (y : SegRef) (last : Nat) (bound : Option Nat) :
    State.tellClosed y last bound (s.setLink l x) k = (State.tellClosed y last bound s k).setLink l x := by
  unfold State.tellClosed
  simp only [State.station_setLink, State.setStation_setLink, State.notify_setLink_ne _ _ _ h.symm]
  (repeat' split) <;> rfl

variable (r : RoomId)

theorem State.tellAllClosed_setRoomLink (y : SegRef) (last : Nat) (bound : Option Nat) :
    (s.setLink (.room r) x).tellAllClosed y last bound = (s.tellAllClosed y last bound).setLink (.room r) x :=
  (List.foldl_hom (·.setLink (.room r) x) fun u k => State.tellClosed_setLink u (.room r) x (by simp) y last bound).symm ▸ rfl

theorem State.handIf_setLink (p : Prop) [Decidable p] (y : SegRef) : (s.setLink l x).handIf p y = (s.handIf p y).setLink l x := by
  unfold State.handIf State.handOver
  split
  · exact State.enqueue_setLink ..
  · rfl

theorem State.cutPlaced_setLink (t : Take) (g : Segment) (b : Nat) :
    (s.setLink l x).cutPlaced t g b = (s.cutPlaced t g b).setLink l x := by
  rw [State.cutPlaced, State.modTake_setLink, (gapApart_setLink t.room l x).placeMark, State.cutPlaced]

theorem State.cutAt_setRoomLink (n b : Nat) : (s.setLink (.room r) x).cutAt n b = (s.cutAt n b).setLink (.room r) x := by
  have hsegs : (s.setLink (.room r) x).freeSegments = s.freeSegments := by simp [State.freeSegments]
  have hmarks : (s.setLink (.room r) x).freeMarks = s.freeMarks := by simp [State.freeMarks]
  unfold State.cutAt
  rw [State.findTake_setLink, hsegs, hmarks]
  split
  · rfl
  · split
    · rfl
    · split
      · split
        · rfl
        · rw [State.modTake_setLink, State.raise_setLink]
      · rw [State.makeCut_eq, State.makeCut_eq, State.cutPlaced_setLink, State.cutHanded, State.handIf_setLink, State.handIf_setLink,
          State.tellAllClosed_setRoomLink, State.cutHanded]

theorem State.link_cutAt_room (n b : Nat) : (s.cutAt n b).link (.room r) = s.link (.room r) := by
  have h := State.cutAt_setRoomLink s (s.link (.room r)) r n b
  rw [State.setLink_link] at h
  rw [h, State.link_setLink_same]

@[simp] theorem State.cutAt_taken (n b kind : Nat) (tag : Byte) :
    (s.taken (.room r) kind tag).cutAt n b = (s.cutAt n b).taken (.room r) kind tag := by
  rw [State.taken, State.cutAt_setRoomLink, State.taken, State.link_cutAt_room]

end Apart

end Sys2Proof.Machine
end

section
/-! Cuts, what makes them, and gaps reported (R9 to R12, R18, R45). -/

namespace Sys2Proof.Machine

section Cut

variable {s : State} {t : Take} {g : Segment} {b : Nat}

theorem State.alerts_raise_congr {s u : State} (h : u.alerts = s.alerts) (hnext : u.nextAlert = s.nextAlert) (a : Alert) :
    (u.raise a).alerts = (s.raise a).alerts := by
  unfold State.raise
  rw [h, hnext]
  split <;> rfl

/-- The room and the alerts of a cut whose mark the carry list has room for. -/
theorem State.cutPlaced_open (h : (s.room t.room).carry.length < 8) :
    (s.cutPlaced t g b).room t.room =
        { s.room t.room with carry := (s.room t.room).carry ++ [⟨.cut, b, g.index + 1, none⟩] } ∧
      (s.cutPlaced t g b).alerts = s.alerts := by
  rw [State.cutPlaced, State.placeMark_eq (by exact h), State.markPlaced]
  exact ⟨State.room_setRoom_same .., rfl⟩

/-- The room and the alerts of a cut whose mark displaces another in the carry list. -/
theorem State.cutPlaced_full {before after : List Mark} {y : Mark} (hfull : 8 ≤ (s.room t.room).carry.length)
    (hlist : (s.room t.room).carry = before ++ y :: after) (hold : displaces ⟨.cut, b, g.index + 1, none⟩ y before after) :
    (s.cutPlaced t g b).room t.room =
        { s.room t.room with
          carry := before ++ after ++ [⟨.cut, b, g.index + 1, none⟩]
          lostMarks := min ((s.room t.room).lostMarks + 1) 65535 } ∧
      (s.cutPlaced t g b).alerts = (s.raise (.markLost t.id (some t.room) 1)).alerts := by
  rw [State.cutPlaced, State.placeMark, State.carry_displaced (by exact hfull) (by exact hlist) hold]
  exact ⟨by rw [State.room_raise, State.room_setRoom_same]; rfl, by apply State.alerts_raise_congr <;> rfl⟩

/-- A station and its link after a cut. -/
theorem State.cutAt_station (hfind : s.findTake t.id = some t) (hgrow : t.growing = some g) (hsegs : 0 < s.freeSegments)
    (hmarks : 0 < s.freeMarks) (k : StationId) :
    let u := s.cutAt t.id b
    let old : SegRef := ⟨t.id, g.index⟩
    let told := fun (slot : Slot) (cursor : Nat) =>
      { s.link (.station k) with
        txq := (s.link (.station k)).txq ++ [⟨.unsolicited, noticeKind, 0, .ok, {}, segmentClosedBody old slot (b - 1) cursor⟩] }
    ((s.station k).current = some old →
      u.station k =
          { s.station k with cursor := min (s.station k).cursor b, stop := (s.station k).stop.map fun m => min m b } ∧
        ((s.link (.station k)).up = true → u.link (.station k) = told .current (min (s.station k).cursor b))) ∧
    (∀ sh, (s.station k).current ≠ some old → (s.station k).shadow = some sh → sh.seg = old →
      u.station k = { s.station k with shadow := some { sh with cursor := min sh.cursor b } } ∧
        ((s.link (.station k)).up = true → u.link (.station k) = told .shadow (min sh.cursor b))) ∧
    ((s.station k).current ≠ some old → (∀ sh, (s.station k).shadow = some sh → sh.seg ≠ old) →
      u.station k = s.station k ∧ u.link (.station k) = s.link (.station k)) := by
  intro u old told
  obtain ⟨v, hst, hlink, hust, hulink⟩ :=
    State.tellAllClosed_station ((s.cutPlaced t g b).cutHanded t g) old (b - 1) (some b) k
  rw [← State.cutAt_eq hfind hgrow hsegs hmarks] at hust hulink
  obtain ⟨_, _, _, _, _, e⟩ := s.cutPlaced_eq t g b
  have hst' : v.station k = s.station k := by
    rw [hst, State.cutHanded, State.station_handIf, State.station_handIf, e]
    rfl
  have hlink' : v.link (.station k) = s.link (.station k) := by
    rw [hlink, State.cutHanded, State.link_handIf, State.link_handIf, e]
    rfl
  have hnotified : ∀ (w : Station) (body : List Byte),
      ((v.setStation k w).notify (.station k) noticeKind body).station k = w ∧
      ((s.link (.station k)).up = true → ((v.setStation k w).notify (.station k) noticeKind body).link (.station k) =
        { s.link (.station k) with txq := (s.link (.station k)).txq ++ [⟨.unsolicited, noticeKind, 0, .ok, {}, body⟩] }) := by
    intro w body
    obtain ⟨y, hy⟩ := State.notify_eq (v.setStation k w) (.station k) noticeKind body
    refine ⟨by rw [hy]; simp, fun hup => ?_⟩
    rw [State.notify_of_up (by rw [State.link_setStation, hlink']; exact hup), State.queued, State.link_setLink_same,
      State.link_setStation, hlink']
  rw [show u.station k = _ from hust, show u.link (.station k) = _ from hulink, ← hst']
  refine ⟨fun h => ?_, fun sh h hsh hseg => ?_, fun h hsh => ?_⟩
  · rw [State.tellClosed_current h]
    exact hnotified _ _
  · rw [State.tellClosed_shadow h hsh hseg]
    exact hnotified _ _
  · rw [State.tellClosed_other h hsh]
    exact ⟨rfl, hlink'⟩

end Cut

section Block

variable {s : State} {r : RoomId} {tag : Byte} {body bytes : List Byte} {n id : Nat} {t : Take} {g : Segment} {b : BufId}

theorem State.lengthCut_due (hfind : s.findTake id = some t) (hgrow : t.growing = some g) (hlen : t.length < 16777215)
    (hlong : secToBlocks (s.room r).active.target + secToBlocks (s.room r).active.extension ≤ t.length - g.first) :
    s.lengthCut r id = s.cutAt id t.length := by
  unfold State.lengthCut
  rw [hfind]
  dsimp only
  rw [hgrow]
  exact if_pos ⟨hlong, hlen⟩

/-- The end of a stored block that makes a cut and leaves its page open. -/
theorem State.endStoredBlock_cut (hfind : s.findTake id = some t) (hslot : (s.room r).slot + 1 ≠ t.channels.bpp)
    (hgrow : t.growing = some g) (hlen : t.length + 1 < 16777215)
    (hlong : secToBlocks (s.room r).active.target + secToBlocks (s.room r).active.extension ≤ t.length + 1 - g.first) :
    s.endStoredBlock r id b =
      (((s.modTake id Take.longer).cutAt id (t.length + 1)).setRoom r
        { ((s.modTake id Take.longer).cutAt id (t.length + 1)).room r with slot := (s.room r).slot + 1 }).blockBoundary r := by
  have hcut := State.lengthCut_due (s := s.modTake id Take.longer) (r := r) (State.findTake_longer hfind) hgrow hlen hlong
  obtain ⟨_, _, hroom⟩ := State.room_cutAt (s.modTake id Take.longer) id (t.length + 1) r
  have hkept : (((s.modTake id Take.longer).cutAt id (t.length + 1)).room r).slot = (s.room r).slot := by
    rw [hroom]
    rfl
  unfold State.endStoredBlock
  rw [hfind]
  dsimp only
  rw [show (s.modTake id fun t => { t with length := t.length + 1 }) = s.modTake id Take.longer from rfl, hcut,
    show t.longer.length = t.length + 1 from rfl, hkept]
  exact congrArg (fun u : State => u.blockBoundary r) (if_neg hslot)

theorem State.unitAsked_held (hunit : opensChain t (s.room r).slot = true →
    s.chainUnit t.id (chainIndex (takePage t.channels t.length)) ≠ none) : s.unitAsked r t = s := by
  unfold State.unitAsked
  split
  · rename_i hopens
    rw [State.ensureUnit_held (hunit hopens)]
  · rfl

/-- A block that a recording room stores, its unit being there, and that makes a cut at the take's length. -/
theorem execBlock_cut (hserve : s.canServe (.room r)) (hparse : parseBlock (s.room r).active.channels body = some (n, bytes))
    (hstate : (s.room r).state = .recording) (hcall : (s.room r).active.timing = .pushed ∨ (s.room r).call = some ⟨n, true⟩)
    (hdropping : (s.room r).dropping = none) (htake : (s.room r).take = some id) (hfind : s.findTake id = some t)
    (hfilling : (s.room r).filling = some b) (hrun : (s.room r).filledRun = none)
    (hunit : opensChain t (s.room r).slot = true → s.chainUnit t.id (chainIndex (takePage t.channels t.length)) ≠ none)
    (hslot : (s.room r).slot + 1 ≠ t.channels.bpp) (hlen : t.length + 1 < 16777215) (hgrow : t.growing = some g)
    (hlong : secToBlocks (s.room r).active.target + secToBlocks (s.room r).active.extension ≤ t.length + 1 - g.first) :
    exec (.block r tag body) s = .next (State.settle s
      (((((((s.blockWritten r n t b bytes).modTake id Take.longer).cutAt id (t.length + 1)).setRoom r
        { (((s.blockWritten r n t b bytes).modTake id Take.longer).cutAt id (t.length + 1)).room r with
          slot := (s.room r).slot + 1 }).blockBoundary r).answered (.room r) 0x11 tag .ok {}
        (toLE 4 t.length ++ toLE 2 (captureBytes (s.room r).active t.channels.count 0 bytes).2)))) := by
  have hid := State.findTake_id hfind
  have hbefore := State.room_blockWritten (n := n) (t := t) (b := b) (bytes := bytes) htake
  rw [State.reportFilledRun_of_none hrun] at hbefore
  have hwritten : (s.blockWritten r n t b bytes).findTake id = some t := by
    rw [State.findTake, State.takes_blockWritten, State.reportFilledRun_of_none hrun]
    exact hfind
  rw [execBlock_written hserve hparse hstate hcall hdropping htake hfind hfilling fun h => .inl (hunit h), hid]
  have hkept : ((s.blockWritten r n t b bytes).room r).slot = (s.room r).slot ∧
      ((s.blockWritten r n t b bytes).room r).active = (s.room r).active := by
    rw [hbefore]
    exact ⟨rfl, rfl⟩
  generalize s.blockWritten r n t b bytes = w at hwritten hkept ⊢
  obtain ⟨hkeptSlot, hkeptActive⟩ := hkept
  rw [State.endStoredBlock_cut (s := w.taken (.room r) 0x11 tag) ((State.findTake_taken ..).trans hwritten)
    (by rwa [State.room_taken, hkeptSlot]) hgrow hlen (by rwa [State.room_taken, hkeptActive])]
  simp only [State.room_taken, State.modTake_taken, State.cutAt_taken, State.setRoom_taken, State.blockBoundary_taken, hkeptSlot,
    State.answer_taken]
  obtain ⟨v, hv, hvlen⟩ := State.findTake_of_lengths (State.lengths_cutAt (w.modTake id Take.longer) id (t.length + 1))
    (State.findTake_longer hwritten)
  rw [State.limitStop_eq (t := v), if_neg]
  · rw [hvlen]
    exact Nat.ne_of_lt hlen
  · rw [State.findTake, State.takes_answered, State.takes_blockBoundary]
    exact hv

end Block

/-- Settles O54: the cut is made in `makeCut`'s steps, and what makes one comes to `cutAt`; gaps come to `placeGapMarks`. -/
theorem cuts : Obligations.Cuts := by
  refine ⟨fun s t g b hfind hgrow => ⟨fun hlack hdeferred => ?deferred, fun hlack hdeferred => ?defers,
    fun hsegs hmarks habove hone hcount => ?made⟩, ?mark, ?block, ?gaps,
    fun n hn => ⟨sum_gapCodes n, fun c hc => mem_gapCodes hn hc, fun c hc => mem_dropLast_gapCodes hc⟩⟩
  case deferred =>
    unfold State.cutAt
    rw [hfind]
    dsimp only
    rw [hgrow]
    dsimp only
    rw [if_pos hlack, if_pos hdeferred]
  case defers =>
    unfold State.cutAt
    rw [hfind]
    dsimp only
    rw [hgrow]
    dsimp only
    rw [if_pos hlack, if_neg (by simp [hdeferred])]
  case made =>
    intro old n bound cs m told u
    have hapart := State.cutAt_apart (b := b) hfind hgrow hsegs hmarks
    obtain ⟨hcut, hcounter⟩ := State.findTake_cutHanded (g := g) hfind hcount b
    have hfound : u.findTake t.id = some (t.cut g b s.enqueueCounter) := by
      rw [← hcut, State.findTake, hapart.takes, State.findTake]
    have hseg := Take.segment_of_mem (List.mem_of_getLast? hgrow) hone
    obtain ⟨segs, e⟩ := t.cut_eq g b s.enqueueCounter
    have hroom : u.room t.room = (s.cutPlaced t g b).room t.room := by
      rw [show u.room t.room = _ from hapart.room _, State.cutHanded, State.room_handIf, State.room_handIf]
    have halerts : u.alerts = (s.cutPlaced t g b).alerts := by
      rw [show u.alerts = _ from hapart.alerts, State.cutHanded, State.alerts_handIf, State.alerts_handIf]
    refine ⟨?old, ?new, hapart.counter.trans hcounter, ⟨_, hfound, by rw [e]; exact ⟨rfl, rfl, rfl, rfl⟩⟩, fun hroomy => ?open_,
      fun before y after hfull hlist hold => ?full, fun k => State.cutAt_station hfind hgrow hsegs hmarks k⟩
    case old =>
      rw [State.segment, hfound]
      exact Take.segment_cut_old hseg b _
    case new =>
      rw [State.segment, hfound]
      exact Take.segment_cut_new habove b _
    case open_ =>
      rw [hroom, halerts]
      exact State.cutPlaced_open hroomy
    case full =>
      rw [hroom, halerts]
      exact State.cutPlaced_full hfull hlist (hold.imp_right fun ⟨hfirst, hall⟩ => ⟨rfl, hfirst, by rwa [← hlist]⟩)
  case mark =>
    intro r tag body a id t g s x back clamped m u hserve hparse hstate htake hfind hgrow hcarry hfree hdue
    have hfound := State.findTake_markPlaced (r := r) (m := m) hfind
    have hkind : a.kind ≠ .gap ∧ a.kind ≠ .cut := by
      obtain ⟨h, -⟩ | ⟨h, -⟩ := hdue <;> simp [h]
    have hcut := State.markCut_eq (s := (s.markPlaced r id m).taken (.room r) 0x12 tag) (r := r) a.kind m.block
      ((State.findTake_taken ..).trans hfound) hgrow (by
        rw [State.room_taken, State.markPlaced, State.room_setRoom_same]
        exact hdue)
    have hmoved : ((s.markPlaced r id m).taken (.room r) 0x12 tag).markCut r id a.kind m.block =
        (if g.first < m.block then u.cutAt id m.block else u).taken (.room r) 0x12 tag := by
      rw [hcut, State.cutAt_taken]
      split <;> rfl
    rw [execMark_placed hserve hparse hstate hkind.1 hkind.2 htake hfind hcarry hfree]
    refine congrArg (fun y => Host.Outcome.next (State.settle s y)) ?_
    rw [← State.answer_taken, ← hmoved]
    rfl
  case block =>
    intro r tag body bytes n id t g b s x hserve hparse hstate hcall hdropping htake hfind hfilling hrun hunit hslot hlen hgrow hlong
      out y v w z
    have hid := State.findTake_id hfind
    have hw : s.blockWritten r n t b bytes = w := by
      rw [State.blockWritten_eq htake, State.blockScaled, State.reportFilledRun_of_none hrun, State.unitAsked_held hunit, hid]
      rfl
    rw [execBlock_cut hserve hparse hstate hcall hdropping htake hfind hfilling hrun hunit hslot hlen hgrow hlong, hw]
    rfl
  case gaps =>
    refine fun s r t hfind => ⟨fun run htake hrun => State.reportFilledRun_of_some htake hrun,
      fun htake => State.leaveDropping_eq hfind htake, fun y first n => ⟨?_, fun c rest => ?_, fun hfree hroomy => ?_,
        fun before z after hfree hfull hlist hz hbefore => ?_, fun hfree hfull hall => ?_, fun hfree => ?_⟩⟩
    · cases y <;> rfl
    · cases y <;> rfl
    · rw [State.placeGapMarks_placed hfree, State.placeMark_eq hroomy]
      rfl
    · rw [State.placeGapMarks_placed hfree, State.placeMark,
        State.carry_displaced (by exact hfull) (by exact hlist) (.inl ⟨hz, hbefore⟩)]
      rfl
    · rw [State.placeGapMarks_placed hfree, State.placeMark, State.carry_lost (by exact hfull) (by exact hall) (by simp),
        State.loseMarks_one]
      rfl
    · rw [State.placeGapMarks_lost hfree, State.loseMarks_one]

end Sys2Proof.Machine
end

section
/-! CADENCE_EXPIRY: the call's period ends, and the next call is sent (R39, R41). -/

namespace Sys2Proof.Machine

/-- The message of a call. -/
def callMessage (counter length : Nat) : Message := ⟨.unsolicited, 0x1F, 0, .ok, {}, toLE 4 counter ++ toLE 4 length⟩

/-- A room with its next call open. -/
def Room.called (counter : Nat) (x : Room) : Room :=
  { x with call := some ⟨counter, true⟩, callCounter := (counter + 1) % 4294967296 }

/-- A state in which a room that was recording a take still records it, now of a length `n`, its call counter as it was. -/
structure State.StillRuns (s u : State) (r : RoomId) (id n : Nat) : Prop where
  state : (u.room r).state = .recording
  take : (u.room r).take = some id
  counter : (u.room r).callCounter = (s.room r).callCounter
  found : ∃ v, u.findTake id = some v ∧ v.length = n
  up : (u.link (.room r)).up = true

section Period

variable {s u : State} {r : RoomId} {id n : Nat}

theorem State.StillRuns.blockBoundary (h : s.StillRuns u r id n) : s.StillRuns (u.blockBoundary r) r id n := by
  have hroom := u.room_blockBoundary r
  obtain ⟨v, hv, hlen⟩ := h.found
  exact ⟨by rw [hroom]; exact h.state, by rw [hroom]; exact h.take, by rw [hroom]; exact h.counter,
    ⟨v, by rw [State.findTake_blockBoundary]; exact hv, hlen⟩, by rw [State.link_blockBoundary]; exact h.up⟩

theorem State.StillRuns.sendCall (h : s.StillRuns u r id n) :
    u.sendCall r = (u.modRoom r (Room.called (s.room r).callCounter)).queued (.room r) (callMessage (s.room r).callCounter n) := by
  obtain ⟨v, hv, hlen⟩ := h.found
  have hlength : (((u.room r).take.bind u.findTake).map Take.length).getD 0 = n := by simp [h.take, hv, hlen]
  unfold State.sendCall
  dsimp only
  rw [hlength, h.counter, State.notify_of_up (by simpa using h.up)]
  rfl

theorem execCadence_still (hcadence : (s.room r).cadence = false) : exec (.cadenceExpiry r) s = .next s :=
  if_neg fun h => Bool.false_ne_true (hcadence.symm.trans h.1)

/-- CADENCE_EXPIRY of a running timer after which the room still records. -/
theorem execCadence_calls (hcadence : (s.room r).cadence = true) (hstate : (s.room r).state = .recording) (hperiod : s.endPeriod r = u)
    (h : s.StillRuns u r id n) : exec (.cadenceExpiry r) s = .next (State.settle s
      ((u.modRoom r (Room.called (s.room r).callCounter)).queued (.room r) (callMessage (s.room r).callCounter n))) := by
  refine (if_pos ⟨hcadence, hstate⟩).trans ?_
  rw [hperiod, if_pos h.state, h.sendCall]

/-- CADENCE_EXPIRY of a running timer with which the take has ended. -/
theorem execCadence_ends (hcadence : (s.room r).cadence = true) (hstate : (s.room r).state = .recording) (hperiod : s.endPeriod r = u)
    (h : (u.room r).state = .idle) : exec (.cadenceExpiry r) s = .next (State.settle s u) := by
  refine (if_pos ⟨hcadence, hstate⟩).trans ?_
  rw [hperiod, if_neg (by simp [h])]

/-- The take of a room that is stopped idles the room. -/
theorem State.state_stopRoom (htake : (s.room r).take = some id) : ((s.stopRoom r .idle).room r).state = .idle := by
  unfold State.stopRoom
  rw [htake]
  dsimp only
  rw [if_pos rfl, State.room_blockBoundary, State.modRoom_eq, State.room_setRoom_same]

theorem rushCount_called (h : u.rushCount = 0) (m : Message) (c : Nat) :
    ((u.modRoom r (Room.called c)).queued (.room r) m).rushCount = 0 :=
  (State.rushCount_congr (by simp [State.queued, State.modRoom_eq])).trans h

end Period

/-! ### The end of the period (R41, R42) -/

section Ends

variable {s : State} {r : RoomId} {id n : Nat} {t : Take} {b : BufId}

theorem State.endPeriod_answered (h : ∀ c, (s.room r).call = some c → c.isOpen = false) : s.endPeriod r = s := by
  refine if_neg ?_
  cases hc : (s.room r).call with
  | none => simp
  | some c => simp [h c hc]

theorem State.endPeriod_dropping {c : DropCause} (hcall : (s.room r).call = some ⟨n, true⟩) (hdropping : (s.room r).dropping = some c) :
    s.endPeriod r = (s.setRoom r { s.room r with dropped := min ((s.room r).dropped + 1) 4294967295 }).blockBoundary r := by
  refine (if_pos (by rw [hcall]; rfl)).trans ?_
  rw [hdropping]
  rfl

theorem State.endPeriod_silence (hcall : (s.room r).call = some ⟨n, true⟩) (hdropping : (s.room r).dropping = none)
    (htake : (s.room r).take = some id) (hfind : s.findTake id = some t) (hfilling : (s.room r).filling = some b) :
    s.endPeriod r = s.storeSilence r t b := by
  refine (if_pos (by rw [hcall]; rfl)).trans ?_
  rw [hdropping, htake, Option.bind_some, hfind, hfilling]

theorem State.storeSilence_noUnit (hopens : opensChain t (s.room r).slot = true)
    (hchain : s.chainUnit t.id (chainIndex (takePage t.channels t.length)) = none) (hlen : s.freeList.length ≤ 2) :
    s.storeSilence r t b = (((s.reportFilledRun r).setRoom r
      { (s.reportFilledRun r).room r with dropping := some .noUnit, dropped := 1 }).joinUnitWait (unitWaitOf r t)).blockBoundary r := by
  rw [State.storeSilence, State.unitForBlock_short hopens hchain hlen]
  rfl

/-- The state with a silence block written and the filled run grown by it. -/
def State.silenceWritten (s : State) (r : RoomId) (t : Take) (b : BufId) : State :=
  ((s.unitAsked r t).writeBuf b ((s.room r).slot * t.channels.count * 512) (List.replicate (t.channels.count * 512) 0)).setRoom r
    { s.room r with filledRun := some (extendRun (s.room r).filledRun t.length) }

theorem State.storeSilence_written (hunit : opensChain t (s.room r).slot = true →
      s.chainUnit t.id (chainIndex (takePage t.channels t.length)) ≠ none ∨ 2 < s.freeList.length ∧ s.writeSeq < 4294967295) :
    s.storeSilence r t b = ((s.silenceWritten r t b).endStoredBlock r t.id b).limitStop r t.id := by
  rw [State.storeSilence, State.unitForBlock_eq hunit]
  simp only [State.room_unitAsked]
  rfl

theorem State.room_silenceWritten : (s.silenceWritten r t b).room r =
    { s.room r with filledRun := some (extendRun (s.room r).filledRun t.length) } := State.room_setRoom_same ..

theorem State.takes_silenceWritten : (s.silenceWritten r t b).takes = s.takes := State.takes_unitAsked

theorem State.findTake_silenceWritten (hfind : s.findTake id = some t) : (s.silenceWritten r t b).findTake id = some t := by
  rw [State.findTake, State.takes_silenceWritten]
  exact hfind

end Ends

end Sys2Proof.Machine
end

section
/-! CADENCE_EXPIRY with a silence block stored (R42). -/

namespace Sys2Proof.Machine

section Limit

variable {s w : State} {r : RoomId} {id n : Nat}

/-- The period's end with a block stored: the take is stopped at its greatest length, and a call follows otherwise. -/
theorem execCadence_stored (hcadence : (s.room r).cadence = true) (hstate : (s.room r).state = .recording)
    (hperiod : s.endPeriod r = w.limitStop r id) (h : s.StillRuns w r id n) :
    exec (.cadenceExpiry r) s = .next (State.settle s (if n = 16777215 then w.stopRoom r .idle
      else (w.modRoom r (Room.called (s.room r).callCounter)).queued (.room r) (callMessage (s.room r).callCounter n))) := by
  obtain ⟨v, hv, hlen⟩ := h.found
  rw [State.limitStop_eq hv, hlen] at hperiod
  split at hperiod
  · rename_i hlimit
    rw [execCadence_ends hcadence hstate hperiod (State.state_stopRoom h.take), if_pos hlimit]
  · rename_i hlimit
    rw [execCadence_calls hcadence hstate hperiod h, if_neg hlimit]

/-- The same, where a queue without RUSH entries stays so. -/
theorem execCadence_stored_quiet (hcadence : (s.room r).cadence = true) (hstate : (s.room r).state = .recording)
    (hperiod : s.endPeriod r = w.limitStop r id) (h : s.StillRuns w r id n) (hrush : s.rushCount = 0 → w.rushCount = 0) :
    exec (.cadenceExpiry r) s = .next (if n = 16777215 then State.settle s (w.stopRoom r .idle)
      else ((w.modRoom r (Room.called (s.room r).callCounter)).queued (.room r) (callMessage (s.room r).callCounter n)).issue) := by
  rw [execCadence_stored hcadence hstate hperiod h]
  refine congrArg Host.Outcome.next ?_
  split
  · rfl
  · exact State.settle_noRush fun hs => rushCount_called (hrush hs) _ _

end Limit

section Silence

variable {s : State} {r : RoomId} {id : Nat} {t : Take} {b : BufId} {g : Segment}

theorem State.silenceWritten_kept : (s.silenceWritten r t b).flashOps = s.flashOps ∧
    (s.silenceWritten r t b).requestNumber = s.requestNumber ∧ (s.silenceWritten r t b).dropWait = s.dropWait ∧
    (s.silenceWritten r t b).buffers = s.buffers ∧ ∀ l, (s.silenceWritten r t b).link l = s.link l := by
  obtain ⟨_, _, _, _, _, _, e⟩ := s.unitAsked_eq r t
  unfold State.silenceWritten
  rw [e]
  exact ⟨rfl, rfl, rfl, rfl, fun l => by cases l <;> rfl⟩

/-- The room and the take of a state reached from that of a silence block written. -/
theorem State.stillRuns_of (hstate : (s.room r).state = .recording) (htake : (s.room r).take = some id)
    (hup : (s.link (.room r)).up = true) {w : State} {n : Nat}
    (hroom : (w.room r).state = (s.room r).state ∧ (w.room r).take = (s.room r).take ∧ (w.room r).callCounter = (s.room r).callCounter)
    (hfound : ∃ v, w.findTake id = some v ∧ v.length = n) (hlink : w.link (.room r) = s.link (.room r)) : s.StillRuns w r id n :=
  ⟨hroom.1.trans hstate, hroom.2.1.trans htake, hroom.2.2, hfound, by rw [hlink]; exact hup⟩

/-- A silence block that leaves its page open and makes no cut. -/
theorem State.silence_open (hstate : (s.room r).state = .recording) (htake : (s.room r).take = some id)
    (hup : (s.link (.room r)).up = true) (hfind : s.findTake id = some t) (hslot : (s.room r).slot + 1 ≠ t.channels.bpp)
    (hshort : t.longer.short (s.room r).active) :
    let w := ((((s.unitAsked r t).writeBuf b ((s.room r).slot * t.channels.count * 512)
      (List.replicate (t.channels.count * 512) 0)).modTake id Take.longer).setRoom r
      { s.room r with
        filledRun := some (extendRun (s.room r).filledRun t.length)
        slot := (s.room r).slot + 1 }).blockBoundary r
    (s.silenceWritten r t b).endStoredBlock r id b = w ∧ s.StillRuns w r id (t.length + 1) ∧ (s.rushCount = 0 → w.rushCount = 0) := by
  intro w
  have hfound := State.findTake_silenceWritten (r := r) (b := b) hfind
  refine ⟨?_, .blockBoundary (State.stillRuns_of hstate htake hup ?_ ⟨t.longer, ?_, rfl⟩ ?_), fun h => ?_⟩
  · rw [State.endStoredBlock_open hfound (by rw [State.room_silenceWritten]; exact hslot)
      (by rw [State.room_silenceWritten]; exact hshort), State.room_silenceWritten, State.silenceWritten]
    simp [w]
  · simp
  · exact State.findTake_longer (by simpa using hfind)
  · exact (State.silenceWritten_kept (t := t) (b := b)).2.2.2.2 (.room r)
  · refine (State.rushCount_congr (State.takes_blockBoundary ..)).trans (rushCount_longer (id := id) ?_)
    exact (State.rushCount_congr State.takes_unitAsked).trans h

/-- A silence block that makes a cut and leaves its page open. -/
theorem State.silence_cut (hstate : (s.room r).state = .recording) (htake : (s.room r).take = some id)
    (hup : (s.link (.room r)).up = true) (hfind : s.findTake id = some t) (hslot : (s.room r).slot + 1 ≠ t.channels.bpp)
    (hlen : t.length + 1 < 16777215) (hgrow : t.growing = some g)
    (hlong : secToBlocks (s.room r).active.target + secToBlocks (s.room r).active.extension ≤ t.length + 1 - g.first) :
    let z := ((s.silenceWritten r t b).modTake id Take.longer).cutAt id (t.length + 1)
    let w := (z.setRoom r { z.room r with slot := (s.room r).slot + 1 }).blockBoundary r
    (s.silenceWritten r t b).endStoredBlock r id b = w ∧ s.StillRuns w r id (t.length + 1) := by
  intro z w
  have hfound := State.findTake_silenceWritten (r := r) (b := b) hfind
  obtain ⟨list, lost, hroom⟩ := State.room_cutAt ((s.silenceWritten r t b).modTake id Take.longer) id (t.length + 1) r
  obtain ⟨v, hv, hvlen⟩ := State.findTake_of_lengths
    (State.lengths_cutAt ((s.silenceWritten r t b).modTake id Take.longer) id (t.length + 1)) (State.findTake_longer hfound)
  rw [State.room_modTake, State.room_silenceWritten] at hroom
  refine ⟨?_, .blockBoundary (State.stillRuns_of hstate htake hup ?_ ⟨v, hv, hvlen⟩ ?_)⟩
  · rw [State.endStoredBlock_cut hfound (by rw [State.room_silenceWritten]; exact hslot) hgrow hlen
      (by rw [State.room_silenceWritten]; exact hlong), State.room_silenceWritten]
  · rw [State.room_setRoom_same, hroom]
    exact ⟨rfl, rfl, rfl⟩
  · rw [State.link_setRoom, State.link_cutAt_room, State.link_modTake]
    exact State.silenceWritten_kept.2.2.2.2 _

/-- The state with the page that a silence block fills handed off, before the next buffer. -/
theorem State.silence_handed (hid : t.id = id) : (s.silenceWritten r t b).pageFilled r id t b =
    ((((((s.unitAsked r t).writeBuf b ((s.room r).slot * t.channels.count * 512)
      (List.replicate (t.channels.count * 512) 0)).writeBuf b 2048
      (handedSpare t (takePage t.channels t.length) t.channels.bpp (s.room r).carry)).modTake id Take.longer).setBuffer b
      { s.buffer b with state := .programWait, owner := .programQueue }).setRoom r
      { s.room r with
        filledRun := some (extendRun (s.room r).filledRun t.length)
        carry := if takePage t.channels t.length = 0 then (s.room r).carry else (s.room r).carry.drop 2
        filling := none
        slot := 0 }).opRequested 2 (.captureProgram b id (takePage t.channels t.length)) := by
  have hbuf : (s.unitAsked r t).buffer b = s.buffer b := by
    obtain ⟨_, _, _, _, _, _, e⟩ := s.unitAsked_eq r t
    rw [e]
    rfl
  simp [State.pageFilled, State.handedOff, State.silenceWritten, hbuf, Take.longer, handedSpare, hid]
  rfl

end Silence

end Sys2Proof.Machine
end

section
/-! CADENCE_EXPIRY with a silence block that fills its page (R42, R46). -/

namespace Sys2Proof.Machine

section Kept

variable (s : State) (r : RoomId) (t : Take)

theorem State.link_unitAsked (l : LinkId) : (s.unitAsked r t).link l = s.link l := by
  obtain ⟨_, _, _, _, _, _, e⟩ := s.unitAsked_eq r t
  rw [e]
  cases l <;> rfl

theorem State.dropWait_unitAsked : (s.unitAsked r t).dropWait = s.dropWait := by
  obtain ⟨_, _, _, _, _, _, e⟩ := s.unitAsked_eq r t
  rw [e]

@[simp] theorem State.link_opRequested (cls : Nat) (kind : OpKind) (l : LinkId) : (s.opRequested cls kind).link l = s.link l := by
  cases l <;> rfl

@[simp] theorem State.dropWait_opRequested (cls : Nat) (kind : OpKind) : (s.opRequested cls kind).dropWait = s.dropWait := rfl

end Kept

section Full

variable {s : State} {r : RoomId} {id : Nat} {t : Take} {b : BufId} {h : State}

/-- What the page handed off with a silence block leaves for the next buffer. -/
theorem State.silence_page (htake : (s.room r).take = some id) (hfind : s.findTake id = some t) (hbuf : (s.buffer b).state = .filling)
    (hpage : (s.silenceWritten r t b).pageFilled r id t b = h) :
    (h.room r).take = some id ∧ (h.room r).state = (s.room r).state ∧ (h.room r).callCounter = (s.room r).callCounter ∧
      (h.room r).filling = none ∧ (h.room r).slot = 0 ∧ h.findTake id = some t.longer ∧ h.firstFree = s.firstFree ∧
      h.dropWait = s.dropWait ∧ h.link (.room r) = s.link (.room r) ∧ (s.rushCount = 0 → h.rushCount = 0) := by
  have hid := State.findTake_id hfind
  have hfound := State.findTake_silenceWritten (r := r) (b := b) hfind
  obtain ⟨-, -, -, hbuffers, -⟩ := State.silenceWritten_kept (s := s) (r := r) (t := t) (b := b)
  have hbuf' : ((s.silenceWritten r t b).buffer b).state = .filling := by
    rw [State.buffer, hbuffers]
    exact hbuf
  have hfree : h.firstFree = s.firstFree := by
    rw [← hpage, State.firstFree_pageFilled hbuf', State.firstFree_congr hbuffers]
  have hfoundLonger : h.findTake id = some t.longer := by rw [← hpage, State.findTake_pageFilled hfound]
  have hrush : s.rushCount = 0 → h.rushCount = 0 := by
    intro hs
    rw [← hpage]
    have htakes : ((s.silenceWritten r t b).pageFilled r id t b).takes = ((s.silenceWritten r t b).modTake id Take.longer).takes := rfl
    exact (State.rushCount_congr htakes).trans
      (rushCount_longer ((State.rushCount_congr State.takes_silenceWritten).trans hs))
  rw [State.silence_handed hid] at hpage
  have hlink' : h.link (.room r) = s.link (.room r) := by
    rw [← hpage]
    simp [State.link_unitAsked]
  have hdrop' : h.dropWait = s.dropWait := by
    rw [← hpage]
    simp [State.dropWait_unitAsked]
  have hroom := congrArg (fun u : State => u.room r) hpage
  simp only [State.room_opRequested, State.room_setRoom_same] at hroom
  rw [← hroom]
  exact ⟨htake, rfl, rfl, rfl, rfl, hfoundLonger, hfree, hdrop', hlink', hrush⟩

/-- The page is full and a buffer is FREE for the next one. -/
theorem State.silence_full_free {b' : BufId} (hstate : (s.room r).state = .recording) (htake : (s.room r).take = some id)
    (hup : (s.link (.room r)).up = true) (hfind : s.findTake id = some t) (hbuf : (s.buffer b).state = .filling)
    (hslot : (s.room r).slot + 1 = t.channels.bpp) (hshort : t.longer.short (s.room r).active) (hnum : s.requestNumber ≤ 4294967295)
    (hpage : (s.silenceWritten r t b).pageFilled r id t b = h) (hfree : s.firstFree = some b') :
    let w := ((h.setBuffer b' ⟨.filling, some (id, takePage t.channels (t.length + 1)), 0, .room r, none⟩).setRoom r
      { h.room r with filling := some b' }).blockBoundary r
    (s.silenceWritten r t b).endStoredBlock r id b = w ∧ s.StillRuns w r id (t.length + 1) ∧ (s.rushCount = 0 → w.rushCount = 0) := by
  intro w
  have hid := State.findTake_id hfind
  obtain ⟨htake', hstate', hcounter, hfilling, hslot', hfound, hfree', hdrop, hlink, hrush⟩ := State.silence_page htake hfind hbuf hpage
  refine ⟨?_, .blockBoundary (State.stillRuns_of hstate htake hup ?_ ⟨t.longer, by simpa using hfound, rfl⟩ ?_), fun hs => ?_⟩
  · rw [State.endStoredBlock_full (State.findTake_silenceWritten hfind) (by rw [State.room_silenceWritten]; exact hslot)
      (by rw [State.room_silenceWritten]; exact hshort) (by rw [State.silenceWritten_kept.2.1]; exact hnum), hpage,
      State.obtainFilling_free htake' hfound (hfree'.trans hfree)]
    simp [w, fillingBuffer, Take.longer, hid, ← hslot']
  · rw [State.room_setRoom_same]
    exact ⟨hstate', htake'.trans htake.symm, hcounter⟩
  · rw [State.link_setRoom, State.link_setBuffer]
    exact hlink
  · exact (State.rushCount_congr (State.takes_blockBoundary ..)).trans (hrush hs)

/-- The page is full and no buffer is FREE: the filled run is reported and DROPPING begins. -/
theorem State.silence_full_none (hstate : (s.room r).state = .recording) (htake : (s.room r).take = some id)
    (hup : (s.link (.room r)).up = true) (hfind : s.findTake id = some t) (hbuf : (s.buffer b).state = .filling)
    (hslot : (s.room r).slot + 1 = t.channels.bpp) (hshort : t.longer.short (s.room r).active) (hnum : s.requestNumber ≤ 4294967295)
    (hpage : (s.silenceWritten r t b).pageFilled r id t b = h) (hfree : s.firstFree = none) :
    let v := h.reportFilledRun r
    let w := (({ v.setRoom r { v.room r with dropping := some .noBuffer, dropped := 0 } with dropWait := s.dropWait ++ [r] } :
      State)).blockBoundary r
    (s.silenceWritten r t b).endStoredBlock r id b = w ∧ s.StillRuns w r id (t.length + 1) ∧ (s.rushCount = 0 → w.rushCount = 0) := by
  intro v w
  obtain ⟨htake', hstate', hcounter, hfilling, hslot', hfound, hfree', hdrop, hlink, hrush⟩ := State.silence_page htake hfind hbuf hpage
  obtain ⟨⟨_, _, _, _, _, hshape⟩, ⟨carry, lost, hroom⟩, hgap, hgapRush⟩ := State.reportFilledRun_reported htake'
  obtain ⟨marks, lostBlocks, hfoundv⟩ := hgap id _ hfound
  rw [State.runEnded, State.room_setRoom_same] at hroom
  have hvdrop : v.dropWait = s.dropWait := by
    rw [show v = _ from hshape]
    exact hdrop
  have hv : (v.setRoom r { v.room r with dropping := some .noBuffer, dropped := 0 }).joinDropWait r =
      { v.setRoom r { v.room r with dropping := some .noBuffer, dropped := 0 } with dropWait := s.dropWait ++ [r] } := by
    rw [State.joinDropWait, State.setRoom_dropWait, hvdrop]
  have hsame : ({ v.room r with dropping := some .noBuffer, dropped := 0, filling := none, slot := 0 } : Room) =
      { v.room r with dropping := some .noBuffer, dropped := 0 } := by
    rw [show v.room r = _ from hroom, ← hfilling, ← hslot']
  refine ⟨?_, .blockBoundary (State.stillRuns_of hstate htake hup ?_ ⟨_, hfoundv, rfl⟩ ?_), fun hs => ?_⟩
  · rw [State.endStoredBlock_full (State.findTake_silenceWritten hfind) (by rw [State.room_silenceWritten]; exact hslot)
      (by rw [State.room_silenceWritten]; exact hshort) (by rw [State.silenceWritten_kept.2.1]; exact hnum), hpage,
      State.obtainFilling_waits htake' hfound (hfree'.trans hfree), hsame, hv]
  · rw [← hv, State.room_joinDropWait, State.room_setRoom_same, show v.room r = _ from hroom]
    exact ⟨hstate', htake'.trans htake.symm, hcounter⟩
  · rw [← hv, State.link_joinDropWait, State.link_setRoom, State.link_reportFilledRun]
    exact hlink
  · exact (State.rushCount_congr (State.takes_blockBoundary ..)).trans (hgapRush (hrush hs))

end Full

end Sys2Proof.Machine
end

section
/-! CADENCE_EXPIRY (R39, R41, R42). -/

namespace Sys2Proof.Machine

/-- Settles O52: the period ends with nothing, a block dropped, no unit, or a silence block stored; then the next call is sent. -/
theorem cadenceExpiry : Obligations.CadenceExpiry := by
  refine fun r s => ⟨fun hcadence => execCadence_still hcadence, fun id t hcadence hstate hup htake hfind =>
    ⟨fun hcall => ?answered, fun n c hcall hdropping => ?dropped, fun n b hcall hdropping hfilling hopens hchain hlen => ?noUnit,
      fun n b hcall hdropping hfilling => ?silence⟩⟩
  case answered =>
    rw [execCadence_calls hcadence hstate (State.endPeriod_answered hcall)
      (State.stillRuns_of hstate htake hup ⟨rfl, rfl, rfl⟩ ⟨t, hfind, rfl⟩ rfl)]
    exact congrArg Host.Outcome.next (State.settle_noRush fun h => rushCount_called h _ _)
  case dropped =>
    rw [execCadence_calls hcadence hstate (State.endPeriod_dropping hcall hdropping)
      (.blockBoundary (State.stillRuns_of hstate htake hup (by simp) ⟨t, hfind, rfl⟩ (State.link_setRoom ..)))]
    exact congrArg Host.Outcome.next (State.settle_noRush fun h =>
      rushCount_called ((State.rushCount_congr (State.takes_blockBoundary (s.setRoom r _) r)).trans h) _ _)
  case noUnit =>
    have hid := State.findTake_id hfind
    obtain ⟨⟨_, _, _, _, _, hshape⟩, ⟨carry, lost, hroom⟩, hgap, -⟩ := State.reportFilledRun_reported htake
    obtain ⟨marks, lostBlocks, hfound⟩ := hgap id t hfind
    rw [State.runEnded, State.room_setRoom_same] at hroom
    have hwait : (s.reportFilledRun r).unitWait = s.unitWait := by
      rw [hshape]
      rfl
    rw [execCadence_calls hcadence hstate ((State.endPeriod_silence hcall hdropping htake hfind hfilling).trans
        (State.storeSilence_noUnit hopens hchain hlen))
      (.blockBoundary (State.stillRuns_of hstate htake hup (by simp [hroom]) ⟨_, hfound, rfl⟩ (by simp)))]
    rw [← hwait, unitWaitOf, hid]
    rfl
  case silence =>
    intro tp hunit hmax q silent longer run noCut ends
    have hid := State.findTake_id hfind
    have hunit' : opensChain t (s.room r).slot = true →
        s.chainUnit t.id (chainIndex (takePage t.channels t.length)) ≠ none ∨ 2 < s.freeList.length ∧ s.writeSeq < 4294967295 := hunit
    have hperiod := (State.endPeriod_silence hcall hdropping htake hfind hfilling).trans (State.storeSilence_written hunit')
    rw [hid] at hperiod
    have hq : s.unitAsked r t = q := by
      rw [State.unitAsked]
    have hrun : some (extendRun (s.room r).filledRun t.length) = run := by
      dsimp only [run]
      cases (s.room r).filledRun <;> rfl
    have hwritten : s.silenceWritten r t b = silent.setRoom r { s.room r with filledRun := run } := by
      rw [State.silenceWritten, hq, hrun]
    refine ⟨fun hslot hshort => ?open_, fun g hslot hlen hgrow hlong => ?cut, fun hslot hshort hbuf hnum => ?full⟩
    case open_ =>
      obtain ⟨hend, hruns, hrush⟩ := State.silence_open (b := b) hstate htake hup hfind hslot hshort
      rw [hend] at hperiod
      rw [execCadence_stored_quiet hcadence hstate hperiod hruns hrush, hq, hrun]
      rfl
    case cut =>
      obtain ⟨hend, hruns⟩ := State.silence_cut (b := b) hstate htake hup hfind hslot hlen hgrow hlong
      rw [hend] at hperiod
      rw [execCadence_stored hcadence hstate hperiod hruns, if_neg (Nat.ne_of_lt hlen), hwritten]
      rfl
    case full =>
      intro spare h v
      have hpage : (s.silenceWritten r t b).pageFilled r id t b = h := by
        have hkept : q.flashOps = s.flashOps ∧ q.requestNumber = s.requestNumber := by
          obtain ⟨_, _, _, _, _, _, e⟩ := s.unitAsked_eq r t
          rw [← hq, e]
          exact ⟨rfl, rfl⟩
        have hspare : handedSpare t (takePage t.channels t.length) t.channels.bpp (s.room r).carry = spare := by
          rw [handedSpare, hid]
        rw [State.silence_handed hid, hq, hrun, hspare, State.opRequested]
        simp only [State.setRoom_flashOps, State.setBuffer_flashOps, State.modTake_flashOps, State.writeBuf_flashOps,
          State.setRoom_requestNumber, State.setBuffer_requestNumber, State.modTake_requestNumber, State.writeBuf_requestNumber,
          hkept]
        rfl
      clear_value h
      cases hfree : s.firstFree with
      | some b' =>
        obtain ⟨hend, hruns, hrush⟩ := State.silence_full_free hstate htake hup hfind hbuf hslot hshort hnum hpage hfree
        rw [hend] at hperiod
        rw [execCadence_stored_quiet hcadence hstate hperiod hruns hrush]
        rfl
      | none =>
        obtain ⟨hend, hruns, hrush⟩ := State.silence_full_none hstate htake hup hfind hbuf hslot hshort hnum hpage hfree
        rw [hend] at hperiod
        rw [execCadence_stored_quiet hcadence hstate hperiod hruns hrush]
        rfl

end Sys2Proof.Machine
end

section
/-! The Flash Sequencer: what is eligible and what is issued (R159 to R161). -/

namespace Sys2Proof.Machine

/-! ### The earliest of the lowest class -/

theorem firstByClass_eq_none {l : List Ready} : firstByClass l = none ↔ l = [] := by
  cases l with
  | nil => exact ⟨fun _ => rfl, fun _ => rfl⟩
  | cons x l =>
    refine ⟨fun h => ?_, fun h => by cases h⟩
    unfold firstByClass at h
    split at h
    · cases h
    · split at h <;> cases h

theorem firstByClass_spec {x : Ready} : ∀ {l : List Ready}, firstByClass l = some x →
    ∃ before after, l = before ++ x :: after ∧ (∀ y ∈ before, x.op.cls < y.op.cls) ∧ ∀ y ∈ after, x.op.cls ≤ y.op.cls
  | [], h => by cases h
  | z :: rest, h => by
    unfold firstByClass at h
    split at h
    · rename_i hnone
      cases h
      rw [firstByClass_eq_none.mp hnone]
      exact ⟨[], [], rfl, by simp, by simp⟩
    · rename_i y hy
      obtain ⟨before, after, hrest, hbefore, hafter⟩ := firstByClass_spec hy
      split at h
      · rename_i hlt
        cases h
        refine ⟨z :: before, after, by rw [hrest, List.cons_append], fun w hw => ?_, hafter⟩
        obtain rfl | hw := List.mem_cons.mp hw
        · exact hlt
        · exact hbefore w hw
      · rename_i hle
        cases h
        refine ⟨[], rest, rfl, by simp, fun w hw => ?_⟩
        have hyw : y.op.cls ≤ w.op.cls := by
          rw [hrest] at hw
          obtain hw | hw := List.mem_append.mp hw
          · exact Nat.le_of_lt (hbefore w hw)
          · obtain rfl | hw := List.mem_cons.mp hw
            · exact Nat.le_refl _
            · exact hafter w hw
        omega

/-! ### The eligible operations -/

theorem State.idleBankOf_eq_some {s : State} {u : Nat} {b : BankId} :
    s.idleBankOf u = some b ↔ s.bank b = .idle ∧ ∃ a, s.bankOf u = some (b, a) := by
  unfold State.idleBankOf
  split
  · rename_i c a h
    rw [h]
    split
    · rename_i hidle
      constructor
      · rintro ⟨⟩
        exact ⟨hidle, a, rfl⟩
      · rintro ⟨-, a', ⟨⟩⟩
        rfl
    · rename_i hidle
      constructor
      · rintro ⟨⟩
      · rintro ⟨h', a', ⟨⟩⟩
        exact absurd h' hidle
  · rename_i h
    rw [h]
    exact ⟨fun h => by simp at h, fun ⟨_, a, h⟩ => by simp at h⟩

/-- The target of an operation is not the unit `u`. -/
def State.spares (s : State) (u : Nat) (op : FlashOp) : Prop := ∀ v p, s.opTarget op.kind = some (v, p) → v ≠ u

/-- The operation of `x` is pending among `ops` with its target and idle bank, and no operation before it there, nor a unit of `seen`,
bars its unit. -/
def State.unbarred (s : State) (x : Ready) (seen : List Nat) (ops : List FlashOp) : Prop :=
  ∃ before after, ops = before ++ x.op :: after ∧ s.opTarget x.op.kind = some (x.unit, x.page) ∧ x.unit ∉ seen ∧
    s.idleBankOf x.unit = some x.bank ∧ ∀ y ∈ before, s.spares x.unit y

section Unbarred

variable {s : State} {x : Ready} {seen : List Nat} {op : FlashOp} {rest : List FlashOp} {u p : Nat}

theorem State.unbarred_cons : s.unbarred x seen (op :: rest) ↔
    (x.op = op ∧ s.opTarget op.kind = some (x.unit, x.page) ∧ x.unit ∉ seen ∧ s.idleBankOf x.unit = some x.bank) ∨
      s.spares x.unit op ∧ s.unbarred x seen rest := by
  constructor
  · rintro ⟨before, after, hops, htarget, hseen, hidle, hbefore⟩
    cases before with
    | nil =>
      obtain ⟨rfl, rfl⟩ := List.cons.inj hops
      exact .inl ⟨rfl, htarget, hseen, hidle⟩
    | cons z before =>
      obtain ⟨rfl, rfl⟩ := List.cons.inj hops
      exact .inr ⟨hbefore _ List.mem_cons_self, before, after, rfl, htarget, hseen, hidle,
        fun y hy => hbefore y (List.mem_cons_of_mem _ hy)⟩
  · rintro (⟨rfl, htarget, hseen, hidle⟩ | ⟨hspares, before, after, rfl, htarget, hseen, hidle, hbefore⟩)
    · exact ⟨[], rest, rfl, htarget, hseen, hidle, by simp⟩
    · refine ⟨op :: before, after, rfl, htarget, hseen, hidle, fun y hy => ?_⟩
      obtain rfl | hy := List.mem_cons.mp hy
      · exact hspares
      · exact hbefore y hy

theorem State.spares_of_none (h : s.opTarget op.kind = none) (v : Nat) : s.spares v op := by
  intro _ _ h'
  rw [h] at h'
  cases h'

theorem State.spares_iff (h : s.opTarget op.kind = some (u, p)) (v : Nat) : s.spares v op ↔ u ≠ v := by
  refine ⟨fun hs => hs u p h, fun hne w q h' => ?_⟩
  cases h.symm.trans h'
  exact hne

theorem State.unbarred_seen : s.unbarred x (u :: seen) rest ↔ u ≠ x.unit ∧ s.unbarred x seen rest := by
  constructor
  · rintro ⟨before, after, hops, htarget, hseen, hidle, hbefore⟩
    rw [List.mem_cons, not_or] at hseen
    exact ⟨Ne.symm hseen.1, before, after, hops, htarget, hseen.2, hidle, hbefore⟩
  · rintro ⟨hne, before, after, hops, htarget, hseen, hidle, hbefore⟩
    exact ⟨before, after, hops, htarget, by rw [List.mem_cons, not_or]; exact ⟨hne.symm, hseen⟩, hidle, hbefore⟩

end Unbarred

theorem State.mem_eligible {s : State} {x : Ready} : ∀ {ops : List FlashOp} {seen : List Nat},
    x ∈ s.eligible seen ops ↔ s.unbarred x seen ops
  | [], seen => by simp [State.eligible, State.unbarred]
  | op :: rest, seen => by
    rw [State.unbarred_cons]
    unfold State.eligible
    split
    · rename_i htarget
      rw [State.mem_eligible, htarget]
      simp [State.spares_of_none htarget]
    · rename_i u p htarget
      rw [State.spares_iff htarget, htarget]
      split
      · rename_i hseen
        rw [State.mem_eligible]
        have hseen' : u ∈ seen := by simpa using hseen
        constructor
        · intro h
          obtain ⟨_, _, _, _, hnot, _⟩ := id h
          exact .inr ⟨fun e => hnot (e ▸ hseen'), h⟩
        · rintro (⟨-, hu, hnot, -⟩ | ⟨-, h⟩)
          · cases hu
            exact absurd hseen' hnot
          · exact h
      · rename_i hseen
        have hseen' : u ∉ seen := by simpa using hseen
        split
        · rename_i b hidle
          rw [List.mem_cons, State.mem_eligible, State.unbarred_seen]
          refine or_congr_left ⟨?_, ?_⟩
          · rintro rfl
            exact ⟨rfl, rfl, hseen', hidle⟩
          · rintro ⟨rfl, hu, -, hb⟩
            cases hu
            cases hidle.symm.trans hb
            rfl
        · rename_i hidle
          rw [State.mem_eligible, State.unbarred_seen]
          refine ⟨.inr, ?_⟩
          rintro (⟨-, hu, -, hb⟩ | h)
          · cases hu
            cases hidle.symm.trans hb
          · exact h

/-- With request numbers that rise, an operation is eligible where no operation of a smaller number is on its unit. -/
theorem State.mem_eligible_of_sorted {s : State} {x : Ready} (hsorted : s.flashOps.Pairwise fun a b => a.number < b.number) :
    x ∈ s.eligible [] s.flashOps ↔
      x.op ∈ s.flashOps ∧ s.opTarget x.op.kind = some (x.unit, x.page) ∧ s.bank x.bank = .idle ∧
        (∃ a, s.bankOf x.unit = some (x.bank, a)) ∧ ∀ y ∈ s.flashOps, y.number < x.op.number → s.spares x.unit y := by
  rw [State.mem_eligible]
  constructor
  · rintro ⟨before, after, hops, htarget, -, hidle, hbefore⟩
    obtain ⟨hbank, haddr⟩ := State.idleBankOf_eq_some.mp hidle
    rw [hops, List.pairwise_append, List.pairwise_cons] at hsorted
    refine ⟨by rw [hops]; simp, htarget, hbank, haddr, fun y hy hlt => ?_⟩
    rw [hops] at hy
    obtain hy | hy := List.mem_append.mp hy
    · exact hbefore y hy
    · obtain rfl | hy := List.mem_cons.mp hy
      · exact absurd hlt (Nat.lt_irrefl _)
      · exact absurd (Nat.lt_trans hlt (hsorted.2.1.1 y hy)) (Nat.lt_irrefl _)
  · rintro ⟨hmem, htarget, hbank, haddr, hfree⟩
    obtain ⟨before, after, hops⟩ := List.append_of_mem hmem
    refine ⟨before, after, hops, htarget, List.not_mem_nil, State.idleBankOf_eq_some.mpr ⟨hbank, haddr⟩, fun y hy => ?_⟩
    rw [hops, List.pairwise_append] at hsorted
    exact hfree y (by rw [hops]; exact List.mem_append_left _ hy) (hsorted.2.2 y hy x.op List.mem_cons_self)

/-! ### Issue, until nothing is eligible -/

theorem mem_allBanks (b : BankId) : b ∈ allBanks := List.mem_finRange b

/-- The number of IDLE banks. -/
def State.idleBanks (s : State) : Nat := (allBanks.filter fun b => s.bank b == .idle).length

section Issue

variable {s : State} {x : Ready}

theorem State.bank_of_eligible (h : firstByClass (s.eligible [] s.flashOps) = some x) : s.bank x.bank = .idle := by
  obtain ⟨before, after, hl, -, -⟩ := firstByClass_spec h
  obtain ⟨_, _, _, _, _, hidle, _⟩ := State.mem_eligible.mp (show x ∈ s.eligible [] s.flashOps by rw [hl]; simp)
  exact (State.idleBankOf_eq_some.mp hidle).1

theorem State.banks_issueOp (s : State) (x : Ready) :
    (s.issueOp x).banks = (s.setBank x.bank (.busy x.op x.unit x.page s.clock)).banks := by
  unfold State.issueOp
  cases x.op.kind <;> rfl

theorem State.idleBanks_issueOp (h : s.bank x.bank = .idle) : (s.issueOp x).idleBanks < s.idleBanks := by
  have hbank : ∀ b, (s.issueOp x).bank b = if b = x.bank then .busy x.op x.unit x.page s.clock else s.bank b := by
    intro b
    rw [State.bank, State.banks_issueOp]
    split
    · rename_i e
      rw [e]
      exact State.bank_setBank_same ..
    · rename_i e
      exact State.bank_setBank_ne _ (Ne.symm e) _
  have hfewer : (allBanks.filter fun b => (s.issueOp x).bank b == .idle) =
      (allBanks.filter fun b => s.bank b == .idle).filter fun b => b != x.bank := by
    rw [List.filter_filter]
    refine List.filter_congr fun b _ => ?_
    rw [hbank]
    by_cases hb : b = x.bank <;> simp [hb]
  rw [State.idleBanks, hfewer, State.idleBanks, List.length_filter_lt_length_iff_exists]
  exact ⟨x.bank, List.mem_filter.mpr ⟨mem_allBanks _, by rw [h]; rfl⟩, by simp⟩

/-- Once every bank that was IDLE may have an operation, one issue more changes nothing. -/
theorem State.issueSome_succ : ∀ {n : Nat} {s : State}, s.idleBanks ≤ n →
    (State.issueSome n s).settled ∧ State.issueSome (n + 1) s = State.issueSome n s
  | 0, s, h => by
    have hnone : firstByClass (s.eligible [] s.flashOps) = none := by
      cases hfirst : firstByClass (s.eligible [] s.flashOps) with
      | none => rfl
      | some x => exact absurd (State.idleBanks_issueOp (State.bank_of_eligible hfirst)) (by omega)
    exact ⟨firstByClass_eq_none.mp hnone, by rw [State.issueSome.eq_2, hnone]; rfl⟩
  | n + 1, s, h => by
    cases hfirst : firstByClass (s.eligible [] s.flashOps) with
    | none =>
      have hstays : ∀ m, State.issueSome (m + 1) s = s := fun m => by rw [State.issueSome, hfirst]
      rw [hstays, hstays]
      exact ⟨firstByClass_eq_none.mp hfirst, rfl⟩
    | some x =>
      have hless := State.idleBanks_issueOp (State.bank_of_eligible hfirst)
      have hone : ∀ m, State.issueSome (m + 1) s = State.issueSome m (s.issueOp x) := fun m => by rw [State.issueSome, hfirst]
      rw [hone, hone]
      exact State.issueSome_succ (by omega)

theorem State.idleBanks_le (s : State) : s.idleBanks ≤ 4 := List.length_filter_le ..

theorem State.issue_settles (s : State) : s.issue.settled := (State.issueSome_succ s.idleBanks_le).1

theorem State.issue_first (h : firstByClass (s.eligible [] s.flashOps) = some x) : s.issue = (s.issueOp x).issue := by
  have hless := State.idleBanks_issueOp (State.bank_of_eligible h)
  have hle := s.idleBanks_le
  have hmore := (State.issueSome_succ (n := 3) (s := s.issueOp x) (by omega)).2
  rw [State.issue, State.issueSome, h]
  exact hmore.symm

end Issue

/-! ### The target of a capture page, and the operation issued -/

theorem State.opTarget_capture {s : State} {b : BufId} {take tp u p : Nat} :
    s.opTarget (.captureProgram b take tp) = some (u, p) ↔
      (∀ e ∈ s.rescues, e.take = take → e.chain ≠ tp / 64) ∧
        ∃ e, s.chainUnit take (tp / 64) = some e ∧ e.number = u ∧ tp % 64 = p := by
  have hheld : s.isHeld take (tp / 64) = true ↔ ¬ ∀ e ∈ s.rescues, e.take = take → e.chain ≠ tp / 64 := by
    simp [State.isHeld]
  have htarget : s.opTarget (.captureProgram b take tp) =
      if s.isHeld take (tp / 64) then none else (s.chainUnit take (tp / 64)).map fun u => (u.number, tp % 64) := rfl
  rw [htarget]
  by_cases h : ∀ e ∈ s.rescues, e.take = take → e.chain ≠ tp / 64
  · rw [if_neg (by rw [hheld]; exact not_not_intro h)]
    simp only [Option.map_eq_some_iff, Prod.mk.injEq]
    exact ⟨fun hu => ⟨h, hu⟩, And.right⟩
  · rw [if_pos (hheld.mpr h)]
    exact ⟨fun hu => (by cases hu), fun hu => absurd hu.1 h⟩

theorem State.issueOp_plain {s : State} {x : Ready} (h : x.op.kind.programBuf = none) : s.issueOp x =
    { s.setBank x.bank (.busy x.op x.unit x.page s.clock) with flashOps := s.flashOps.erase x.op } := by
  unfold State.issueOp
  cases hk : x.op.kind with
  | captureProgram => rw [hk] at h; cases h
  | copyProgram => rw [hk] at h; cases h
  | _ => rfl

theorem State.issueOp_capture {s : State} {x : Ready} {b : BufId} {take tp seq : Nat} {e : UnitEntry}
    (hkind : x.op.kind = .captureProgram b take tp) (hunit : s.unit x.unit = some e) (hseq : e.writeSeq = some seq) :
    s.issueOp x = ((({ s.setBank x.bank (.busy x.op x.unit x.page s.clock) with
      flashOps := s.flashOps.erase x.op } : State).writeBuf b 2055 (toLE 4 seq)).encodePage b).setBuffer b
        { s.buffer b with state := .programming } := by
  have htag : State.writeSeqTag { s.setBank x.bank (.busy x.op x.unit x.page s.clock) with flashOps := s.flashOps.erase x.op } b x.unit =
      State.writeBuf { s.setBank x.bank (.busy x.op x.unit x.page s.clock) with flashOps := s.flashOps.erase x.op } b 2055
        (toLE 4 seq) := by
    have hu : State.unit { s.setBank x.bank (.busy x.op x.unit x.page s.clock) with flashOps := s.flashOps.erase x.op } x.unit =
        some e := hunit
    rw [State.writeSeqTag, hu, Option.bind_some, hseq]
    rfl
  unfold State.issueOp
  rw [hkind]
  rw [← htag]
  rfl

/-- Settles O56: issue goes on until nothing is eligible, as each operation issued leaves fewer banks IDLE. -/
theorem operationsAreIssued : Obligations.OperationsAreIssued :=
  ⟨fun _ _ h => firstByClass_spec h,
    fun s => ⟨firstByClass_eq_none, fun _ h => State.issue_first h, State.issue_settled, s.issue_settles⟩,
    fun _ _ hsorted => State.mem_eligible_of_sorted hsorted,
    fun _ _ _ _ _ _ => State.opTarget_capture,
    fun _ _ => ⟨State.issueOp_plain, fun _ _ _ _ _ hkind hunit hseq => State.issueOp_capture hkind hunit hseq⟩⟩

end Sys2Proof.Machine
end

section
/-! The ends of flash operations, and erases (R145, R146, R162 to R164). -/

namespace Sys2Proof.Machine

/-! ### What the flash store's operations leave unchanged -/

section Store

variable (s : State) (u p : Nat)

theorem State.storePage_eq (bs : List Byte) : ∃ f, s.storePage u p bs = { s with flash := f } := by
  unfold State.storePage
  split
  · exact ⟨_, rfl⟩
  · exact ⟨s.flash, rfl⟩

theorem State.eraseUnit_eq : ∃ f, s.eraseUnit u = { s with flash := f } := by
  unfold State.eraseUnit
  split
  · exact ⟨_, rfl⟩
  · exact ⟨s.flash, rfl⟩

/-- A page whose contents are open (log entry 10). -/
theorem State.spoilPage_eq : s.spoilPage u p =
    { s.storePage u p ((List.range 2112).map (Config.freeByte s.freeUses)) with freeUses := s.freeUses + 1 } := by
  obtain ⟨f, e⟩ := s.storePage_eq u p ((List.range 2112).map (Config.freeByte s.freeUses))
  have h : s.spoilPage u p = (s.storePage u p ((List.range 2112).map (Config.freeByte s.freeUses))).useFree := rfl
  rw [h, State.useFree, e]

/-- A unit whose contents are open, after an erase that failed (log entry 10). -/
theorem State.erased_fail : s.erased u .fail =
    { s.storePage u 0 ((List.range (64 * 2112)).map (Config.freeByte s.freeUses)) with
      freeUses := s.freeUses + 1
      counters := { s.counters with eraseFailures := min (s.counters.eraseFailures + 1) 4294967295 } } := by
  obtain ⟨f, e⟩ := s.storePage_eq u 0 ((List.range (64 * 2112)).map (Config.freeByte s.freeUses))
  have h : s.erased u .fail =
      (s.storePage u 0 ((List.range (64 * 2112)).map (Config.freeByte s.freeUses))).useFree.countEraseFailure := rfl
  rw [h, State.useFree, State.countEraseFailure, e]
  rfl

theorem State.erased_eq (result : OpResult) : ∃ f free counters,
    s.erased u result = { s with flash := f, freeUses := free, counters := counters } := by
  cases result with
  | pass =>
    obtain ⟨f, e⟩ := s.eraseUnit_eq u
    exact ⟨f, _, _, e⟩
  | fail =>
    obtain ⟨f, e⟩ := s.storePage_eq u 0 ((List.range (64 * 2112)).map (Config.freeByte s.freeUses))
    exact ⟨f, _, _, by rw [State.erased_fail, e]⟩

end Store

/-! ### The completions, with the operation in progress -/

section Complete

variable {s : State} {b : BankId} {op : FlashOp} {u p at_ : Nat}

theorem State.inProgress_busy (h : s.bank b = .busy op u p at_) : s.inProgress b = some (op, u, p) := by
  rw [State.inProgress, h]

/-- The state with a bank whose operation timed out (R163). -/
def State.timedOut (s : State) (b : BankId) : State :=
  { s.setBank b .resetting with counters := { s.counters with timeouts := min (s.counters.timeouts + 1) 4294967295 } }

theorem execProgramComplete_eq (h : s.bank b = .busy op u p at_) (hop : op.kind.isProgram = true) (result : OpResult) :
    exec (.programComplete b result) s = .next (State.settle s ((s.setBank b .idle).programDone op u p result)) := by
  simp only [exec, execProgramComplete, State.inProgress_busy h, hop, if_true]

theorem execPageReadComplete_eq {u' p' : Nat} {buf : BufId} {for_ : ReadFor} (h : s.bank b = .busy op u p at_)
    (hop : op.kind = .pageRead u' p' buf for_) (page : PageRead) :
    exec (.pageReadComplete b page) s = .next (State.settle s
      (((s.setBank b .idle).countPage (readPage (s.flashPage u p) page).2).pageReadDone u buf for_ (readPage (s.flashPage u p) page).1
        ((readPage (s.flashPage u p) page).2.getD .allLost))) := by
  obtain ⟨cls, n, kind⟩ := op
  cases hop
  simp only [exec, execPageReadComplete, State.inProgress_busy h]

theorem execSpareReadComplete_eq {u' p' : Nat} (h : s.bank b = .busy op u p at_) (hop : op.kind = .spareRead u' p') (page : SpareRead) :
    exec (.spareReadComplete b page) s = .next (State.settle s
      (((s.setBank b .idle).countWords ((readSpare (s.flashPage u p) page).toList.map Prod.fst)).scanPage b u p
        (readSpare (s.flashPage u p) page))) := by
  obtain ⟨cls, n, kind⟩ := op
  cases hop
  simp only [exec, execSpareReadComplete, State.inProgress_busy h]

theorem execEraseComplete_eq {u' : Nat} (h : s.bank b = .busy op u p at_) (hop : op.kind = .erase u') (result : OpResult) :
    exec (.eraseComplete b result) s = .next (State.settle s ((s.setBank b .idle).eraseDone u result)) := by
  obtain ⟨cls, n, kind⟩ := op
  cases hop
  simp only [exec, execEraseComplete, State.inProgress_busy h]

/-- What OPERATION_TIMEOUT makes of the operation in progress. -/
def State.timeoutDone (s : State) (b : BankId) (op : FlashOp) (u p : Nat) : State :=
  match op.kind with
  | .captureProgram .. => s.programDone op u p .fail
  | .copyProgram .. => s.programDone op u p .fail
  | .pageRead _ _ buf for_ => s.useFree.pageReadDone u buf for_ (s.openBytes Config.pageBytes) .allLost
  | .spareRead .. => s.scanPage b u p (some (.uncorrectable, []))
  | .erase _ => s.eraseDone u .fail

theorem execOperationTimeout_eq (h : s.bank b = .busy op u p at_) :
    exec (.operationTimeout b) s = .next (State.settle s ((s.timedOut b).timeoutDone b op u p)) := by
  obtain ⟨cls, n, kind⟩ := op
  simp only [exec, execOperationTimeout, State.inProgress_busy h]
  cases kind <;> rfl

end Complete

/-! ### A unit erased (R146) -/

section Erase

variable {s : State} {u : Nat} {e : UnitEntry}

/-- The record of a take freed where the unit erased held its chain index 0 (R26). -/
def State.freeTakeOf (s : State) (e : UnitEntry) : State :=
  match e.owner with
  | some t => if e.chain = some 0 then s.freeTake t else s
  | none => s

/-- A unit as RETIRED. -/
def UnitEntry.retire (y : UnitEntry) : UnitEntry :=
  { y with
    state := .retired
    owner := none
    chain := none
    role := none
    writeSeq := none
    nextPage := 0
    finalPage := none
    refreshWanted := false }

theorem State.retireUnit_eq {x : BankId × Nat} (h : s.bankOf u = some x) (c : RetireCause) :
    s.retireUnit u c = (s.modUnit u UnitEntry.retire).raise (.unitRetired u x.1 c) := by
  rw [State.retireUnit, h]
  rfl

theorem State.unit_erased (u : Nat) (result : OpResult) (n : Nat) : (s.erased u result).unit n = s.unit n := by
  obtain ⟨_, _, _, h⟩ := s.erased_eq u result
  rw [h]
  rfl

theorem State.eraseDone_retired (hu : s.unit u = some e) (hstate : e.state = .retired) (result : OpResult) :
    s.eraseDone u result = s.erased u result := by
  unfold State.eraseDone
  dsimp only
  rw [State.unit_erased, hu]
  exact if_pos hstate

theorem State.eraseDone_pass (hu : s.unit u = some e) (hstate : e.state = .erasing) : s.eraseDone u .pass =
    State.freeTakeOf ({ (s.eraseUnit u).modUnit u fun y => ⟨y.number, .free, none, none, none, none, 0, none, false, 0⟩ with
      freeList := s.freeList ++ [u] } : State).offerUnit e := by
  obtain ⟨f, hshape⟩ := s.eraseUnit_eq u
  have hlist : (s.erased u .pass).freeList = s.freeList := by
    rw [State.erased, hshape]
  unfold State.eraseDone
  dsimp only
  rw [State.unit_erased, hu]
  dsimp only
  rw [if_neg (by simp [hstate])]
  show State.freeTakeOf ({ (s.erased u .pass).modUnit u fun y => ⟨y.number, .free, none, none, none, none, 0, none, false, 0⟩ with
      freeList := (s.erased u .pass).freeList ++ [u] } : State).offerUnit e = _
  rw [hlist]
  rfl

theorem State.eraseDone_fail {x : BankId × Nat} (hu : s.unit u = some e) (hstate : e.state = .erasing) (hbank : s.bankOf u = some x) :
    s.eraseDone u .fail =
      (((s.erased u .fail).modUnit u UnitEntry.retire).raise (.unitRetired u x.1 .erase)).freeTakeOf e := by
  have hbank' : (s.erased u .fail).bankOf u = some x := by
    obtain ⟨_, _, _, h⟩ := s.erased_eq u .fail
    rw [h]
    exact hbank
  unfold State.eraseDone
  dsimp only
  rw [State.unit_erased, hu]
  dsimp only
  rw [if_neg (by simp [hstate]), State.retireUnit_eq hbank']
  rfl

theorem State.offerUnit_idle (hwait : s.unitWait = []) (hengine : s.engine = .idle) : s.offerUnit = s := by
  unfold State.offerUnit
  rw [hengine]
  dsimp only
  rw [hwait]
  rfl

end Erase

end Sys2Proof.Machine
end

section
/-! Erases requested, units offered, and the ends of erases (R140, R145, R146, R163). -/

namespace Sys2Proof.Machine

section Offer

variable {s : State} {n take chain : Nat} {rest : List Nat}

theorem State.grantUnit_quiet {need : Nat} {role : Role} (hlist : s.freeList = n :: rest) (hseq : s.writeSeq < 4294967295)
    (hneed : need ≤ rest.length + 1) (hlow : rest.length ≠ s.lowWater) :
    s.grantUnit need take chain role = some (n, s.unitGranted take chain role n rest) := by
  rw [State.grantUnit_some hlist hseq hneed, State.unitGrantedLow, if_neg hlow]

/-- With nothing dropped, leaving DROPPING reports no gap. -/
theorem State.leaveDropping_quiet {r : RoomId} (h : (s.room r).dropped = 0) :
    s.leaveDropping r = s.setRoom r { s.room r with dropping := none, dropped := 0 } := by
  unfold State.leaveDropping
  dsimp only
  split
  · rfl
  · split
    · rfl
    · exact if_neg (by omega)

/-- A unit become FREE with the engine IDLE goes to the first room that waits (R140). -/
theorem State.offerUnit_room {e : UnitWait} (hengine : s.engine = .idle) (hwait : s.unitWait = [e]) (hlist : s.freeList = n :: rest)
    (hseq : s.writeSeq < 4294967295) (hlen : 2 ≤ rest.length) (hlow : rest.length ≠ s.lowWater) :
    s.offerUnit = ({ s.unitGranted e.take e.chain .chain n rest with unitWait := [] } : State).tellUnitGranted e.room := by
  have hneed : captureNeed ≤ rest.length + 1 := by simp only [captureNeed, Config.captureReserve]; omega
  unfold State.offerUnit
  rw [hengine]
  dsimp only
  rw [hwait, List.length_singleton, State.offerWaiters, hwait]
  dsimp only
  rw [State.grantUnit_quiet hlist hseq hneed hlow]
  rfl

/-- A rescue whose destination has come and whose failed page is not its first asks for a copy buffer. -/
theorem State.rescueHasUnit_asks {next : State → State} {e : Rescue} {more : List Rescue} {w : Work} {d : Nat} {b : BufId}
    (hrescues : s.rescues = e :: more) (he : e.unit = w.source) (hpage : e.page ≠ 0) (hbuf : w.buf = none) (hfree : s.firstFree = some b)
    (hnum : s.requestNumber ≤ 4294967295) :
    s.rescueHasUnit next w d = (s.setBuffer b ⟨.copy, none, 0, .engine, none⟩).copyReading true
      { w with dest := some d, page := 0, damaged := 0 } b := by
  have hfirst : ((s.rescues.find? fun x => x.unit == w.source).map Rescue.page).getD 0 = e.page := by
    rw [hrescues]
    simp [he]
  unfold State.rescueHasUnit
  dsimp only
  rw [hfirst, if_neg hpage, hbuf]
  dsimp only
  rw [State.askCopyBuffer_rescue (by exact hfree) (by exact hnum)]
  rfl

/-- A unit become FREE goes first to a rescue that waits for its destination (R140, R152). -/
theorem State.offerUnit_rescue {w : Work} {e : Rescue} {more : List Rescue} {b : BufId} {t : Take} (hengine : s.engine = .rescue w)
    (hdest : w.dest = none) (hbuf : w.buf = none) (hwait : s.unitWait = []) (hrescues : s.rescues = e :: more) (he : e.unit = w.source)
    (hpage : e.page ≠ 0) (hlist : s.freeList = n :: rest) (hseq : s.writeSeq < 4294967295) (hlow : rest.length ≠ s.lowWater)
    (hfree : s.firstFree = some b) (hfind : s.findTake w.take = some t) (hnum : s.requestNumber ≤ 4294967295)
    (hdropping : (s.room t.room).dropping = some .noUnit) (hdropped : (s.room t.room).dropped = 0) :
    s.offerUnit =
      let v := if t.state = .recording then (s.unitGranted w.take w.chain .destination n rest).setRoom t.room
          { s.room t.room with rescueWaiting := false, dropping := none }
        else s.unitGranted w.take w.chain .destination n rest
      (v.setBuffer b ⟨.copy, none, 0, .engine, none⟩).copyReading true { w with dest := some n, page := 0, damaged := 0 } b := by
  have htold : (s.unitGranted w.take w.chain .destination n rest).tellRescueHasUnit t.room =
      (s.unitGranted w.take w.chain .destination n rest).setRoom t.room
        { s.room t.room with rescueWaiting := false, dropping := none } := by
    unfold State.tellRescueHasUnit
    dsimp only
    rw [if_pos]
    · rw [State.leaveDropping_quiet (by rw [State.modRoom_eq, State.room_setRoom_same]; exact hdropped), State.modRoom_eq,
        State.room_setRoom_same, State.setRoom_setRoom, ← hdropped]
      rfl
    · rw [State.modRoom_eq, State.room_setRoom_same]
      refine ⟨hdropping, ?_⟩
      show (!(s.unitWait.any fun e => e.room == t.room)) = true
      rw [hwait]
      rfl
  have hroom : (s.unitGranted w.take w.chain .destination n rest).recordingRoom w.take =
      if t.state = .recording then some t.room else none := by
    have hfind' : (s.unitGranted w.take w.chain .destination n rest).findTake w.take = some t := hfind
    rw [State.recordingRoom, hfind']
  have hrest : ∀ v : State, v.unitWait = [] → v.rescues = s.rescues → v.firstFree = s.firstFree → v.requestNumber = s.requestNumber →
      (v.rescueHasUnit State.engineNext w n).offerWaiters (v.rescueHasUnit State.engineNext w n).unitWait.length =
        (v.setBuffer b ⟨.copy, none, 0, .engine, none⟩).copyReading true { w with dest := some n, page := 0, damaged := 0 } b := by
    intro v h1 h2 h3 h4
    rw [State.rescueHasUnit_asks (h2.trans hrescues) he hpage hbuf (h3.trans hfree) (by rw [h4]; exact hnum)]
    have hlen : ((v.setBuffer b ⟨.copy, none, 0, .engine, none⟩).copyReading true { w with dest := some n, page := 0, damaged := 0 }
        b).unitWait.length = 0 := by
      rw [show ((v.setBuffer b ⟨.copy, none, 0, .engine, none⟩).copyReading true { w with dest := some n, page := 0, damaged := 0 }
        b).unitWait = v.unitWait from rfl, h1, List.length_nil]
    rw [hlen]
    rfl
  unfold State.offerUnit
  rw [hengine]
  dsimp only
  rw [if_pos hdest, State.grantUnit_quiet hlist hseq (by omega) hlow]
  dsimp only
  rw [hroom]
  by_cases hstate : t.state = .recording
  · simp only [hstate, if_true, htold]
    exact hrest _ hwait rfl rfl rfl
  · simp only [hstate, if_false]
    exact hrest _ hwait rfl rfl rfl

end Offer

end Sys2Proof.Machine
end

section
/-! Erases and chip resets (R140, R145, R146, R163, R164). -/

namespace Sys2Proof.Machine

/-- Settles O60: `eraseDone`, `offerUnit`, `drainReclaim` and the completions, case by case. -/
theorem erasesAndChipResets : Obligations.ErasesAndChipResets := by
  refine ⟨fun s n u hready hu hstate hfifo hnum => ⟨fun hflight => ?inFlight, fun hflight => ?drained⟩,
    fun b s => ⟨fun hbank => ?ready, fun hbank => if_neg hbank, fun cls n u p at_ e x hbusy hu hx => ?erase⟩,
    fun s n rest hlist hseq hlow => ⟨fun e hengine hwait hlen => ?room,
      fun w b t e more hengine hdest hbuf hwait hrescues he hpage hfree hfind hnum hdropping hdropped => ?rescue⟩,
    fun b op u p at_ s hbusy => ⟨fun hop => ?program, fun buf for_ hop => ⟨fun page => execPageReadComplete_eq hbusy hop page, ?read⟩,
      fun hop => ⟨fun page => execSpareReadComplete_eq hbusy hop page, ?spare⟩⟩⟩
  case inFlight =>
    rw [State.drainReclaim, if_pos hready, hfifo]
    simp [State.requestErase, hu, hflight]
  case drained =>
    rw [State.drainReclaim, if_pos hready, hfifo, List.foldl_cons, List.foldl_nil, State.requestErase_drained hu hstate hflight hnum,
      State.eraseRequested, hfifo]
    simp
    rfl
  case ready => exact (if_pos hbank).trans (congrArg Host.Outcome.next (State.settle_same rfl))
  case erase =>
    intro spoiled failed passed late andTake
    have hand : ∀ v, andTake v = v.freeTakeOf e := by
      intro v
      unfold State.freeTakeOf
      cases howner : e.owner with
      | none => simp only [andTake, howner]
      | some id =>
        simp only [andTake, howner, State.freeTake_eq]
    have hspoiled : ∀ v : State, v.freeUses = s.freeUses → v.counters.eraseFailures = s.counters.eraseFailures →
        v.erased u .fail = spoiled v := by
      intro v h1 h2
      rw [State.erased_fail, h1, h2]
    have hpass : (s.setBank b .idle).eraseDone u .pass = (State.offerUnit passed).freeTakeOf e ∨ e.state ≠ .erasing := by
      by_cases hstate : e.state = .erasing
      · exact .inl (State.eraseDone_pass hu hstate)
      · exact .inr hstate
    refine ⟨fun hstate hwait hengine => ?alone, fun hstate => ?offered, fun hstate => ?failed, fun hstate => ?late, fun hstate => ⟨?_, ?_⟩⟩
    case alone =>
      have hoffer : passed.offerUnit = passed := by
        obtain ⟨f, e'⟩ := (s.setBank b .idle).eraseUnit_eq u
        refine State.offerUnit_idle ?_ ?_
        · simp only [passed, e']
          exact hwait
        · simp only [passed, e']
          exact hengine
      rw [execEraseComplete_eq hbusy rfl, hpass.resolve_right (not_not_intro hstate), hoffer, hand]
    case offered => rw [execEraseComplete_eq hbusy rfl, hpass.resolve_right (not_not_intro hstate), hand]
    case failed =>
      rw [execEraseComplete_eq hbusy rfl, State.eraseDone_fail (by exact hu) hstate (by exact hx), hand, hspoiled (s.setBank b .idle) rfl rfl]
      rfl
    case late =>
      have hdone : (s.timedOut b).timeoutDone b ⟨cls, n, .erase u⟩ u p = (s.timedOut b).eraseDone u .fail := rfl
      rw [execOperationTimeout_eq hbusy, hdone, State.eraseDone_fail (by exact hu) hstate (by exact hx), hand, hspoiled (s.timedOut b) rfl rfl]
      rfl
    · obtain ⟨f, e'⟩ := (s.setBank b .idle).eraseUnit_eq u
      rw [execEraseComplete_eq hbusy rfl, State.eraseDone_retired (by exact hu) hstate, State.settle_same]
      · rfl
      · rw [State.erased, e']
        rfl
    · obtain ⟨_, _, _, e'⟩ := (s.setBank b .idle).erased_eq u .fail
      rw [execEraseComplete_eq hbusy rfl, State.eraseDone_retired (by exact hu) hstate, State.settle_same, hspoiled (s.setBank b .idle) rfl rfl]
      rw [e']
      rfl
  case room => exact State.offerUnit_room hengine hwait hlist hseq hlen hlow
  case rescue =>
    rw [State.offerUnit_rescue hengine hdest hbuf hwait hrescues he hpage hlist hseq hlow hfree hfind hnum hdropping hdropped]
    by_cases hstate : t.state = .recording
    · simp only [hstate, if_true]
      rfl
    · simp only [hstate, if_false]
      rfl
  case program =>
    refine ⟨execProgramComplete_eq hbusy hop .fail, ?_⟩
    rw [execOperationTimeout_eq hbusy]
    obtain ⟨cls, n, kind⟩ := op
    cases kind with
    | captureProgram => rfl
    | copyProgram => rfl
    | _ => cases hop
  case read =>
    obtain ⟨cls, n, kind⟩ := op
    cases hop
    exact execOperationTimeout_eq hbusy
  case spare =>
    obtain ⟨cls, n, kind⟩ := op
    cases hop
    exact execOperationTimeout_eq hbusy

end Sys2Proof.Machine
end

section
/-! The read-backs' contexts, which the engine and the damage reports leave alone. -/

namespace Sys2Proof.Machine

variable (s : State)

@[simp] theorem State.readbacks_raise (a : Alert) : (s.raise a).readbacks = s.readbacks := by
  unfold State.raise; split <;> rfl

@[simp] theorem State.readbacks_ite (p : Prop) [Decidable p] (u v : State) :
    (if p then u else v).readbacks = if p then u.readbacks else v.readbacks := apply_ite ..

@[simp] theorem State.readbacks_modSegment (x : SegRef) (f : Segment → Segment) : (s.modSegment x f).readbacks = s.readbacks := rfl

@[simp] theorem State.readbacks_addMark (take : Nat) (m : Mark) : (s.addMark take m).readbacks = s.readbacks := rfl

@[simp] theorem State.readbacks_loseMarks (r : RoomId) (take : Nat) (n : Nat) :
    (s.loseMarks r take n).readbacks = s.readbacks := by
  unfold State.loseMarks; simp

@[simp] theorem State.readbacks_carry (r : RoomId) (take : Nat) (m : Mark) : (s.carry r take m).readbacks = s.readbacks := by
  unfold State.carry; dsimp only; (repeat' split) <;> simp

@[simp] theorem State.readbacks_placeMark (r : RoomId) (take : Nat) (m : Mark) :
    (s.placeMark r take m).readbacks = s.readbacks := by
  unfold State.placeMark; simp

@[simp] theorem State.readbacks_placeGapMarks (r : RoomId) (take : Nat) (g : GapType) (first : Nat) (codes : List Nat) :
    (s.placeGapMarks r take g first codes).readbacks = s.readbacks := by
  induction codes generalizing s first with
  | nil => rfl
  | cons c cs ih => unfold State.placeGapMarks; dsimp only; rw [ih]; split <;> simp

@[simp] theorem State.readbacks_reportGap (r : RoomId) (take : Nat) (g : GapType) (first n : Nat) :
    (s.reportGap r take g first n).readbacks = s.readbacks := by
  unfold State.reportGap; cases g <;> simp

@[simp] theorem State.readbacks_reportFilledRun (r : RoomId) : (s.reportFilledRun r).readbacks = s.readbacks := by
  unfold State.reportFilledRun; (repeat' split) <;> simp

@[simp] theorem State.readbacks_reportDamage (take b : Nat) : (s.reportDamage take b).readbacks = s.readbacks := by
  unfold State.reportDamage; (repeat' split) <;> simp

@[simp] theorem State.readbacks_renumberOps : s.renumberOps.readbacks = s.readbacks := rfl

@[simp] theorem State.readbacks_requestOp (cls : Nat) (kind : OpKind) : (s.requestOp cls kind).readbacks = s.readbacks := by
  unfold State.requestOp; dsimp only; (repeat' split) <;> simp

@[simp] theorem State.readbacks_leaveDropping (r : RoomId) : (s.leaveDropping r).readbacks = s.readbacks := by
  unfold State.leaveDropping; dsimp only; (repeat' split) <;> simp

@[simp] theorem State.readbacks_enterDropping (r : RoomId) (c : DropCause) (n : Nat) :
    (s.enterDropping r c n).readbacks = s.readbacks := by
  unfold State.enterDropping; simp

@[simp] theorem State.readbacks_tellRescueWait (r : RoomId) : (s.tellRescueWait r).readbacks = s.readbacks := by
  unfold State.tellRescueWait; (repeat' split) <;> simp

@[simp] theorem State.readbacks_giveFilling (r : RoomId) (t : Take) (b : BufId) :
    (s.giveFilling r t b).readbacks = s.readbacks := by
  unfold State.giveFilling; dsimp only; (repeat' split) <;> simp

theorem State.readbacks_grantUnit {s s' : State} {need take chain u : Nat} {role : Role} (e : s.grantUnit need take chain role = some (u, s')) :
    s'.readbacks = s.readbacks := by
  unfold State.grantUnit at e
  split at e
  · cases e
  · split at e
    · simp only [Option.some.injEq, Prod.mk.injEq] at e
      rw [← e.2]
      split <;> simp
    · cases e

@[simp] theorem State.readbacks_retireUnit (n : Nat) (c : RetireCause) : (s.retireUnit n c).readbacks = s.readbacks :=
  by unfold State.retireUnit; simp

@[simp] theorem State.readbacks_requestCopyRead (isRescue : Bool) (w : Work) (b : BufId) :
    (s.requestCopyRead isRescue w b).readbacks = s.readbacks := by
  unfold State.requestCopyRead; simp

@[simp] theorem State.readbacks_askCopyBuffer (isRescue : Bool) (w : Work) :
    (s.askCopyBuffer isRescue w).readbacks = s.readbacks := by
  unfold State.askCopyBuffer; (repeat' split) <;> simp

@[simp] theorem State.readbacks_engineRetry : s.engineRetry.readbacks = s.readbacks := by
  unfold State.engineRetry; (repeat' split) <;> simp

@[simp] theorem State.readbacks_freeBuffer (b : BufId) : (s.freeBuffer b).readbacks = s.readbacks := by
  unfold State.freeBuffer; (repeat' split) <;> simp

@[simp] theorem State.readbacks_freeOptBuffer (b : Option BufId) : (s.freeOptBuffer b).readbacks = s.readbacks := by
  unfold State.freeOptBuffer; (repeat' split) <;> simp

theorem State.readbacks_endRescue {next : State → State} (hn : ∀ u, (next u).readbacks = u.readbacks) (w : Work) (d : Nat) :
    (s.endRescue next w d).readbacks = s.readbacks := by
  unfold State.endRescue
  simp [hn]

theorem State.readbacks_rescueHasUnit {next : State → State} (hn : ∀ u, (next u).readbacks = u.readbacks) (w : Work) (d : Nat) :
    (s.rescueHasUnit next w d).readbacks = s.readbacks := by
  unfold State.rescueHasUnit
  dsimp only
  split
  · rw [State.readbacks_endRescue _ hn]
  · split <;> simp

theorem State.readbacks_rescueAsks {next : State → State} (hn : ∀ u, (next u).readbacks = u.readbacks) (w : Work) :
    (s.rescueAsks next w).readbacks = s.readbacks := by
  unfold State.rescueAsks
  split
  · rename_i e; rw [State.readbacks_rescueHasUnit _ hn, State.readbacks_grantUnit e]
  · dsimp only; (repeat' split) <;> simp

@[simp] theorem State.readbacks_takeWork (n : Nat) : (State.takeWork n s).readbacks = s.readbacks := by
  induction n generalizing s with
  | zero => rfl
  | succ n ih =>
    unfold State.takeWork
    dsimp only
    split
    · rfl
    · split
      · rw [State.readbacks_rescueAsks _ ih]
      · split
        · rfl
        · split
          · rw [ih]
          · split
            · rename_i e; simpa using State.readbacks_grantUnit e
            · rw [ih]; simp

@[simp] theorem State.readbacks_engineNext : s.engineNext.readbacks = s.readbacks := State.readbacks_takeWork s _

@[simp] theorem State.readbacks_engineKick : s.engineKick.readbacks = s.readbacks := by
  unfold State.engineKick; (repeat' split) <;> simp

@[simp] theorem State.readbacks_wantRefresh (n : Nat) : (s.wantRefresh n).readbacks = s.readbacks := by
  unfold State.wantRefresh; (repeat' split) <;> simp

end Sys2Proof.Machine
end

section
/-! A page that comes back from the medium (R167, R168), and the damage it reports (R143, R144). -/

namespace Sys2Proof.Machine

/-! ### The page as read -/

theorem length_fitOver {n : Nat} {old new : List Byte} (h : old.length = n) : (fitOver n old new).length = n := by
  simp only [fitOver, List.length_append, List.length_take, List.length_drop, h]
  omega

theorem fitOver_nil {n : Nat} (old : List Byte) : fitOver n old [] = old := by
  simp [fitOver]

theorem fitOver_full {n : Nat} {old new : List Byte} (h : old.length = n) (hnew : new.length = n) : fitOver n old new = new := by
  simp [fitOver, hnew, ← h, List.take_of_length_le (Nat.le_of_eq (hnew.trans h.symm))]

section Raw

variable {stored data spare : List Byte}

/-- The spare area of a page as it comes back. -/
theorem spare_rawPage (h : stored.length = 2112) : (rawPage stored data spare).drop 2048 = fitOver 64 (stored.drop 2048) spare := by
  have hdata : (fitOver 2048 (stored.take 2048) data).length = 2048 := length_fitOver (by rw [List.length_take, h]; rfl)
  have hspare : (stored.drop 2048).take 64 = stored.drop 2048 := List.take_of_length_le (by simp [h])
  rw [rawPage, List.drop_left' hdata, hspare]

theorem rawPage_stored (h : stored.length = 2112) : rawPage stored [] [] = stored := by
  have hspare : (stored.drop 2048).take 64 = stored.drop 2048 := List.take_of_length_le (by simp [h])
  rw [rawPage, fitOver_nil, fitOver_nil, hspare, List.take_append_drop]

theorem spareErased_rawPage (h : stored.length = 2112) :
    spareErased (rawPage stored data spare) = true ↔ ∀ y ∈ fitOver 64 (stored.drop 2048) spare, y = 0xFF := by
  have hlen : (fitOver 64 (stored.drop 2048) spare).length = 64 := length_fitOver (by rw [List.length_drop, h])
  rw [spareErased, spare_rawPage h, List.take_of_length_le (Nat.le_of_eq hlen), List.all_eq_true]
  simp

theorem readPage_erased_iff {page : PageRead} :
    (readPage stored page).2 = none ↔ spareErased (rawPage stored page.data page.spare) = true := by
  unfold readPage
  dsimp only
  split
  · rename_i e
    exact ⟨fun _ => e, fun _ => rfl⟩
  · rename_i e
    exact ⟨fun h => (by cases h), fun h => absurd h e⟩

/-- A page that comes back with no byte changed. -/
def unchangedPage : PageRead := ⟨[], [], .clean, .clean, .clean, .clean⟩

/-- The decode record of a page without errors. -/
def DecodeRecord.allClean : DecodeRecord := ⟨.clean, .clean, .clean, .clean⟩

theorem readPage_unchanged (h : stored.length = 2112) : (readPage stored unchangedPage).1 = stored := by
  unfold readPage unchangedPage
  dsimp only
  rw [rawPage_stored h]
  split <;> rfl

theorem readPage_clean (h : stored.length = 2112) (hspare : spareErased stored = false) :
    readPage stored unchangedPage = (stored, some .allClean) := by
  unfold readPage unchangedPage
  dsimp only
  rw [rawPage_stored h, if_neg (by simp [hspare])]
  rfl

end Raw

theorem State.length_flashPage (s : State) (u p : Nat) : (s.flashPage u p).length = 2112 := by
  unfold State.flashPage
  split
  · exact Memory.readBytes_length ..
  · exact List.length_replicate

/-! ### The blocks that lost a sector, and the refresh trigger -/

section Damage

variable {t : Take} {tp u id x : Nat} {d : DecodeRecord} {s : State}

theorem nodup_eraseDups : ∀ l : List Nat, l.eraseDups.Nodup
  | [] => by simp
  | a :: l => by
    rw [List.eraseDups_cons, List.nodup_cons]
    exact ⟨by simp, nodup_eraseDups _⟩
termination_by l => l.length
decreasing_by exact Nat.lt_succ_of_le (List.length_filter_le ..)

theorem nodup_lostBlocksOf (t : Take) (tp : Nat) (d : DecodeRecord) : (lostBlocksOf t tp d).Nodup := by
  unfold lostBlocksOf
  exact (nodup_eraseDups _).filter _

theorem mem_lostBlocksOf : x ∈ lostBlocksOf t tp d ↔
    x < t.length ∧ ∃ j, j < 4 ∧ d.sector j = .uncorrectable ∧ x = tp * t.channels.bpp + j / t.channels.count := by
  simp only [lostBlocksOf, List.mem_filter, List.mem_eraseDups, List.mem_map, List.mem_range, beq_iff_eq, decide_eq_true_eq]
  constructor
  · rintro ⟨⟨j, ⟨hj, hlost⟩, rfl⟩, hlt⟩
    exact ⟨hlt, j, hj, hlost, rfl⟩
  · rintro ⟨hlt, j, hj, hlost, rfl⟩
    exact ⟨⟨j, ⟨hj, hlost⟩, rfl⟩, hlt⟩

theorem lostBlocksOf_allClean : lostBlocksOf t tp .allClean = [] := by
  rw [List.eq_nil_iff_forall_not_mem]
  intro x hx
  obtain ⟨-, j, -, hlost, -⟩ := mem_lostBlocksOf.mp hx
  unfold DecodeRecord.sector at hlost
  split at hlost <;> cases hlost

theorem weak_iff {m : Nat} : d.weak m = true ↔ ∃ x ∈ d.results, x = .uncorrectable ∨ ∃ i, x = .corrected i ∧ m ≤ i := by
  rw [DecodeRecord.weak, List.any_eq_true]
  refine exists_congr fun x => and_congr_right fun _ => ?_
  cases x <;> simp

theorem State.reportDamage_released (hfind : s.findTake id = some t) (h : t.state = .released) : s.reportDamage id x = s := by
  unfold State.reportDamage
  rw [hfind]
  exact if_pos h

theorem State.reportDamage_kept (hfind : s.findTake id = some t) (h : t.state ≠ .released) :
    s.reportDamage id x = (s.modTake id fun y =>
      if y.damage.length < 16 then { y with damage := y.damage ++ [x] }
      else { y with damageOverflow := min (y.damageOverflow + 1) 65535 }).raise (.damage id x) := by
  unfold State.reportDamage
  rw [hfind]
  exact if_neg h

theorem State.readbacks_tableRead (s : State) (u : Nat) (buf : BufId) (d : DecodeRecord) :
    (s.tableRead u buf d).readbacks = s.readbacks := by
  have hreport : ∀ id tp, (s.reportPage id tp d).1.readbacks = s.readbacks := by
    intro id tp
    unfold State.reportPage
    split
    · rfl
    · rename_i t hfind
      clear hfind
      generalize lostBlocksOf t tp d = bs
      dsimp only
      induction bs generalizing s with
      | nil => rfl
      | cons x bs ih => exact (ih (s.reportDamage id x)).trans (State.readbacks_reportDamage ..)
  unfold State.tableRead
  dsimp only
  split
  · rw [State.readbacks_wantRefresh, hreport]
  · exact hreport _ _

/-- A damage report changes the takes' damage records and the alerts alone. -/
theorem State.reportDamage_eq (s : State) (id x : Nat) : ∃ takes alerts overflow next,
    s.reportDamage id x = { s with takes := takes, alerts := alerts, alertOverflow := overflow, nextAlert := next } := by
  unfold State.reportDamage
  split
  · exact ⟨_, _, _, _, rfl⟩
  · split
    · exact ⟨_, _, _, _, rfl⟩
    · unfold State.raise
      split <;> exact ⟨_, _, _, _, rfl⟩

/-- The take as a damage report leaves it. -/
theorem State.findTake_reportDamage (hfind : s.findTake id = some t) (x : Nat) :
    ∃ damage overflow, (s.reportDamage id x).findTake id = some { t with damage := damage, damageOverflow := overflow } := by
  by_cases h : t.state = .released
  · rw [State.reportDamage_released hfind h]
    exact ⟨_, _, hfind⟩
  · rw [State.reportDamage_kept hfind h, State.findTake_raise, State.findTake_modTake_same (f := fun y =>
      if y.damage.length < 16 then { y with damage := y.damage ++ [x] }
      else { y with damageOverflow := min (y.damageOverflow + 1) 65535 }) _ _ fun y => by split <;> rfl, hfind, Option.map_some]
    split <;> exact ⟨_, _, rfl⟩

theorem State.reportDamages_eq (bs : List Nat) : ∀ s : State, ∃ takes alerts overflow next,
    bs.foldl (fun q b => q.reportDamage id b) s =
      { s with takes := takes, alerts := alerts, alertOverflow := overflow, nextAlert := next } := by
  induction bs with
  | nil => exact fun s => ⟨_, _, _, _, rfl⟩
  | cons b bs ih =>
    intro s
    obtain ⟨_, _, _, _, e⟩ := s.reportDamage_eq id b
    obtain ⟨takes, alerts, overflow, next, e'⟩ := ih (s.reportDamage id b)
    refine ⟨takes, alerts, overflow, next, ?_⟩
    rw [List.foldl_cons, e', e]

theorem State.findTake_reportDamages (bs : List Nat) : ∀ {s : State} {t : Take}, s.findTake id = some t →
    ∃ damage overflow, (bs.foldl (fun q b => q.reportDamage id b) s).findTake id =
      some { t with damage := damage, damageOverflow := overflow } := by
  induction bs with
  | nil => exact fun h => ⟨_, _, h⟩
  | cons b bs ih =>
    intro s t h
    obtain ⟨_, _, h'⟩ := State.findTake_reportDamage h b
    obtain ⟨damage, overflow, e⟩ := ih h'
    exact ⟨damage, overflow, e⟩

theorem State.reportPage_found (hfind : s.findTake id = some t) (tp : Nat) (d : DecodeRecord) :
    s.reportPage id tp d = ((lostBlocksOf t tp d).foldl (fun q b => q.reportDamage id b) s, (lostBlocksOf t tp d).length) := by
  unfold State.reportPage
  rw [hfind]

theorem State.reportPage_allClean (s : State) (id tp : Nat) : (s.reportPage id tp .allClean).1 = s := by
  unfold State.reportPage
  split
  · rfl
  · rw [lostBlocksOf_allClean]
    rfl

theorem State.tableRead_found {buf : BufId} (hpage : (s.buffer buf).page = some (id, tp)) (hfind : s.findTake id = some t) :
    s.tableRead u buf d =
      if d.weak s.threshold then ((lostBlocksOf t tp d).foldl (fun y x => y.reportDamage id x) s).wantRefresh u
      else (lostBlocksOf t tp d).foldl (fun y x => y.reportDamage id x) s := by
  have hpair : (s.buffer buf).page.getD (0, 0) = (id, tp) := by rw [hpage]; rfl
  obtain ⟨_, _, _, _, e⟩ := State.reportDamages_eq (id := id) (lostBlocksOf t tp d) s
  have hthreshold : ((lostBlocksOf t tp d).foldl (fun y x => y.reportDamage id x) s).threshold = s.threshold := by rw [e]
  unfold State.tableRead
  dsimp only
  rw [hpair, State.reportPage_found hfind]
  dsimp only
  rw [hthreshold]

theorem State.tableRead_allClean (s : State) (u : Nat) (buf : BufId) : s.tableRead u buf .allClean = s := by
  unfold State.tableRead
  dsimp only
  rw [State.reportPage_allClean]
  rfl

variable {e : UnitEntry}

theorem State.wantRefresh_same (hu : s.unit u = some e) (h : e.inChain = false ∨ e.refreshWanted = true) : s.wantRefresh u = s := by
  unfold State.wantRefresh
  rw [hu]
  refine if_neg ?_
  obtain h | h := h <;> simp [h]

theorem State.wantRefresh_open (hu : s.unit u = some e) (hchain : e.inChain = true) (hwanted : e.refreshWanted = false)
    (hstate : e.state = .opened) : s.wantRefresh u = s.modUnit u fun y => { y with refreshWanted := true } := by
  unfold State.wantRefresh
  rw [hu]
  dsimp only
  rw [if_pos (by simp [hchain, hwanted]), if_neg (by simp [hstate])]

theorem State.wantRefresh_full (hu : s.unit u = some e) (hchain : e.inChain = true) (hwanted : e.refreshWanted = false)
    (hstate : e.state = .full) (hengine : s.engine ≠ .idle) : s.wantRefresh u =
      { s.modUnit u fun y => { y with refreshWanted := true } with refreshFifo := s.refreshFifo ++ [u] } := by
  unfold State.wantRefresh
  rw [hu]
  dsimp only
  rw [if_pos (by simp [hchain, hwanted]), if_pos hstate]
  exact if_neg hengine

end Damage

end Sys2Proof.Machine
end

section
/-! Page reads that complete for a station or a read-back (R101, R117, R143). -/

namespace Sys2Proof.Machine

section Done

variable {s : State} {u : Nat} {buf : BufId} {k : StationId} {r : RoomId} {bytes : List Byte} {d : DecodeRecord}

/-- The state with a page read into its buffer, its decode record there and the unit's reads one fewer. -/
def State.pageCame (s : State) (u : Nat) (buf : BufId) (bytes : List Byte) (d : DecodeRecord) : State :=
  ((s.writeBuf buf 0 bytes).setBuffer buf { s.buffer buf with decode := some d }).modUnit u fun y => { y with inFlight := y.inFlight - 1 }

theorem State.readLeaves_eq (h : s.reclaimFifo = []) (n : Nat) :
    s.readLeaves n = s.modUnit n fun y => { y with inFlight := y.inFlight - 1 } := by
  unfold State.readLeaves State.drainReclaim
  split
  · rw [State.modUnit_reclaimFifo, h]
    rfl
  · rfl

theorem State.pageReadDone_station (h : s.reclaimFifo = []) : s.pageReadDone u buf (.reader (.station k)) bytes d =
    ((s.pageCame u buf bytes d).tableRead u buf d).stationReadDone k buf := by
  unfold State.pageReadDone
  dsimp only
  rw [State.readLeaves_eq (by exact h)]
  rfl

theorem State.pageReadDone_readback (h : s.reclaimFifo = []) : s.pageReadDone u buf (.reader (.readback r)) bytes d =
    ((s.pageCame u buf bytes d).tableRead u buf d).readbackReadDone r buf := by
  unfold State.pageReadDone
  dsimp only
  rw [State.readLeaves_eq (by exact h)]
  rfl

theorem State.pageReadDone_engine (h : s.reclaimFifo = []) : s.pageReadDone u buf .engine bytes d =
    (s.pageCame u buf bytes d).copyReadDone buf d := by
  unfold State.pageReadDone
  dsimp only
  rw [State.readLeaves_eq (by exact h)]
  rfl

/-- An answer to the outstanding request. -/
theorem State.answer_of_outstanding {l : LinkId} {q : Request} (h : (s.link l).outstanding = some q) (st : Status) (ind : Indications)
    (body : List Byte) : s.answer l st ind body = s.setLink l
      { s.link l with outstanding := none, txq := (s.link l).txq ++ [⟨.response, q.kind, q.tag, st, ind, body⟩] } := by
  unfold State.answer
  dsimp only
  rw [h]

/-- The page of a READ that waits is held, and the READ goes on (R101). -/
theorem State.stationReadDone_held (h : (s.station k).pendingRead = some .none_) : s.stationReadDone k buf =
    ((s.setBuffer buf { s.buffer buf with state := .held }).setStation k
      { s.station k with
        pendingRead := none
        holding := some ⟨true, buf, ((s.buffer buf).page.getD (0, 0)).1, ((s.buffer buf).page.getD (0, 0)).2⟩ }).stationRead k := by
  unfold State.stationReadDone
  rw [h]
  simp [State.modStation_eq, State.modBuffer]

/-- A READ served from a page held for it just now. -/
theorem State.stationRead_now {q : Request} {x : SegRef} {t : Take} {g : Segment} {y : Station}
    (hout : (s.link (.station k)).outstanding = some q) (hcur : y.current = some x) (hlook : s.lookup x = .found (t, g))
    (hstop : y.stop ≠ some y.cursor) (hin : y.cursor < (windowOf t g).atEnd) :
    (s.setStation k { y with pendingRead := none, holding := some ⟨true, buf, t.id, takePage t.channels y.cursor⟩ }).stationRead k =
      (s.setStation k { y with
        pendingRead := none
        holding := some ⟨true, buf, t.id, takePage t.channels y.cursor⟩
        cursor := y.cursor + 1 }).setLink (.station k) { s.link (.station k) with
          outstanding := none
          txq := (s.link (.station k)).txq ++ [⟨.response, q.kind, q.tag, .ok,
            { damaged := (s.formBlock buf t.channels (blockInPage t.channels y.cursor) y.mask y.factor).damaged,
              live := segmentOpen t g },
            servedBody y.cursor y.order (s.formBlock buf t.channels (blockInPage t.channels y.cursor) y.mask y.factor)⟩] } := by
  have hst := State.station_setStation_same (s := s) k
    { y with pendingRead := none, holding := some ⟨true, buf, t.id, takePage t.channels y.cursor⟩ }
  rw [State.stationRead_held (x := x) (t := t) (g := g) (owned := true) (b := buf) (by rw [hst]; exact hcur) (by exact hlook)
    (by rw [hst]; exact hstop) (by rw [hst]; exact hin) (by rw [hst]), State.serveStation, hst]
  dsimp only
  rw [State.setStation_setStation, State.answer_of_outstanding (q := q) (by exact hout)]
  rfl

/-- A READ whose segment was taken is answered with its fate, and the buffer freed (R101). -/
theorem State.stationReadDone_taken {fate : Fate} {status : Status}
    (hfate : (fate, status) ∈ [(Fate.preempted, Status.preempted), (.recalled, .recalled), (.gone, .gone)])
    (h : (s.station k).pendingRead = some fate) : s.stationReadDone k buf =
      ((s.setStation k { s.station k with pendingRead := none }).answer (.station k) status).freeBuffer buf := by
  unfold State.stationReadDone
  rw [h]
  simp only [List.mem_cons, Prod.mk.injEq, List.not_mem_nil, or_false] at hfate
  obtain ⟨rfl, rfl⟩ | ⟨rfl, rfl⟩ | ⟨rfl, rfl⟩ := hfate <;> rfl

/-- A read-back's page is held, or its buffer freed where the read-back has ended (R117). -/
theorem State.readbackReadDone_eq {p : RbRead} (h : (s.readback r).pendingRead = some p) : s.readbackReadDone r buf =
    if p.fate = .none_ then (s.setBuffer buf { s.buffer buf with state := .held }).setReadback r
        { s.readback r with pendingRead := none, holding := some ⟨true, buf, p.take, p.page⟩ }
      else (s.setReadback r { s.readback r with pendingRead := none }).freeBuffer buf := by
  obtain ⟨take, page, fate⟩ := p
  unfold State.readbackReadDone
  dsimp only
  rw [h]
  cases fate <;> simp [State.modReadback, State.modBuffer]

end Done

section Complete

variable {s : State} {b : BankId} {op : FlashOp} {u p at_ : Nat} {buf : BufId} {k : StationId}

/-- The state with a page read without errors in its buffer, before its decode record. -/
def State.cleanRead (s : State) (b : BankId) (u p : Nat) (buf : BufId) : State :=
  { (((s.setBank b .idle).writeBuf buf 0 (s.flashPage u p)).modUnit u fun y => { y with inFlight := y.inFlight - 1 }) with
    counters := { s.counters with
      corrected := min s.counters.corrected 4294967295
      uncorrectable := min s.counters.uncorrectable 4294967295 } }

theorem State.cleanRead_frame (s : State) (b : BankId) (u p : Nat) (buf : BufId) :
    (∀ l, (s.cleanRead b u p buf).link l = s.link l) ∧ (∀ x, (s.cleanRead b u p buf).lookup x = s.lookup x) ∧
      (s.cleanRead b u p buf).takes = s.takes ∧ (s.cleanRead b u p buf).dropWait = s.dropWait ∧
      (s.cleanRead b u p buf).engine = s.engine :=
  ⟨fun l => by cases l <;> rfl, fun _ => rfl, rfl, rfl, rfl⟩

theorem execPageReadComplete_clean (hbusy : s.bank b = .busy op u p at_) {u' p' : Nat}
    (hop : op.kind = .pageRead u' p' buf (.reader (.station k))) (hspare : spareErased (s.flashPage u p) = false)
    (hfifo : s.reclaimFifo = []) : exec (.pageReadComplete b unchangedPage) s = .next (State.settle s
      (((s.cleanRead b u p buf).setBuffer buf { s.buffer buf with decode := some .allClean }).stationReadDone k buf)) := by
  rw [execPageReadComplete_eq hbusy hop, readPage_clean (s.length_flashPage u p) hspare]
  dsimp only [Option.getD_some, State.countPage]
  rw [State.pageReadDone_station (by exact hfifo), State.tableRead_allClean]
  rfl

/-- The page is held and the READ that waits is served from it. -/
theorem stationRead_served {q : Request} {x : SegRef} {t : Take} {g : Segment} (hbusy : s.bank b = .busy op u p at_) {u' p' : Nat}
    (hop : op.kind = .pageRead u' p' buf (.reader (.station k))) (hspare : spareErased (s.flashPage u p) = false)
    (hfifo : s.reclaimFifo = []) (hout : (s.link (.station k)).outstanding = some q) (hpend : (s.station k).pendingRead = some .none_)
    (hcur : (s.station k).current = some x) (hlook : s.lookup x = .found (t, g)) (hstop : (s.station k).stop ≠ some (s.station k).cursor)
    (hin : (s.station k).cursor < (windowOf t g).atEnd)
    (hpage : (s.buffer buf).page = some (t.id, takePage t.channels (s.station k).cursor)) :
    exec (.pageReadComplete b unchangedPage) s = .next (State.issue
      (let w := (s.cleanRead b u p buf).setBuffer buf { s.buffer buf with state := .held, decode := some .allClean }
      let f := w.formBlock buf t.channels (blockInPage t.channels (s.station k).cursor) (s.station k).mask (s.station k).factor
      (w.setStation k { s.station k with
        pendingRead := none
        holding := some ⟨true, buf, t.id, takePage t.channels (s.station k).cursor⟩
        cursor := (s.station k).cursor + 1 }).setLink (.station k) { s.link (.station k) with
          outstanding := none
          txq := (s.link (.station k)).txq ++ [⟨.response, q.kind, q.tag, .ok, { damaged := f.damaged, live := segmentOpen t g },
            servedBody (s.station k).cursor (s.station k).order f⟩] })) := by
  rw [execPageReadComplete_clean hbusy hop hspare hfifo, State.stationReadDone_held (by exact hpend)]
  simp only [State.buffer_setBuffer_same, State.setBuffer_setBuffer, hpage, Option.getD_some]
  obtain ⟨hlink, hlookup, htakes, -, -⟩ := s.cleanRead_frame b u p buf
  have hst : (s.cleanRead b u p buf).station k = s.station k := rfl
  generalize s.cleanRead b u p buf = c at hlink hlookup htakes hst ⊢
  rw [State.station_setBuffer, hst, State.stationRead_now (q := q) (x := x) (g := g) (by rw [State.link_setBuffer, hlink]; exact hout)
    hcur (by exact (hlookup x).trans hlook) hstop hin, State.settle_same, State.link_setBuffer, hlink]
  rw [State.setLink_takes]
  exact htakes

/-- The READ of a segment taken meanwhile is answered with the fate of the read, and the buffer freed. -/
theorem stationRead_taken {q : Request} {fate : Fate} {status : Status} (hbusy : s.bank b = .busy op u p at_) {u' p' : Nat}
    (hop : op.kind = .pageRead u' p' buf (.reader (.station k))) (hspare : spareErased (s.flashPage u p) = false)
    (hfifo : s.reclaimFifo = []) (hout : (s.link (.station k)).outstanding = some q)
    (hfate : (fate, status) ∈ [(Fate.preempted, Status.preempted), (.recalled, .recalled), (.gone, .gone)])
    (hpend : (s.station k).pendingRead = some fate) (hwaits : s.noneWaits) :
    exec (.pageReadComplete b unchangedPage) s = .next (State.issue
      ((((s.cleanRead b u p buf).setBuffer buf freeRecord).setStation k { s.station k with pendingRead := none }).setLink (.station k)
        { s.link (.station k) with
          outstanding := none
          txq := (s.link (.station k)).txq ++ [⟨.response, q.kind, q.tag, status, {}, []⟩] })) := by
  rw [execPageReadComplete_clean hbusy hop hspare hfifo, State.stationReadDone_taken hfate (by exact hpend)]
  obtain ⟨hlink, -, htakes, hdrop, hengine⟩ := s.cleanRead_frame b u p buf
  have hst : (s.cleanRead b u p buf).station k = s.station k := rfl
  have hnone : (s.cleanRead b u p buf).noneWaits := by rwa [State.noneWaits, hdrop, hengine]
  generalize s.cleanRead b u p buf = c at hlink htakes hst hnone ⊢
  rw [State.answer_of_outstanding (q := q) (by rw [State.link_setStation, State.link_setBuffer, hlink]; exact hout),
    State.freeBuffer_of_noneWaits (by simpa [State.noneWaits] using hnone), State.settle_same]
  · simp [hst, hlink]
  · simpa using htakes

end Complete

end Sys2Proof.Machine
end

section
/-! Page reads that complete (R101, R117, R143, R144, R149, R167, R168). -/

namespace Sys2Proof.Machine

section Copy

variable {s : State} {buf : BufId} {w : Work} {z : Bool} {dest seq : Nat} {e : UnitEntry} {t : Take} {d : DecodeRecord}

theorem work_of (z : Bool) (w : Work) : (Engine.of z w).work = some (z, w) := by
  cases z <;> rfl

/-- The flight apart, work that is neither stopped nor set aside. -/
theorem State.copyReadDone_on (hengine : s.engine = .of z w) (hstopping : w.stopping = false) (haside : w.aside = false)
    (hdest : w.dest = some dest) : s.copyReadDone buf d = s.copyReadOn z { w with flight := .none_ } dest buf d := by
  unfold State.copyReadDone
  rw [hengine, work_of]
  dsimp only
  rw [if_neg (by simp [hstopping]), if_neg (by simp [haside]), hdest]

theorem State.zeroLost_eq (s : State) (buf : BufId) (d : DecodeRecord) : ∃ ram, s.zeroLost buf d = { s with ram := ram } := by
  unfold State.zeroLost
  generalize (List.range 4).filter (fun j => d.sector j == .uncorrectable) = l
  induction l generalizing s with
  | nil => exact ⟨_, rfl⟩
  | cons j l ih =>
    obtain ⟨ram, e⟩ := ih (s.writeBuf buf (j * Config.sectorBytes) (State.zeroLost.zeroes Config.sectorBytes))
    exact ⟨ram, e⟩

/-- A page copied: its lost sectors zeroed and reported, its tag written afresh where code word 3 was lost. -/
def State.copyMended (s : State) (w : Work) (buf : BufId) (t : Take) (d : DecodeRecord) : State :=
  let tp := w.chain * 64 + w.page
  let m := (lostBlocksOf t tp d).foldl (fun y x => y.reportDamage w.take x) (s.zeroLost buf d)
  if d.s3 = .uncorrectable then m.writeBuf buf 2048 ((freshTag t w.chain tp).bytes ++
      if tp = 0 then stampSlots t.stamp else List.replicate 12 0)
    else m

theorem State.copyMended_eq (s : State) (w : Work) (buf : BufId) (t : Take) (d : DecodeRecord) : ∃ ram takes alerts overflow next,
    s.copyMended w buf t d =
      { s with ram := ram, takes := takes, alerts := alerts, alertOverflow := overflow, nextAlert := next } := by
  obtain ⟨_, hzero⟩ := s.zeroLost_eq buf d
  obtain ⟨_, _, _, _, hreport⟩ :=
    State.reportDamages_eq (id := w.take) (lostBlocksOf t (w.chain * 64 + w.page) d) (s.zeroLost buf d)
  unfold State.copyMended
  dsimp only
  rw [hreport, hzero]
  split <;> exact ⟨_, _, _, _, _, rfl⟩

theorem State.copyReadOn_eq (hfind : s.findTake w.take = some t) (hunit : s.unit dest = some e) (hseq : e.writeSeq = some seq)
    (hnum : s.requestNumber ≤ 4294967295) : s.copyReadOn z w dest buf d =
      { (s.copyMended w buf t d).writeBuf buf 2055 (toLE 4 seq) with
        engine := .of z { w with
          flight := .program
          damaged := w.damaged + (lostBlocksOf t (w.chain * 64 + w.page) d).length }
        flashOps := s.flashOps ++ [⟨engineClass z, s.requestNumber, .copyProgram dest w.page buf⟩]
        requestNumber := s.requestNumber + 1 } := by
  obtain ⟨_, _, _, _, _, hmended⟩ := s.copyMended_eq w buf t d
  obtain ⟨_, hzero⟩ := s.zeroLost_eq buf d
  have hzeroFind : (s.zeroLost buf d).findTake w.take = some t := by
    rw [hzero]
    exact hfind
  obtain ⟨damage, overflow, hafter⟩ :=
    State.findTake_reportDamages (lostBlocksOf t (w.chain * 64 + w.page) d) hzeroFind
  have htag : ((lostBlocksOf t (w.chain * 64 + w.page) d).foldl (fun q b => q.reportDamage w.take b) (s.zeroLost buf d)).rewriteTag buf
      { t with damage := damage, damageOverflow := overflow } w (w.chain * 64 + w.page) dest d =
      (s.copyMended w buf t d).writeBuf buf 2055 (toLE 4 seq) := by
    have hunit' : (s.copyMended w buf t d).unit dest = some e := by
      rw [hmended]
      exact hunit
    have hseqTag : (s.copyMended w buf t d).writeSeqTag buf dest = (s.copyMended w buf t d).writeBuf buf 2055 (toLE 4 seq) := by
      rw [State.writeSeqTag, hunit', Option.bind_some, hseq]
      rfl
    rw [← hseqTag]
    rfl
  unfold State.copyReadOn
  dsimp only [Config.unitPages]
  rw [State.reportPage_found hzeroFind]
  dsimp only
  rw [hafter]
  dsimp only
  rw [htag, hmended]
  exact State.requestOp_eq (h := hnum) ..

end Copy

section Came

variable {s : State} {b : BankId} {u : Nat} {buf : BufId} {r : RoomId} {rd : List Byte × Option DecodeRecord}

theorem State.countPage_eq (s : State) (d : Option DecodeRecord) : ∃ counters, s.countPage d = { s with counters := counters } := by
  unfold State.countPage
  split <;> exact ⟨_, rfl⟩

/-- The state with a page read and counted, its buffer's decode record set and the unit's reads one fewer. -/
def State.pageTaken (s : State) (b : BankId) (u : Nat) (buf : BufId) (rd : List Byte × Option DecodeRecord) : State :=
  ((((s.setBank b .idle).countPage rd.2).writeBuf buf 0 rd.1).setBuffer buf
    { s.buffer buf with decode := some (rd.2.getD .allLost) }).modUnit u fun y => { y with inFlight := y.inFlight - 1 }

theorem State.pageCame_counted :
    ((s.setBank b .idle).countPage rd.2).pageCame u buf rd.1 (rd.2.getD .allLost) = s.pageTaken b u buf rd := by
  obtain ⟨_, e⟩ := (s.setBank b .idle).countPage_eq rd.2
  rw [State.pageCame, State.pageTaken, e]
  rfl

theorem State.pageTaken_frame (s : State) (b : BankId) (u : Nat) (buf : BufId) (rd : List Byte × Option DecodeRecord) :
    (s.pageTaken b u buf rd).readbacks = s.readbacks ∧ (s.pageTaken b u buf rd).takes = s.takes ∧
      (s.pageTaken b u buf rd).engine = s.engine ∧ (s.pageTaken b u buf rd).flashOps = s.flashOps ∧
      (s.pageTaken b u buf rd).requestNumber = s.requestNumber ∧
      (s.pageTaken b u buf rd).units = (s.modUnit u fun y => { y with inFlight := y.inFlight - 1 }).units := by
  obtain ⟨_, e⟩ := (s.setBank b .idle).countPage_eq rd.2
  rw [State.pageTaken, e]
  exact ⟨rfl, rfl, rfl, rfl, rfl, rfl⟩

theorem State.reclaimFifo_countPage (h : s.reclaimFifo = []) (d : Option DecodeRecord) :
    ((s.setBank b .idle).countPage d).reclaimFifo = [] := by
  obtain ⟨_, e⟩ := (s.setBank b .idle).countPage_eq d
  rw [e]
  exact h

/-- A read-back's read completes. -/
theorem State.readbackDone_eq {p : RbRead} (hfifo : s.reclaimFifo = []) (hpend : (s.readback r).pendingRead = some p) :
    ((s.setBank b .idle).countPage rd.2).pageReadDone u buf (.reader (.readback r)) rd.1 (rd.2.getD .allLost) =
      let w := (s.pageTaken b u buf rd).tableRead u buf (rd.2.getD .allLost)
      if p.fate = .none_ then (w.setBuffer buf { w.buffer buf with state := .held }).setReadback r
          { s.readback r with pendingRead := none, holding := some ⟨true, buf, p.take, p.page⟩ }
        else (w.setReadback r { s.readback r with pendingRead := none }).freeBuffer buf := by
  obtain ⟨hback, -, -, -, -, -⟩ := s.pageTaken_frame b u buf rd
  have hsame : ((s.pageTaken b u buf rd).tableRead u buf (rd.2.getD .allLost)).readback r = s.readback r := by
    rw [State.readback, State.readbacks_tableRead, hback, State.readback]
  rw [State.pageReadDone_readback (State.reclaimFifo_countPage hfifo _), State.pageCame_counted,
    State.readbackReadDone_eq (p := p) (by rw [hsame]; exact hpend), hsame]

/-- The engine's read completes. -/
theorem State.copyDone_eq {w : Work} {z : Bool} {dest seq : Nat} {e : UnitEntry} {t : Take} (hfifo : s.reclaimFifo = [])
    (hengine : s.engine = .of z w) (hstopping : w.stopping = false) (haside : w.aside = false) (hdest : w.dest = some dest)
    (hunit : s.unit dest = some e) (hseq : e.writeSeq = some seq) (hne : u ≠ dest) (hfind : s.findTake w.take = some t)
    (hnum : s.requestNumber ≤ 4294967295) :
    ((s.setBank b .idle).countPage rd.2).pageReadDone u buf .engine rd.1 (rd.2.getD .allLost) =
      { ((s.pageTaken b u buf rd).copyMended w buf t (rd.2.getD .allLost)).writeBuf buf 2055 (toLE 4 seq) with
        engine := .of z { w with
          flight := .program
          damaged := w.damaged + (lostBlocksOf t (w.chain * 64 + w.page) (rd.2.getD .allLost)).length }
        flashOps := s.flashOps ++ [⟨engineClass z, s.requestNumber, .copyProgram dest w.page buf⟩]
        requestNumber := s.requestNumber + 1 } := by
  obtain ⟨-, htakes, hengine', hops, hnumber, hunits⟩ := s.pageTaken_frame b u buf rd
  have hunit' : (s.pageTaken b u buf rd).unit dest = some e := by
    rw [State.unit, hunits]
    have h := State.unit_modUnit_ne s (Ne.symm hne) (f := fun y => { y with inFlight := y.inFlight - 1 }) fun _ => rfl
    exact h.trans hunit
  have hfind' : (s.pageTaken b u buf rd).findTake w.take = some t := by
    rw [State.findTake, htakes]
    exact hfind
  rw [State.pageReadDone_engine (State.reclaimFifo_countPage hfifo _), State.pageCame_counted,
    State.copyReadDone_on (hengine'.trans hengine) hstopping haside hdest,
    State.copyReadOn_eq (by exact hfind') hunit' hseq (by rw [hnumber]; exact hnum), hops, hnumber]
  rfl

end Came

/-- Settles O58: the page as read, then the reader's or the engine's use of it. -/
theorem stationReadsComplete : Obligations.StationReadsComplete := by
  refine ⟨fun stored page hlen => ⟨fun hspare => ?erasedRead, fun hspare => ?erasedStored, fun hpage => ?kept⟩,
    fun b cls n u p at_ buf k e q s => ?station,
    fun b cls n u p at_ buf r page pr s hbusy hfifo hpend => ?readback,
    fun u buf d s => ⟨fun id tp t hpage hfind => ?table, fun m => weak_iff, fun e hu => ⟨fun h => State.wantRefresh_same hu h,
      fun hchain hwanted => ⟨fun hstate => State.wantRefresh_open hu hchain hwanted hstate,
        fun hstate hengine => State.wantRefresh_full hu hchain hwanted hstate hengine⟩⟩,
      fun id x t hfind => ⟨fun h => State.reportDamage_released hfind h, fun h => State.reportDamage_kept hfind h⟩⟩,
    fun b cls n u p at_ dest seq buf z w e page t s => ?copy⟩
  case erasedRead =>
    rw [readPage_erased_iff, spareErased_rawPage hlen, fitOver_full (by rw [List.length_drop, hlen]) hspare]
  case erasedStored =>
    rw [readPage_erased_iff, spareErased_rawPage hlen, hspare, fitOver_nil]
  case kept =>
    subst hpage
    exact readPage_unchanged hlen
  case station =>
    intro st stored clean v reply hbusy hspare hfifo hu hout
    refine ⟨fun x t g hpend hplay hcur hfind hstate hseg hstop hin hpage => ?_, fun fate status hfate hpend hdrop hengine => ?_⟩
    · exact stationRead_served hbusy rfl hspare hfifo hout hpend hcur (State.lookup_found hfind hstate hseg) hstop hin hpage
    · exact stationRead_taken hbusy rfl hspare hfifo hout hfate hpend ⟨hdrop, by rw [hengine]; rfl⟩
  case readback =>
    rw [execPageReadComplete_eq hbusy rfl]
    generalize readPage (s.flashPage u p) page = rd
    rw [State.readbackDone_eq hfifo hpend]
    rfl
  case table =>
    exact ⟨nodup_lostBlocksOf .., fun x => mem_lostBlocksOf, State.tableRead_found hpage hfind⟩
  case copy =>
    intro read d tp v hbusy hfifo hengine hstopping haside hdest hunit hseq hne hfind hnum lost m tagged y
    rw [execPageReadComplete_eq hbusy rfl,
      State.copyDone_eq hfifo hengine hstopping haside hdest hunit hseq hne hfind hnum]
    rfl

end Sys2Proof.Machine
end

section
/-! The steps of a program's completion: alerts, buffers and units (R127, R131, R142, R145). -/

namespace Sys2Proof.Machine

section Steps

variable {s : State} {n : Nat}

/-- An alert raised changes the list, the overflow count and the next number alone. -/
theorem State.raise_eq (s : State) (a : Alert) : s.raise a = { s with
    alerts := if s.alerts.length < 32 then s.alerts ++ [⟨s.nextAlert, a⟩] else s.alerts
    alertOverflow := if s.alerts.length < 32 then s.alertOverflow else min (s.alertOverflow + 1) 65535
    nextAlert := (s.nextAlert + 1) % 4294967296 } := by
  by_cases h : s.alerts.length < 32
  · simp only [if_pos h]
    exact if_pos h
  · simp only [if_neg h]
    exact if_neg h

theorem State.modUnit_modUnit (s : State) (n : Nat) {f g : UnitEntry → UnitEntry} (hf : ∀ u, (f u).number = u.number) :
    (s.modUnit n f).modUnit n g = s.modUnit n (g ∘ f) := by
  simp only [State.modUnit, List.map_map]
  congr 1
  refine List.map_congr_left fun u _ => ?_
  by_cases h : u.number = n <;> simp [h, hf]

/-- A unit reclaimed and waiting for its erase. -/
def UnitEntry.unowned (y : UnitEntry) : UnitEntry :=
  { y with state := .erasing, owner := none, chain := none, role := none, finalPage := none, refreshWanted := false }

/-- A unit that belongs to no take any more, in RECLAIM. -/
def UnitEntry.disowned (y : UnitEntry) : UnitEntry :=
  { y with state := .reclaim, owner := none, chain := none, role := none, finalPage := none, refreshWanted := false }

/-- A unit that no read holds is erased at once as it goes into RECLAIM (R145). -/
theorem State.reclaimUnit_erases {u : UnitEntry} (hready : s.readiness = .ready) (hfifo : s.reclaimFifo = []) (hu : s.unit n = some u)
    (hflight : u.inFlight = 0) (hnum : s.requestNumber ≤ 4294967295) :
    s.reclaimUnit n = (s.modUnit n UnitEntry.unowned).opRequested 5 (.erase n) := by
  have hunit : State.unit { s.modUnit n UnitEntry.disowned with reclaimFifo := [n] } n = some u.disowned :=
    (State.unit_modUnit_same s n (f := UnitEntry.disowned) fun _ => rfl).trans (by rw [hu]; rfl)
  have hunits : ((s.modUnit n UnitEntry.disowned).modUnit n UnitEntry.erasing) = s.modUnit n UnitEntry.unowned :=
    State.modUnit_modUnit (hf := fun _ => rfl) ..
  have hreclaim : s.reclaimUnit n = State.drainReclaim { s.modUnit n UnitEntry.disowned with reclaimFifo := [n] } := by
    rw [State.reclaimUnit, hfifo]
    rfl
  rw [hreclaim, State.drainReclaim, if_pos (by exact hready), List.foldl_cons, List.foldl_nil,
    State.requestErase_drained hunit rfl hflight (by exact hnum), ← hunits, State.eraseRequested, State.opRequested]
  simp only [bne_self_eq_false, List.filter_cons, Bool.false_eq_true, if_false, List.filter_nil]
  rw [← hfifo]
  rfl

/-- The buffer of work that ends, where no room waits for one. -/
def State.bufferFreed (s : State) (b : Option BufId) : State :=
  match b with
  | some b => s.setBuffer b freeRecord
  | none => s

theorem State.freeOptBuffer_idle (hdrop : s.dropWait = []) (hengine : s.engine = .idle) (b : Option BufId) :
    s.freeOptBuffer b = s.bufferFreed b := by
  cases b with
  | none => rfl
  | some b => exact State.freeBuffer_of_noneWaits ⟨hdrop, by rw [hengine]; rfl⟩ b

/-- The engine finds no work. -/
theorem State.engineNext_nothing (hready : s.readiness = .ready) (hengine : s.engine = .idle) (hrescues : s.rescues = [])
    (hfifo : s.refreshFifo = []) : s.engineNext = s := State.takeWork_nothing hready hengine hrescues hfifo

end Steps

end Sys2Proof.Machine
end

section
/-! PROGRAM_COMPLETE of a capture page (R127, R133, R142, R151). -/

namespace Sys2Proof.Machine

section Full

variable {s : State} {u : Nat} {y : UnitEntry} {buf : BufId}

/-- A unit holds its last page. -/
def UnitEntry.filled (y : UnitEntry) : Prop := y.nextPage = 64 ∨ y.finalPage.any (fun f => decide (f < y.nextPage)) = true

theorem State.checkFull_open (hu : s.unit u = some y) (hnot : ¬ y.filled) : s.checkFull u = s := by
  unfold State.checkFull
  rw [hu]
  exact if_neg fun h => hnot h.2.2

theorem State.checkFull_full (hu : s.unit u = some y) (hstate : y.state = .opened) (hrole : y.role = some .chain) (hfilled : y.filled) :
    s.checkFull u = if y.refreshWanted then
        ({ s.modUnit u (fun x => { x with state := .full }) with refreshFifo := s.refreshFifo ++ [u] } : State).engineKick
      else s.modUnit u fun x => { x with state := .full } := by
  unfold State.checkFull
  rw [hu]
  exact if_pos ⟨hstate, hrole, hfilled⟩

/-- The buffer of a page programmed: FREE, or CACHED while pins hold it (R127). -/
def Buffer.confirmed (x : Buffer) : Buffer := if x.pins = 0 then freeRecord else { x with state := .cached, owner := .none_ }

theorem State.confirmBuffer_quiet (h : s.noneWaits) : s.confirmBuffer buf = s.setBuffer buf (s.buffer buf).confirmed := by
  unfold State.confirmBuffer Buffer.confirmed
  split
  · exact State.freeBuffer_of_noneWaits h buf
  · rfl

end Full

section Capture

variable {s : State} {b : BankId} {cls n id tp u p at_ : Nat} {buf : BufId} {e : UnitEntry}

/-- The state with the page in a buffer programmed. -/
def State.programmed (s : State) (b : BankId) (u p : Nat) (buf : BufId) : State :=
  (s.setBank b .idle).storePage u p (s.readBuf buf 0 2112)

theorem State.programmed_eq (s : State) (b : BankId) (u p : Nat) (buf : BufId) :
    ∃ f, s.programmed b u p buf = { s.setBank b .idle with flash := f } := State.storePage_eq ..

theorem inChain_of_open (hstate : e.state = .opened) (hrole : e.role = some .chain) : e.inChain = true := by
  simp [UnitEntry.inChain, hstate, hrole]

theorem State.captureDone_pass (hu : s.unit u = some e) (hchain : e.inChain = true) :
    (s.setBank b .idle).captureDone ⟨cls, n, .captureProgram buf id tp⟩ buf u p .pass =
      ((s.programmed b u p buf).advanceUnit u).confirmBuffer buf := by
  obtain ⟨f, hshape⟩ := s.programmed_eq b u p buf
  have hin : (s.programmed b u p buf).unitInChain u = true := by
    have hu' : (s.programmed b u p buf).unit u = some e := by
      rw [hshape]
      exact hu
    rw [State.unitInChain, hu']
    exact hchain
  exact if_pos hin

/-- The unit after one more page. -/
def UnitEntry.advanced (y : UnitEntry) : UnitEntry := { y with nextPage := y.nextPage + 1 }

theorem State.advanceUnit_eq (s : State) (u : Nat) : s.advanceUnit u = (s.modUnit u UnitEntry.advanced).checkFull u := rfl

theorem State.unit_advanced (hu : s.unit u = some e) (b : BankId) (p : Nat) (buf : BufId) :
    ((s.programmed b u p buf).modUnit u UnitEntry.advanced).unit u = some e.advanced := by
  obtain ⟨f, hshape⟩ := s.programmed_eq b u p buf
  have hu' : (s.programmed b u p buf).unit u = some e := by
    rw [hshape]
    exact hu
  rw [State.unit_modUnit_same (f := UnitEntry.advanced) (hf := fun _ => rfl), hu']
  rfl

theorem captureDone_more (hbusy : s.bank b = .busy ⟨cls, n, .captureProgram buf id tp⟩ u p at_) (hu : s.unit u = some e)
    (hstate : e.state = .opened) (hrole : e.role = some .chain) (hnot : ¬ e.advanced.filled) (hwaits : s.noneWaits) :
    exec (.programComplete b .pass) s = .next
      (((s.programmed b u p buf).modUnit u UnitEntry.advanced).setBuffer buf (s.buffer buf).confirmed).issue := by
  rw [execProgramComplete_eq hbusy rfl]
  show Host.Outcome.next (State.settle s ((s.setBank b .idle).captureDone ⟨cls, n, .captureProgram buf id tp⟩ buf u p .pass)) = _
  rw [State.captureDone_pass hu (inChain_of_open hstate hrole), State.advanceUnit_eq,
    State.checkFull_open (State.unit_advanced hu b p buf) hnot]
  obtain ⟨f, hshape⟩ := s.programmed_eq b u p buf
  rw [hshape, State.confirmBuffer_quiet (by exact hwaits), State.settle_same]
  · rfl
  · rfl

theorem captureDone_last (hbusy : s.bank b = .busy ⟨cls, n, .captureProgram buf id tp⟩ u p at_) (hu : s.unit u = some e)
    (hstate : e.state = .opened) (hrole : e.role = some .chain) (hfilled : e.advanced.filled) (hdrop : s.dropWait = [])
    (hengine : s.engine = .idle) (hfifo : s.refreshFifo = []) :
    exec (.programComplete b .pass) s = .next (State.settle s
      (let v := (s.programmed b u p buf).modUnit u fun y => { y with nextPage := y.nextPage + 1, state := .full }
      if e.refreshWanted then ({ v with refreshFifo := [u] } : State).engineNext.confirmBuffer buf
      else v.setBuffer buf (s.buffer buf).confirmed)) := by
  rw [execProgramComplete_eq hbusy rfl]
  show Host.Outcome.next (State.settle s ((s.setBank b .idle).captureDone ⟨cls, n, .captureProgram buf id tp⟩ buf u p .pass)) = _
  rw [State.captureDone_pass hu (inChain_of_open hstate hrole), State.advanceUnit_eq,
    State.checkFull_full (State.unit_advanced hu b p buf) hstate hrole hfilled]
  have hmod : ((s.programmed b u p buf).modUnit u UnitEntry.advanced).modUnit u (fun x => { x with state := .full }) =
      (s.programmed b u p buf).modUnit u fun y => { y with nextPage := y.nextPage + 1, state := .full } :=
    State.modUnit_modUnit (hf := fun _ => rfl) ..
  rw [hmod, show e.advanced.refreshWanted = e.refreshWanted from rfl]
  obtain ⟨f, hshape⟩ := s.programmed_eq b u p buf
  have hlist : ((s.programmed b u p buf).modUnit u UnitEntry.advanced).refreshFifo ++ [u] = [u] := by
    rw [hshape]
    exact congrArg (· ++ [u]) hfifo
  have hidle : (s.programmed b u p buf).engine = .idle := by
    rw [hshape]
    exact hengine
  have hquiet : (s.programmed b u p buf).noneWaits := by
    rw [hshape]
    exact ⟨hdrop, hengine ▸ rfl⟩
  have hbuffer : (s.programmed b u p buf).buffer buf = s.buffer buf := by
    rw [hshape]
    rfl
  rw [hlist]
  dsimp only
  by_cases hwanted : e.refreshWanted = true
  · rw [if_pos hwanted, if_pos hwanted, State.engineKick, if_pos (by exact hidle)]
  · rw [if_neg hwanted, if_neg hwanted, State.confirmBuffer_quiet (by exact hquiet), State.buffer_modUnit, hbuffer]

/-- The state with a page whose program failed: its contents open, its failure counted and its unit's rescue entered. -/
def State.programLost (s : State) (b : BankId) (u p : Nat) (e : UnitEntry) : State :=
  { (s.setBank b .idle).storePage u p ((List.range 2112).map (Config.freeByte s.freeUses)) with
    freeUses := s.freeUses + 1
    counters := { s.counters with programFailures := min (s.counters.programFailures + 1) 4294967295 }
    rescues := s.rescues ++ [⟨e.owner.getD 0, e.chain.getD 0, u, e.nextPage⟩] }

theorem State.programLost_eq (s : State) (b : BankId) (u p : Nat) (e : UnitEntry) : ∃ f, s.programLost b u p e =
    { s.setBank b .idle with
      flash := f
      freeUses := s.freeUses + 1
      counters := { s.counters with programFailures := min (s.counters.programFailures + 1) 4294967295 }
      rescues := s.rescues ++ [⟨e.owner.getD 0, e.chain.getD 0, u, e.nextPage⟩] } := by
  obtain ⟨f, h⟩ := (s.setBank b .idle).storePage_eq u p ((List.range 2112).map (Config.freeByte s.freeUses))
  exact ⟨f, by rw [State.programLost, h]⟩

/-- The rescue entered, with what it makes of the engine's work (R147, R151). -/
def State.rescueTaken (s : State) : State :=
  match s.engine with
  | .idle => s.engineNext
  | .rescue _ => s
  | .refresh w => if w.flight = .none_ then s.setAside w else { s with engine := .refresh { w with aside := true } }

theorem captureDone_fail (hbusy : s.bank b = .busy ⟨cls, n, .captureProgram buf id tp⟩ u p at_) (hu : s.unit u = some e)
    (hstate : e.state = .opened) (hrole : e.role = some .chain) :
    exec (.programComplete b .fail) s = .next (State.settle s
      ((s.programLost b u p e).waitAgain ⟨cls, n, .captureProgram buf id tp⟩ buf).rescueTaken) := by
  rw [execProgramComplete_eq hbusy rfl]
  refine congrArg (fun v => Host.Outcome.next (State.settle s v)) ?_
  show (s.setBank b .idle).captureDone ⟨cls, n, .captureProgram buf id tp⟩ buf u p .fail = _
  obtain ⟨f, hshape⟩ := (s.setBank b .idle).storePage_eq u p ((List.range 2112).map (Config.freeByte s.freeUses))
  have hspoil : ((s.setBank b .idle).spoilPage u p).countProgramFailure =
      { s.setBank b .idle with
        flash := f
        freeUses := s.freeUses + 1
        counters := { s.counters with programFailures := min (s.counters.programFailures + 1) 4294967295 } } := by
    rw [State.spoilPage_eq]
    show State.countProgramFailure { (s.setBank b .idle).storePage u p ((List.range 2112).map (Config.freeByte s.freeUses)) with
      freeUses := s.freeUses + 1 } = _
    rw [hshape]
    rfl
  have hfilter : (s.unit u).filter UnitEntry.inChain = some e := by
    rw [hu, Option.filter_some, inChain_of_open hstate hrole]
    rfl
  unfold State.captureDone
  dsimp only
  rw [hspoil]
  show (match (s.unit u).filter UnitEntry.inChain with
    | some u' => _
    | none => _) = _
  rw [hfilter, State.programLost, hshape]
  rfl

end Capture

end Sys2Proof.Machine
end

section
/-! The ends of the engine's work: a refresh or a rescue done, set aside or stopped (R147, R149, R150, R153, R154). -/

namespace Sys2Proof.Machine

/-- The state with an IDLE engine. -/
def State.idled (s : State) : State := { s with engine := .idle }

section Freed

variable (s : State) (b : Option BufId)

theorem State.bufferFreed_eq : ∃ bufs, s.bufferFreed b = { s with buffers := bufs } := by
  cases b with
  | none => exact ⟨_, rfl⟩
  | some b => exact ⟨_, rfl⟩

theorem State.idled_freeOptBuffer (h : s.dropWait = []) : s.idled.freeOptBuffer b = s.idled.bufferFreed b :=
  State.freeOptBuffer_idle (by exact h) rfl b

/-- The state with the rescues replaced. -/
def State.withRescues (l : List Rescue) : State := { s with rescues := l }

variable (a : Alert)

theorem State.idled_raise : (s.raise a).idled = s.idled.raise a := by
  rw [State.raise_eq, State.raise_eq]
  rfl

theorem State.bufferFreed_raise : (s.raise a).bufferFreed b = (s.bufferFreed b).raise a := by
  cases b with
  | none => rfl
  | some b => exact State.setBuffer_raise ..

theorem State.withRescues_raise (l : List Rescue) : (s.raise a).withRescues l = (s.withRescues l).raise a := by
  rw [State.raise_eq, State.raise_eq]
  rfl

variable {s} in
theorem State.engineNext_raise_nothing (hready : s.readiness = .ready) (hengine : s.engine = .idle) (hrescues : s.rescues = [])
    (hfifo : s.refreshFifo = []) : (s.raise a).engineNext = s.raise a := by
  rw [State.raise_eq]
  exact State.engineNext_nothing hready hengine hrescues hfifo

/-- What work that ends leaves for the engine's next. -/
theorem State.bufferFreed_idled : (s.idled.bufferFreed b).readiness = s.readiness ∧ (s.idled.bufferFreed b).engine = .idle ∧
    (s.idled.bufferFreed b).rescues = s.rescues ∧ (s.idled.bufferFreed b).refreshFifo = s.refreshFifo := by
  obtain ⟨bufs, e⟩ := s.idled.bufferFreed_eq b
  rw [e]
  exact ⟨rfl, rfl, rfl, rfl⟩

end Freed

section Ends

variable {s : State} {w : Work} {d : Nat} {src dst : UnitEntry}

/-- A destination as the chain's unit after a refresh (R150). -/
def UnitEntry.refreshed (final : Option Nat) (y : UnitEntry) : UnitEntry :=
  { y with state := .full, role := some .chain, finalPage := final, refreshWanted := false }

theorem State.endRefresh_eq (hsrc : s.unit w.source = some src) (hne : w.source ≠ d) (hready : s.readiness = .ready)
    (hrescues : s.rescues = []) (hfifo : s.refreshFifo = []) (hreclaim : s.reclaimFifo = []) (hdrop : s.dropWait = [])
    (hflight : src.inFlight = 0) (hnum : s.requestNumber ≤ 4294967295) : s.endRefresh w d =
      ((((s.modUnit d (UnitEntry.refreshed src.finalPage)).modUnit w.source UnitEntry.unowned).opRequested 5
        (.erase w.source)).idled.bufferFreed w.buf).raise (.refreshDone w.take w.chain w.source d w.damaged) := by
  have hfinal : (s.unit w.source).bind UnitEntry.finalPage = src.finalPage := by
    rw [hsrc]
    rfl
  have hunit : (s.modUnit d (UnitEntry.refreshed src.finalPage)).unit w.source = some src :=
    (State.unit_modUnit_ne s hne (f := UnitEntry.refreshed src.finalPage) fun _ => rfl).trans hsrc
  have hsteps : s.endRefresh w d = (((((s.modUnit d (UnitEntry.refreshed ((s.unit w.source).bind UnitEntry.finalPage))).reclaimUnit
      w.source).idled.freeOptBuffer w.buf).raise (.refreshDone w.take w.chain w.source d w.damaged))).engineNext := rfl
  rw [hsteps, hfinal, State.reclaimUnit_erases (by exact hready) (by exact hreclaim) hunit hflight (by exact hnum),
    State.idled_freeOptBuffer _ _ (by exact hdrop)]
  obtain ⟨bufs, e⟩ := State.bufferFreed_eq (((s.modUnit d (UnitEntry.refreshed src.finalPage)).modUnit w.source
    UnitEntry.unowned).opRequested 5 (.erase w.source)).idled w.buf
  rw [e, State.raise_eq, State.engineNext_nothing]
  · exact hready
  · rfl
  · exact hrescues
  · exact hfifo

/-- A destination as the chain's unit after a rescue (R153). -/
def UnitEntry.rescued (page : Nat) (final : Option Nat) (y : UnitEntry) : UnitEntry :=
  { y with
    nextPage := page
    state := if final.any (fun f => decide (f < page)) then .full else .opened
    role := some .chain
    finalPage := final }

/-- The end of a rescue, its failed unit RETIRED. -/
def State.endRescueSteps (w : Work) (s : State) : State :=
  let u := (s.requestOp 5 (.erase w.source)).idled.freeOptBuffer w.buf
  (u.withRescues (u.rescues.filter fun y => y.unit != w.source)).engineNext

theorem State.endRescue_eq {e : Rescue} {x : BankId × Nat} (hsrc : s.unit w.source = some src) (hready : s.readiness = .ready)
    (hrescues : s.rescues = [e]) (he : e.unit = w.source) (hfifo : s.refreshFifo = []) (hdrop : s.dropWait = [])
    (hbank : s.bankOf w.source = some x) (hnum : s.requestNumber ≤ 4294967295) : s.endRescue State.engineNext w d =
      ({ ((((s.modUnit d (UnitEntry.rescued e.page src.finalPage)).modUnit w.source UnitEntry.retire).opRequested 5
        (.erase w.source)).idled.bufferFreed w.buf) with rescues := [] } : State).raise (.unitRetired w.source x.1 .program) := by
  have hfinal : (s.unit w.source).bind UnitEntry.finalPage = src.finalPage := by
    rw [hsrc]
    rfl
  have hpage : ((s.rescues.find? fun y => y.unit == w.source).map Rescue.page).getD 0 = e.page := by
    rw [hrescues]
    simp [he]
  have hbank' : (s.modUnit d (UnitEntry.rescued e.page src.finalPage)).bankOf w.source = some x := hbank
  have hsteps : s.endRescue State.engineNext w d = State.endRescueSteps w
      ((s.modUnit d (UnitEntry.rescued e.page src.finalPage)).retireUnit w.source .program) := by
    unfold State.endRescue
    dsimp only
    rw [hfinal, hpage]
    unfold UnitEntry.rescued
    cases src.finalPage <;> rfl
  have hrequest : ∀ t : State, t.requestNumber = s.requestNumber → ∀ a, (t.raise a).requestOp 5 (.erase w.source) =
      (t.opRequested 5 (.erase w.source)).raise a := fun t ht a => by
    rw [State.requestOp_eq, State.opRequested_raise]
    rw [State.raise_eq]
    exact Nat.le_trans (Nat.le_of_eq ht) hnum
  have hfree : ∀ t : State, t.dropWait = [] → ∀ a, (t.raise a).idled.freeOptBuffer w.buf = (t.idled.bufferFreed w.buf).raise a :=
    fun t ht a => by
      rw [State.idled_freeOptBuffer, State.idled_raise, State.bufferFreed_raise]
      rw [State.raise_eq]
      exact ht
  rw [hsteps, State.retireUnit_eq hbank', State.endRescueSteps, hrequest _ (by rfl), hfree _ (by exact hdrop)]
  generalize ht : ((s.modUnit d (UnitEntry.rescued e.page src.finalPage)).modUnit w.source UnitEntry.retire).opRequested 5
    (.erase w.source) = t
  obtain ⟨hready', hidle, hresc, hfifo'⟩ := t.bufferFreed_idled w.buf
  have hlist : ((t.idled.bufferFreed w.buf).raise (.unitRetired w.source x.1 .program)).rescues = [e] := by
    rw [State.raise_eq, hresc, ← ht]
    exact hrescues
  have hfilter : [e].filter (fun y => y.unit != w.source) = [] := by simp [he]
  dsimp only
  rw [hlist, hfilter, State.withRescues_raise]
  refine State.engineNext_raise_nothing _ (hready'.trans ?_) hidle rfl (hfifo'.trans ?_)
  · rw [← ht]
    exact hready
  · rw [← ht]
    exact hfifo

/-- The state of work that ends before its time: its buffer let go and its destination erased (R147, R154). -/
def State.workDropped (s : State) (w : Work) (d : Nat) : State :=
  ((s.bufferFreed w.buf).modUnit d UnitEntry.unowned).idled.opRequested 5 (.erase d)

theorem State.dropWork (hdest : w.dest = some d) (hready : s.readiness = .ready) (hreclaim : s.reclaimFifo = [])
    (hdrop : s.dropWait = []) (hdst : s.unit d = some dst) (hflight : dst.inFlight = 0) (hnum : s.requestNumber ≤ 4294967295) :
    (s.idled.freeOptBuffer w.buf).reclaimOpt w.dest = s.workDropped w d := by
  have hfreed : s.idled.bufferFreed w.buf = (s.bufferFreed w.buf).idled := by
    cases w.buf <;> rfl
  obtain ⟨bufs, e⟩ := s.bufferFreed_eq w.buf
  have hreclaimed := State.reclaimUnit_erases (s := (s.bufferFreed w.buf).idled) (n := d) (u := dst) (by rw [e]; exact hready)
    (by rw [e]; exact hreclaim) (by rw [e]; exact hdst) hflight (by rw [e]; exact hnum)
  rw [State.idled_freeOptBuffer _ _ hdrop, hfreed, hdest]
  exact hreclaimed

theorem State.setAside_eq (hdest : w.dest = some d) (hready : s.readiness = .ready) (hreclaim : s.reclaimFifo = [])
    (hdrop : s.dropWait = []) (hdst : s.unit d = some dst) (hflight : dst.inFlight = 0) (hnum : s.requestNumber ≤ 4294967295) :
    s.setAside w = State.engineNext { s.workDropped w d with refreshFifo := w.source :: s.refreshFifo } := by
  have hsteps : s.setAside w = State.engineNext { (s.idled.freeOptBuffer w.buf).reclaimOpt w.dest with
      refreshFifo := w.source :: ((s.idled.freeOptBuffer w.buf).reclaimOpt w.dest).refreshFifo } := rfl
  obtain ⟨bufs, e⟩ := s.bufferFreed_eq w.buf
  have hkept : (s.workDropped w d).refreshFifo = s.refreshFifo := by
    rw [State.workDropped, e]
    rfl
  rw [hsteps, State.dropWork hdest hready hreclaim hdrop hdst hflight hnum, hkept]

theorem State.stopWork_eq (hdest : w.dest = some d) (hready : s.readiness = .ready) (hreclaim : s.reclaimFifo = [])
    (hdrop : s.dropWait = []) (hdst : s.unit d = some dst) (hflight : dst.inFlight = 0) (hnum : s.requestNumber ≤ 4294967295) :
    s.stopWork w = State.engineNext { s.workDropped w d with rescues := s.rescues.filter fun e => e.unit != w.source } := by
  have hsteps : s.stopWork w = State.engineNext
      ((({ s with rescues := s.rescues.filter fun e => e.unit != w.source } : State).idled.freeOptBuffer w.buf).reclaimOpt w.dest) := rfl
  rw [hsteps, State.dropWork hdest (by exact hready) (by exact hreclaim) (by exact hdrop) (by exact hdst) hflight (by exact hnum)]
  cases hbuf : w.buf <;> simp only [State.workDropped, hbuf] <;> rfl

end Ends

end Sys2Proof.Machine
end

section
/-! PROGRAM_COMPLETE of a page the engine copies (R147, R149, R150, R153, R154). -/

namespace Sys2Proof.Machine

section Copy

variable {s : State} {b : BankId} {cls n d p at_ : Nat} {buf : BufId} {z : Bool} {w : Work} {src : UnitEntry}

/-- Work with nothing in flight. -/
def Work.landed (w : Work) : Work := { w with flight := .none_ }

theorem execCopyProgram_pass (hbusy : s.bank b = .busy ⟨cls, n, .copyProgram d p buf⟩ d p at_) (hengine : s.engine = .of z w) :
    exec (.programComplete b .pass) s = .next (State.settle s
      (if w.stopping then (s.programmed b d p buf).stopWork w.landed
      else if w.aside then (s.programmed b d p buf).setAside w.landed
      else (s.programmed b d p buf).copyAdvance z w.landed d buf)) := by
  have hwork : (s.programmed b d p buf).engine.work = some (z, w) := by
    obtain ⟨f, e⟩ := s.programmed_eq b d p buf
    rw [e]
    exact (congrArg Engine.work hengine).trans (work_of z w)
  rw [execProgramComplete_eq hbusy rfl]
  refine congrArg (fun v => Host.Outcome.next (State.settle s v)) ?_
  show State.copyDone (s.setBank b .idle) buf d p .pass = _
  unfold State.copyDone
  dsimp only
  show (match (s.programmed b d p buf).engine.work with
    | none => _
    | some (isRescue, w) => _) = _
  rw [hwork]
  rfl

/-- The units and the rescues once the page is in the destination. -/
theorem State.unit_programmed (hsrc : s.unit w.source = some src) (hne : w.source ≠ d) :
    ((s.programmed b d p buf).modUnit d UnitEntry.advanced).unit w.source = some src := by
  obtain ⟨f, e⟩ := s.programmed_eq b d p buf
  rw [State.unit_modUnit_ne _ hne (f := UnitEntry.advanced) fun _ => rfl, e]
  exact hsrc

/-- The number of pages that work copies. -/
theorem State.copyPages_programmed {m : Nat} (hsrc : s.unit w.source = some src) (hne : w.source ≠ d)
    (hpages : if z then ∃ e, s.rescues.find? (fun y => y.unit == w.source) = some e ∧ e.page = m else src.nextPage = m) :
    ((s.programmed b d p buf).modUnit d UnitEntry.advanced).copyPages z w.landed = m := by
  obtain ⟨f, hshape⟩ := s.programmed_eq b d p buf
  have hunit := State.unit_programmed (b := b) (p := p) (buf := buf) hsrc hne
  cases z with
  | true =>
    obtain ⟨e, hfind, hpage⟩ := hpages
    have hresc : ((s.programmed b d p buf).modUnit d UnitEntry.advanced).rescues = s.rescues := by
      rw [hshape]
      rfl
    show (((((s.programmed b d p buf).modUnit d UnitEntry.advanced).rescues.find? fun y => y.unit == w.source).map
      Rescue.page).getD 0) = m
    rw [hresc, hfind]
    exact hpage
  | false =>
    show ((((s.programmed b d p buf).modUnit d UnitEntry.advanced).unit w.source).map UnitEntry.nextPage).getD 0 = m
    rw [hunit]
    exact hpages

theorem State.copyAdvance_eq {m : Nat} (hsrc : s.unit w.source = some src) (hne : w.source ≠ d)
    (hpages : if z then ∃ e, s.rescues.find? (fun y => y.unit == w.source) = some e ∧ e.page = m else src.nextPage = m) :
    (s.programmed b d p buf).copyAdvance z w.landed d buf =
      let v := (s.programmed b d p buf).modUnit d UnitEntry.advanced
      if w.page + 1 < m then v.requestCopyRead z { w.landed with page := w.page + 1 } buf
      else if z then v.endRescue State.engineNext w.landed d
      else v.endRefresh w.landed d := by
  have h := State.copyPages_programmed (z := z) (b := b) (p := p) (buf := buf) hsrc hne hpages
  have hsteps : (s.programmed b d p buf).copyAdvance z w.landed d buf =
      let v := (s.programmed b d p buf).modUnit d UnitEntry.advanced
      if w.page + 1 < v.copyPages z w.landed then v.requestCopyRead z { w.landed with page := w.page + 1 } buf
      else if z then v.endRescue State.engineNext w.landed d
      else v.endRefresh w.landed d := rfl
  rw [hsteps]
  dsimp only
  rw [h]

/-- The state with a page whose program failed: its contents open and its failure counted. -/
def State.copySpoiled (s : State) (b : BankId) (d p : Nat) : State :=
  { (s.setBank b .idle).storePage d p ((List.range 2112).map (Config.freeByte s.freeUses)) with
    freeUses := s.freeUses + 1
    counters := { s.counters with programFailures := min (s.counters.programFailures + 1) 4294967295 } }

theorem State.copySpoiled_eq (s : State) (b : BankId) (d p : Nat) : ∃ f, s.copySpoiled b d p = { s.setBank b .idle with
    flash := f
    freeUses := s.freeUses + 1
    counters := { s.counters with programFailures := min (s.counters.programFailures + 1) 4294967295 } } := by
  obtain ⟨f, h⟩ := (s.setBank b .idle).storePage_eq d p ((List.range 2112).map (Config.freeByte s.freeUses))
  exact ⟨f, by rw [State.copySpoiled, h]⟩

theorem State.spoilPage_counted (s : State) (b : BankId) (d p : Nat) :
    ((s.setBank b .idle).spoilPage d p).countProgramFailure = s.copySpoiled b d p := by
  obtain ⟨f, h⟩ := (s.setBank b .idle).storePage_eq d p ((List.range 2112).map (Config.freeByte s.freeUses))
  rw [State.spoilPage_eq, State.copySpoiled]
  show State.countProgramFailure { (s.setBank b .idle).storePage d p ((List.range 2112).map (Config.freeByte s.freeUses)) with
    freeUses := s.freeUses + 1 } = _
  rw [h]
  rfl

theorem execCopyProgram_fail (hbusy : s.bank b = .busy ⟨cls, n, .copyProgram d p buf⟩ d p at_) (hengine : s.engine = .refresh w)
    (hstopping : w.stopping = false) (haside : w.aside = false) : exec (.programComplete b .fail) s = .next (State.settle s
      (((s.copySpoiled b d p).retireUnit d .program).restartRefresh w.landed)) := by
  have hwork : (s.copySpoiled b d p).engine.work = some (false, w) := by
    obtain ⟨f, e⟩ := s.copySpoiled_eq b d p
    rw [e]
    exact congrArg Engine.work hengine
  rw [execProgramComplete_eq hbusy rfl]
  refine congrArg (fun v => Host.Outcome.next (State.settle s v)) ?_
  show State.copyDone (s.setBank b .idle) buf d p .fail = _
  unfold State.copyDone
  dsimp only
  rw [State.spoilPage_counted, hwork]
  dsimp only
  rw [if_neg (by simp [hstopping]), if_neg (by simp [haside])]
  rfl

/-- A refresh whose destination failed starts again with another (R149). -/
theorem State.restartRefresh_granted {m : Nat} {rest : List Nat} (hlist : s.freeList = m :: rest) (hlen : 2 ≤ rest.length)
    (hlow : rest.length ≠ s.lowWater) (hseq : s.writeSeq < 4294967295) (hbuf : w.buf = some buf) (hnum : s.requestNumber ≤ 4294967295) :
    s.restartRefresh w = (s.unitGranted w.take w.chain .destination m rest).copyReading false
      { w with dest := some m, page := 0, damaged := 0 } buf := by
  have hneed : captureNeed ≤ rest.length + 1 := by simp only [captureNeed, Config.captureReserve]; omega
  unfold State.restartRefresh
  rw [State.grantUnit_quiet hlist hseq hneed hlow]
  dsimp only
  rw [hbuf]
  exact State.requestCopyRead_eq (by exact hnum) false

end Copy

end Sys2Proof.Machine
end

section
/-! PROGRAM_COMPLETE of a page the engine copies: the next page, the work's end, and the refresh that starts again. -/

namespace Sys2Proof.Machine

/-- `v`, with the copy read that work `y` asks for after the requests of `s`. -/
def State.readsNext (s : State) (z : Bool) (w y : Work) (buf : BufId) (v : State) : State :=
  { v.modUnit w.source fun u => { u with inFlight := u.inFlight + 1 } with
      engine := if z then .rescue { y with buf := some buf, flight := .read } else .refresh { y with buf := some buf, flight := .read }
      flashOps := s.flashOps ++ [⟨if z then 2 else 4, s.requestNumber, .pageRead w.source y.page buf .engine⟩]
      requestNumber := s.requestNumber + 1 }

/-- `v`, with the erase of unit `m` requested after the requests of `s`. -/
def State.erasesNext (s v : State) (m : Nat) : State :=
  { v with flashOps := s.flashOps ++ [⟨5, s.requestNumber, .erase m⟩], requestNumber := s.requestNumber + 1 }

/-- `v`, with the engine IDLE and its buffer FREE. -/
def State.copyFreed (buf : BufId) (v : State) : State := { v.setBuffer buf freeRecord with engine := .idle }

section Copy

variable {s : State} {b : BankId} {cls n d p at_ : Nat} {buf : BufId} {z : Bool} {w : Work} {src : UnitEntry}

theorem copyReading_eq (v : State) (y : Work) (hy : y.source = w.source) (hops : v.flashOps = s.flashOps)
    (hnum : v.requestNumber = s.requestNumber) : v.copyReading z y buf = s.readsNext z w y buf v := by
  cases y
  subst hy
  unfold State.readsNext
  rw [← hops, ← hnum]
  cases z <;> rfl

theorem copyFreed_eq (v : State) (m : Nat) (hops : v.flashOps = s.flashOps) (hnum : v.requestNumber = s.requestNumber) :
    (v.opRequested 5 (.erase m)).idled.bufferFreed (some buf) = State.copyFreed buf (s.erasesNext v m) := by
  unfold State.erasesNext
  rw [← hops, ← hnum]
  rfl

theorem State.takes_copyFreed (v : State) (m : Nat) : (State.copyFreed buf (s.erasesNext v m)).takes = v.takes := rfl

theorem State.takes_readsNext (v : State) (y : Work) : (s.readsNext z w y buf v).takes = v.takes := rfl

theorem copy_reads {m : Nat} (hbusy : s.bank b = .busy ⟨cls, n, .copyProgram d p buf⟩ d p at_) (hengine : s.engine = .of z w)
    (hsrc : s.unit w.source = some src) (hne : w.source ≠ d) (hnum : s.requestNumber ≤ 4294967295) (hstopping : w.stopping = false)
    (haside : w.aside = false)
    (hpages : if z then ∃ e, s.rescues.find? (fun y => y.unit == w.source) = some e ∧ e.page = m else src.nextPage = m)
    (hmore : w.page + 1 < m) : exec (.programComplete b .pass) s = .next
      (s.readsNext z w { w with page := w.page + 1 } buf ((s.programmed b d p buf).modUnit d UnitEntry.advanced)).issue := by
  have hstep := State.copyAdvance_eq (b := b) (p := p) (buf := buf) hsrc hne hpages
  dsimp only at hstep
  rw [if_pos hmore] at hstep
  rw [execCopyProgram_pass hbusy hengine, if_neg (by simp [hstopping]), if_neg (by simp [haside]), hstep]
  obtain ⟨f, hshape⟩ := s.programmed_eq b d p buf
  generalize s.programmed b d p buf = t at hshape ⊢
  subst hshape
  rw [State.requestCopyRead_eq (by exact hnum), copyReading_eq (s := s) (w := w) (hy := by rfl) (hops := by rfl) (hnum := by rfl),
    State.settle_same]
  · rfl
  · rfl

theorem copy_refreshed (hbusy : s.bank b = .busy ⟨cls, n, .copyProgram d p buf⟩ d p at_) (hengine : s.engine = .refresh w)
    (hsrc : s.unit w.source = some src) (hne : w.source ≠ d) (hnum : s.requestNumber ≤ 4294967295) (hbuf : w.buf = some buf)
    (hstopping : w.stopping = false) (haside : w.aside = false) (hpages : src.nextPage ≤ w.page + 1) (hready : s.readiness = .ready)
    (hresc : s.rescues = []) (hfifo : s.refreshFifo = []) (hreclaim : s.reclaimFifo = []) (hdrop : s.dropWait = [])
    (hflight : src.inFlight = 0) : exec (.programComplete b .pass) s = .next
      ((State.copyFreed buf (s.erasesNext (((s.programmed b d p buf).modUnit d fun y =>
        (y.advanced).refreshed src.finalPage).modUnit w.source UnitEntry.unowned) w.source)).raise
          (.refreshDone w.take w.chain w.source d w.damaged)).issue := by
  have hstep := State.copyAdvance_eq (z := false) (b := b) (p := p) (buf := buf) hsrc hne rfl
  dsimp only at hstep
  rw [if_neg (Nat.not_lt.mpr hpages), if_neg Bool.false_ne_true] at hstep
  have hunit := State.unit_programmed (b := b) (p := p) (buf := buf) hsrc hne
  rw [execCopyProgram_pass (z := false) hbusy hengine, if_neg (by simp [hstopping]), if_neg (by simp [haside]), hstep]
  obtain ⟨f, hshape⟩ := s.programmed_eq b d p buf
  generalize s.programmed b d p buf = t at hshape hunit ⊢
  subst hshape
  rw [State.endRefresh_eq (w := w.landed) hunit hne hready hresc hfifo hreclaim hdrop hflight hnum,
    State.modUnit_modUnit (f := UnitEntry.advanced) (hf := fun _ => rfl), show w.landed.buf = some buf from hbuf,
    copyFreed_eq (s := s) (hops := by rfl) (hnum := by rfl), State.settle_same]
  · rfl
  · rw [State.takes_raise, State.takes_copyFreed]
    rfl

theorem copy_rescued {e : Rescue} {x : BankId × Nat} (hbusy : s.bank b = .busy ⟨cls, n, .copyProgram d p buf⟩ d p at_)
    (hengine : s.engine = .rescue w)
    (hsrc : s.unit w.source = some src) (hne : w.source ≠ d) (hnum : s.requestNumber ≤ 4294967295) (hbuf : w.buf = some buf)
    (hstopping : w.stopping = false) (haside : w.aside = false) (hresc : s.rescues = [e]) (he : e.unit = w.source)
    (hpages : e.page ≤ w.page + 1) (hready : s.readiness = .ready) (hfifo : s.refreshFifo = []) (hdrop : s.dropWait = [])
    (hbank : s.bankOf w.source = some x) : exec (.programComplete b .pass) s = .next
      (({ State.copyFreed buf (s.erasesNext (((s.programmed b d p buf).modUnit d fun y =>
        (y.advanced).rescued e.page src.finalPage).modUnit w.source UnitEntry.retire) w.source) with rescues := [] } : State).raise
          (.unitRetired w.source x.1 .program)).issue := by
  have hfind : s.rescues.find? (fun y => y.unit == w.source) = some e := by
    rw [hresc]
    simp [he]
  have hstep := State.copyAdvance_eq (z := true) (b := b) (p := p) (buf := buf) hsrc hne ⟨e, hfind, rfl⟩
  dsimp only at hstep
  rw [if_neg (Nat.not_lt.mpr hpages), if_pos rfl] at hstep
  have hunit := State.unit_programmed (b := b) (p := p) (buf := buf) hsrc hne
  rw [execCopyProgram_pass (z := true) hbusy hengine, if_neg (by simp [hstopping]), if_neg (by simp [haside]), hstep]
  obtain ⟨f, hshape⟩ := s.programmed_eq b d p buf
  generalize s.programmed b d p buf = t at hshape hunit ⊢
  subst hshape
  rw [State.endRescue_eq (w := w.landed) hunit hready hresc he hfifo hdrop hbank hnum,
    State.modUnit_modUnit (f := UnitEntry.advanced) (hf := fun _ => rfl), show w.landed.buf = some buf from hbuf,
    copyFreed_eq (s := s) (hops := by rfl) (hnum := by rfl), State.settle_same]
  · rfl
  · rw [State.takes_raise]
    exact State.takes_copyFreed (buf := buf) (s := s) _ w.source

theorem State.unitGranted_raise (v : State) (a : Alert) (take chain : Nat) (role : Role) (m : Nat) (rest : List Nat) :
    (v.raise a).unitGranted take chain role m rest = (v.unitGranted take chain role m rest).raise a := by
  rw [State.raise_eq, State.raise_eq]
  rfl

/-- A unit granted to work `w` as its destination, with write sequence `q` (R141). -/
def UnitEntry.toWork (w : Work) (q : Nat) (y : UnitEntry) : UnitEntry :=
  { y with
    state := .opened
    owner := some w.take
    chain := some w.chain
    role := some .destination
    writeSeq := some q
    nextPage := 0
    finalPage := none
    refreshWanted := false
    inFlight := 0 }

/-- The state in which a page's program failed, its unit RETIRED and another granted to the work (R149). -/
def State.regranted (s : State) (b : BankId) (d p : Nat) (w : Work) (m : Nat) (rest : List Nat) : State :=
  { (((s.setBank b .idle).storePage d p ((List.range 2112).map (Config.freeByte s.freeUses))).modUnit d UnitEntry.retire).modUnit m
      (UnitEntry.toWork w s.writeSeq) with
    freeUses := s.freeUses + 1
    counters := { s.counters with programFailures := min (s.counters.programFailures + 1) 4294967295 }
    freeList := rest
    writeSeq := s.writeSeq + 1 }

theorem State.regranted_eq (s : State) (b : BankId) (d p : Nat) (w : Work) (m : Nat) (rest : List Nat) :
    ((s.copySpoiled b d p).modUnit d UnitEntry.retire).unitGranted w.take w.chain .destination m rest = s.regranted b d p w m rest := by
  obtain ⟨f, h⟩ := (s.setBank b .idle).storePage_eq d p ((List.range 2112).map (Config.freeByte s.freeUses))
  rw [State.copySpoiled, State.regranted, h]
  rfl

theorem copy_restarts {m : Nat} {rest : List Nat} {x : BankId × Nat}
    (hbusy : s.bank b = .busy ⟨cls, n, .copyProgram d p buf⟩ d p at_) (hengine : s.engine = .refresh w)
    (hnum : s.requestNumber ≤ 4294967295) (hbuf : w.buf = some buf) (hstopping : w.stopping = false) (haside : w.aside = false)
    (hlist : s.freeList = m :: rest) (hlen : 2 ≤ rest.length) (hlow : rest.length ≠ s.lowWater) (hseq : s.writeSeq < 4294967295)
    (hbank : s.bankOf d = some x) : exec (.programComplete b .fail) s = .next
      (s.readsNext false w { w with dest := some m, page := 0, damaged := 0 } buf
        ((s.regranted b d p w m rest).raise (.unitRetired d x.1 .program))).issue := by
  rw [← State.regranted_eq, execCopyProgram_fail hbusy hengine hstopping haside]
  obtain ⟨f, hshape⟩ := s.copySpoiled_eq b d p
  generalize s.copySpoiled b d p = t at hshape ⊢
  subst hshape
  rw [State.retireUnit_eq (x := x) (by exact hbank), State.restartRefresh_granted (w := w.landed) (m := m) (rest := rest) (buf := buf)
    (by rw [State.raise_eq]; exact hlist) hlen (by rw [State.raise_eq]; exact hlow) (by rw [State.raise_eq]; exact hseq) hbuf
      (by rw [State.raise_eq]; exact hnum), State.unitGranted_raise, copyReading_eq (s := s) (w := w) (hy := by rfl)
        (hops := by rw [State.raise_eq]; rfl) (hnum := by rw [State.raise_eq]; rfl), State.settle_same]
  · rfl
  · rw [State.takes_readsNext, State.takes_raise]
    rfl

end Copy

end Sys2Proof.Machine
end

section
/-! PROGRAM_COMPLETE (R127, R142, R147, R149 to R151, R153, R154). -/

namespace Sys2Proof.Machine

section Capture

variable {s : State} {b : BankId} {cls n id tp u p at_ : Nat} {buf : BufId} {e : UnitEntry}

/-- The page waits again; the rescue entered leaves the take table alone unless the engine goes on. -/
theorem State.waitAgain_eq (s : State) (op : FlashOp) (buf : BufId) : s.waitAgain op buf =
    { s.setBuffer buf { s.buffer buf with state := .programWait, owner := .programQueue } with
      flashOps := reinsertOp op s.flashOps } := rfl

/-- The engine's state after a program failed is that before it. -/
theorem State.engine_programLost (op : FlashOp) (buf : BufId) :
    ((s.programLost b u p e).waitAgain op buf).engine = s.engine ∧ ((s.programLost b u p e).waitAgain op buf).takes = s.takes := by
  obtain ⟨f, h⟩ := s.programLost_eq b u p e
  rw [State.waitAgain_eq, h]
  exact ⟨rfl, rfl⟩

theorem State.rescueTaken_idle (h : s.engine = .idle) : s.rescueTaken = s.engineNext := by
  unfold State.rescueTaken
  rw [h]

theorem State.rescueTaken_rescue {w : Work} (h : s.engine = .rescue w) : s.rescueTaken = s := by
  unfold State.rescueTaken
  rw [h]

theorem State.rescueTaken_flying {w : Work} (h : s.engine = .refresh w) (hflight : w.flight ≠ .none_) :
    s.rescueTaken = { s with engine := .refresh { w with aside := true } } := by
  unfold State.rescueTaken
  rw [h]
  exact if_neg hflight

theorem State.rescueTaken_waiting {w : Work} (h : s.engine = .refresh w) (hflight : w.flight = .none_) : s.rescueTaken = s.setAside w := by
  unfold State.rescueTaken
  rw [h]
  exact if_pos hflight

end Capture

/-- Settles O57: a capture page's completion advances its unit or enters a rescue; for a copied page each way on is a lemma of its own
(`copy_reads`, `copy_refreshed`, `copy_rescued`, `copy_restarts`), and so is each way in which work ends early. -/
theorem programsComplete : Obligations.ProgramsComplete := by
  refine ⟨fun b cls n id tp u p at_ buf e s => ?capture, fun b cls n d p at_ buf z w src x s => ?copy,
    fun d dst w s hdest hready hreclaim hdrop hdst hflight hnum => ?ended⟩
  case capture =>
    intro op x after done failed again hbusy hu hstate hrole
    have hfail := captureDone_fail hbusy hu hstate hrole
    refine ⟨fun hmore hfinal hdrop hengine => ?more, fun hlast hdrop hengine hfifo => ?last, fun w hengine => ?rescue,
      fun hengine => ?idle, fun w hengine hflight => ?flying, fun w hengine hflight => ?waiting⟩
    case more =>
      refine captureDone_more hbusy hu hstate hrole ?_ ⟨hdrop, hengine ▸ rfl⟩
      rintro (h | h)
      · exact hmore h
      · cases hf : e.finalPage with
        | none => rw [show e.advanced.finalPage = e.finalPage from rfl, hf] at h; cases h
        | some f =>
          rw [show e.advanced.finalPage = e.finalPage from rfl, hf] at h
          exact absurd (of_decide_eq_true h) (Nat.not_lt.mpr (hfinal f hf))
    case last =>
      refine captureDone_last hbusy hu hstate hrole ?_ hdrop hengine hfifo
      obtain h | h := hlast
      · exact .inl h
      · refine .inr ?_
        rw [show e.advanced.finalPage = e.finalPage from rfl, h]
        exact decide_eq_true (Nat.lt_succ_self _)
    case rescue =>
      obtain ⟨hsame, htakes⟩ := State.engine_programLost (s := s) (b := b) (u := u) (p := p) (e := e) op buf
      rw [hfail, State.rescueTaken_rescue (hsame.trans hengine), State.settle_same htakes]
      rfl
    case idle =>
      obtain ⟨hsame, -⟩ := State.engine_programLost (s := s) (b := b) (u := u) (p := p) (e := e) op buf
      rw [hfail, State.rescueTaken_idle (hsame.trans hengine)]
      rfl
    case flying =>
      obtain ⟨hsame, htakes⟩ := State.engine_programLost (s := s) (b := b) (u := u) (p := p) (e := e) op buf
      rw [hfail, State.rescueTaken_flying (hsame.trans hengine) hflight, State.settle_same (by exact htakes)]
      rfl
    case waiting =>
      obtain ⟨hsame, -⟩ := State.engine_programLost (s := s) (b := b) (u := u) (p := p) (e := e) op buf
      rw [hfail, State.rescueTaken_waiting (hsame.trans hengine) hflight]
      rfl
  case copy =>
    intro copied freed erases reads hbusy hengine hsrc hne hnum
    have hpass := execCopyProgram_pass hbusy (show s.engine = .of z w from hengine)
    refine ⟨fun e hstopping haside hfind hmore => ?reads,
      fun hz hbuf hstopping haside hpages hready hresc hfifo hreclaim hdrop hflight => ?refreshed,
      fun e hz hbuf hstopping haside hresc he hpages hready hfifo hdrop hbank => ?rescued,
      fun m rest hz hbuf hstopping haside hlist hlen hlow hseq hbank => ?restarts, fun hstopping => ?stops, fun hstopping haside => ?aside⟩
    case reads =>
      have hpages : if z then ∃ y, s.rescues.find? (fun y => y.unit == w.source) = some y ∧ y.page = (if z then e.page else src.nextPage)
          else src.nextPage = (if z then e.page else src.nextPage) := by
        cases z with
        | true => exact ⟨e, hfind rfl, rfl⟩
        | false => rfl
      exact copy_reads hbusy hengine hsrc hne hnum hstopping haside hpages hmore
    case refreshed =>
      subst hz
      exact copy_refreshed hbusy hengine hsrc hne hnum hbuf hstopping haside hpages hready hresc hfifo hreclaim hdrop hflight
    case rescued =>
      subst hz
      exact copy_rescued hbusy hengine hsrc hne hnum hbuf hstopping haside hresc he hpages hready hfifo hdrop hbank
    case restarts =>
      subst hz
      exact copy_restarts hbusy hengine hnum hbuf hstopping haside hlist hlen hlow hseq hbank
    case stops =>
      rw [hpass, if_pos hstopping]
      rfl
    case aside =>
      rw [hpass, if_neg (by simp [hstopping]), if_pos haside]
      rfl
  case ended =>
    rw [State.setAside_eq hdest hready hreclaim hdrop hdst hflight hnum, State.stopWork_eq hdest hready hreclaim hdrop hdst hflight hnum]
    cases hbuf : w.buf with
    | none =>
      simp only [State.workDropped, State.bufferFreed, hbuf]
      exact ⟨rfl, rfl⟩
    | some buf =>
      simp only [State.workDropped, State.bufferFreed, hbuf]
      exact ⟨rfl, rfl⟩

end Sys2Proof.Machine
end

section
/-! The choice of chains from the scan records (R175, R176), a chain's length (R177) and its segments (R179). -/

namespace Sys2Proof.Machine

section Claims

/-- Of claimants, `y` is at least as good as `z`: more pages, or as many and no lower write sequence (R175). -/
def ScanRec.atLeast (y z : ScanRec) : Prop :=
  z.n < y.n ∨ z.n = y.n ∧ (z.tag.map Tag.seq).getD 0 ≤ (y.tag.map Tag.seq).getD 0

theorem ScanRec.atLeast_refl (y : ScanRec) : y.atLeast y := .inr ⟨rfl, Nat.le_refl _⟩

theorem ScanRec.atLeast_trans {x y z : ScanRec} (hxy : x.atLeast y) (hyz : y.atLeast z) : x.atLeast z := by
  unfold ScanRec.atLeast at *
  omega

theorem betterClaim_cases (y z : ScanRec) : betterClaim y z = y ∨ betterClaim y z = z := by
  unfold betterClaim
  split
  · exact .inr rfl
  · exact .inl rfl

theorem betterClaim_atLeast (y z : ScanRec) : (betterClaim y z).atLeast y ∧ (betterClaim y z).atLeast z := by
  unfold betterClaim
  split
  · next h => exact ⟨by unfold ScanRec.atLeast; omega, z.atLeast_refl⟩
  · next h => exact ⟨y.atLeast_refl, by unfold ScanRec.atLeast; omega⟩

/-- The claimant kept of a list is one of them, and at least as good as each. -/
theorem foldl_betterClaim (ys : List ScanRec) (y : ScanRec) :
    ys.foldl betterClaim y ∈ y :: ys ∧ ∀ z ∈ y :: ys, (ys.foldl betterClaim y).atLeast z := by
  induction ys generalizing y with
  | nil => exact ⟨List.mem_singleton_self _, fun z hz => by rw [List.mem_singleton.mp hz]; exact y.atLeast_refl⟩
  | cons x ys ih =>
    obtain ⟨hmem, hbest⟩ := ih (betterClaim y x)
    have hfirst := hbest _ List.mem_cons_self
    obtain ⟨hy, hx⟩ := betterClaim_atLeast y x
    constructor
    · obtain h | h := List.mem_cons.mp hmem
      · obtain he | he := betterClaim_cases y x <;> rw [List.foldl_cons, h, he] <;> simp
      · exact List.mem_cons_of_mem _ (List.mem_cons_of_mem _ h)
    · intro z hz
      obtain rfl | hz := List.mem_cons.mp hz
      · exact ScanRec.atLeast_trans hfirst hy
      · obtain rfl | hz := List.mem_cons.mp hz
        · exact ScanRec.atLeast_trans hfirst hx
        · exact hbest z (List.mem_cons_of_mem _ hz)

theorem keptClaim_best {scans : List ScanRec} {take chain : Nat} {y : ScanRec} (h : keptClaim scans take chain = some y) :
    (y ∈ scans ∧ y.claims take chain = true) ∧ ∀ z ∈ scans, z.claims take chain = true → y.atLeast z := by
  unfold keptClaim at h
  split at h
  · cases h
  · next first rest hlist =>
    cases h
    obtain ⟨hmem, hbest⟩ := foldl_betterClaim rest first
    rw [← hlist] at hmem hbest
    exact ⟨List.mem_filter.mp hmem, fun z hz hclaims => hbest z (List.mem_filter.mpr ⟨hz, hclaims⟩)⟩

end Claims

section Runs

variable (scans : List ScanRec) (take : Nat)

/-- The units of a kept run: each the claimant kept of its chain index, and each but the last with 64 pages (R176). -/
theorem keptRun_get (fuel chain i : Nat) (h : i < (keptRun scans take fuel chain).length) :
    keptClaim scans take (chain + i) = some (keptRun scans take fuel chain)[i] ∧
      (i + 1 < (keptRun scans take fuel chain).length → (keptRun scans take fuel chain)[i].pages.length = 64) := by
  induction fuel generalizing chain i with
  | zero => exact absurd h (Nat.not_lt_zero i)
  | succ fuel ih =>
    cases hclaim : keptClaim scans take chain with
    | none =>
      have hrun : keptRun scans take (fuel + 1) chain = [] := by rw [keptRun, hclaim]
      simp [hrun] at h
    | some y =>
      by_cases hfull : y.n = Config.unitPages
      · have hrun : keptRun scans take (fuel + 1) chain = y :: keptRun scans take fuel (chain + 1) := by
          rw [keptRun, hclaim]
          exact if_pos hfull
        simp only [hrun] at h ⊢
        cases i with
        | zero => exact ⟨hclaim, fun _ => hfull⟩
        | succ i =>
          obtain ⟨hkept, hpages⟩ := ih (chain + 1) i (Nat.lt_of_succ_lt_succ h)
          rw [Nat.add_right_comm] at hkept
          exact ⟨hkept, fun hlt => hpages (Nat.lt_of_succ_lt_succ hlt)⟩
      · have hrun : keptRun scans take (fuel + 1) chain = [y] := by
          rw [keptRun, hclaim]
          exact if_neg hfull
        simp only [hrun] at h ⊢
        obtain rfl : i = 0 := Nat.lt_one_iff.mp h
        exact ⟨hclaim, fun hlt => absurd hlt (Nat.lt_irrefl 1)⟩

theorem keptChain_get (i : Nat) (h : i < (keptChain scans take).run.length) :
    keptClaim scans take i = some (keptChain scans take).run[i] ∧
      (i + 1 < (keptChain scans take).run.length → (keptChain scans take).run[i].pages.length = 64) := by
  have hget := keptRun_get scans take (scans.length + 1) 0 i h
  rw [Nat.zero_add] at hget
  exact hget

theorem keptChain_short : (keptChain scans take).short = true ↔
    (∃ z ∈ scans, ∃ t, z.tag = some t ∧ t.take = take ∧ (keptChain scans take).run.length ≤ t.chain) ∨
      ∃ z, (keptChain scans take).run.getLast? = some z ∧ z.cause = some .unreadable := by
  simp [keptChain, Option.any_eq_true, Option.bind_eq_some_iff]

theorem eraseDups_sublist : ∀ l : List Nat, l.eraseDups.Sublist l
  | [] => by simp
  | a :: l => by
    rw [List.eraseDups_cons]
    exact ((eraseDups_sublist _).trans List.filter_sublist).cons_cons a
termination_by l => l.length
decreasing_by exact Nat.lt_succ_of_le (List.length_filter_le ..)

/-- The take ids with a candidate at chain index 0 ascend, each once (R176). -/
theorem chainTakes_ascending : (chainTakes scans).Pairwise fun i j => i < j := by
  unfold chainTakes
  have hsorted := (sortBy_pairwise id (scans.filterMap fun y => (y.tag.filter fun t => t.chain == 0).map Tag.take)).sublist (eraseDups_sublist _)
  exact (hsorted.and (nodup_eraseDups _)).imp fun ⟨hle, hne⟩ => Nat.lt_of_le_of_ne hle hne

theorem mem_chainTakes (i : Nat) : i ∈ chainTakes scans ↔ ∃ z ∈ scans, ∃ t, z.tag = some t ∧ t.chain = 0 ∧ t.take = i := by
  rw [chainTakes, List.mem_eraseDups, (sortBy_perm id _).mem_iff]
  simp [Option.filter_eq_some_iff, and_assoc]

end Runs

section Lengths

variable {bpp : Nat}

/-- Full pages give the take's blocks per page each; the first page not full ends the length (R177). -/
theorem pagesLength_full_append {ps : List ScanPage} (h : ∀ z ∈ ps, z.valid = bpp) (qs : List ScanPage) :
    pagesLength bpp (ps ++ qs) = bpp * ps.length + pagesLength bpp qs := by
  induction ps with
  | nil => simp
  | cons p ps ih =>
    obtain ⟨hp, hps⟩ := List.forall_mem_cons.mp h
    rw [List.cons_append, pagesLength, if_neg (by omega), ih hps, List.length_cons, Nat.mul_succ]
    omega

theorem pagesLength_full {ps : List ScanPage} (h : ∀ z ∈ ps, z.valid = bpp) : pagesLength bpp ps = bpp * ps.length := by
  have := pagesLength_full_append h []
  rwa [List.append_nil, show pagesLength bpp [] = 0 from rfl, Nat.add_zero] at this

end Lengths

theorem Chain.mem_marks (c : Chain) (length : Nat) (m : Mark) : m ∈ c.marks length ↔
    (∃ y ∈ c.pages.drop 1, m ∈ y.marks) ∧ (m.block < length ∨ m.block = length ∧ m.kind ≠ .cut) := by
  simp only [Chain.marks, List.mem_filter, List.mem_flatMap, Bool.or_eq_true, decide_eq_true_eq, Bool.and_eq_true, bne_iff_ne, beq_iff_eq]
  exact and_congr Iff.rfl (or_congr Iff.rfl and_comm)

section Segments

/-- The segments a restoration makes from index `i` and block `f` on: they follow one another without a gap up to the length, and the CUT
marks kept stand at the firsts of those after the first (R179). -/
structure Restored.Follows (length i f : Nat) (r : Restored) : Prop where
  nonempty : r.segments ≠ []
  segment : ∀ (k : Nat) (h : k < r.segments.length), r.segments[k].index = i + k ∧
    ∃ l, r.segments[k].last = some l ∧ r.segments[k].first ≤ l ∧
      l + 1 = if h' : k + 1 < r.segments.length then r.segments[k + 1].first else length
  head : r.segments.head?.map Segment.first = some f
  cuts : (r.marks.filter fun m => m.kind == .cut).map (fun m => (m.code, m.block)) =
    (r.segments.drop 1).map fun g => (g.index, g.first)

theorem restoreSegments_follows {length : Nat} (ms : List Mark) (hms : ∀ m ∈ ms, m.kind = .cut → m.block < length) (free i f : Nat)
    (hf : f < length) : (restoreSegments length ms free i f).Follows length i f := by
  induction ms generalizing free i f with
  | nil =>
    refine ⟨by simp [restoreSegments], fun k h => ?_, rfl, rfl⟩
    obtain rfl : k = 0 := Nat.lt_one_iff.mp h
    exact ⟨rfl, length - 1, rfl, Nat.le_sub_one_of_lt hf, Nat.sub_add_cancel (Nat.one_le_of_lt hf)⟩
  | cons m ms ih =>
    obtain ⟨hm, hms⟩ := List.forall_mem_cons.mp hms
    rw [restoreSegments]
    split
    · next hkind =>
      obtain ⟨hne, hseg, hhead, hcuts⟩ := ih hms free i f hf
      refine ⟨hne, hseg, hhead, ?_⟩
      rw [← hcuts]
      simp [hkind]
    · next hkind =>
      have hkind : m.kind = .cut := Decidable.not_not.mp hkind
      split
      · exact ih hms free i f hf
      · next hlater =>
        split
        · obtain ⟨hne, hseg, hhead, hcuts⟩ := ih hms free i f hf
          exact ⟨hne, hseg, hhead, hcuts⟩
        · obtain ⟨hne, hseg, hhead, hcuts⟩ := ih hms (free - 1) (i + 1) m.block (hm hkind)
          generalize restoreSegments length ms (free - 1) (i + 1) m.block = r at hne hseg hhead hcuts ⊢
          obtain ⟨segs, marks, lacking⟩ := r
          obtain _ | ⟨g, gs⟩ := segs
          · exact absurd rfl hne
          have hfirst : g.first = m.block := by simpa using hhead
          have hindex : g.index = i + 1 := (hseg 0 (Nat.zero_lt_succ _)).1
          refine ⟨by simp, fun k h => ?_, rfl, ?_⟩
          · cases k with
            | zero =>
              refine ⟨rfl, m.block - 1, rfl, by show f ≤ _; omega, ?_⟩
              rw [dif_pos (by simp)]
              show m.block - 1 + 1 = g.first
              omega
            | succ k =>
              obtain ⟨hk, l, hl, hle, hnext⟩ := hseg k (by simpa using h)
              refine ⟨by simp only [List.getElem_cons_succ]; rw [hk]; omega, l, hl, hle, ?_⟩
              simpa using hnext
          · simp [hkind, hcuts, hindex, hfirst]

end Segments

end Sys2Proof.Machine
end

section
/-! The stages of the rebuild: takes, marks, segments and tables restored (R177 to R180). -/

namespace Sys2Proof.Machine

section Takes

variable {s : State} {id : Nat} {t : Take}

theorem State.mem_of_findTake (h : s.findTake id = some t) : t ∈ s.takes ∧ t.id = id :=
  ⟨List.mem_of_find?_eq_some h, by simpa using List.find?_some h⟩

/-- Where each id stands once, a change of a record is known by what it makes of the one record. -/
theorem State.modTake_congr (h : s.findTake id = some t) (hnd : (s.takes.map Take.id).Nodup) {f g : Take → Take} (hfg : f t = g t) :
    s.modTake id f = s.modTake id g := by
  obtain ⟨hmem, hid⟩ := State.mem_of_findTake h
  unfold State.modTake
  congr 1
  refine List.map_congr_left fun x hx => ?_
  by_cases hxid : x.id = id
  · obtain rfl : x = t := eq_of_nodup_map hnd hx hmem (hxid.trans hid.symm)
    simp [hxid, hfg]
  · simp [hxid]

theorem State.ids_modTake (s : State) (id : Nat) {f : Take → Take} (hf : ∀ t, (f t).id = t.id) :
    (s.modTake id f).takes.map Take.id = s.takes.map Take.id := by
  show (s.takes.map _).map Take.id = _
  rw [List.map_map]
  refine List.map_congr_left fun x _ => ?_
  by_cases hx : x.id = id <;> simp [hx, hf]

/-- A change of one record that adds one to a number of it adds one to the sum. -/
theorem sum_map_modTake {l : List Take} {g : Take → Nat} {f : Take → Take} (hf : ∀ t, g (f t) = g t + 1) (hnd : (l.map Take.id).Nodup)
    (hmem : id ∈ l.map Take.id) : ((l.map fun t => if t.id = id then f t else t).map g).sum = (l.map g).sum + 1 := by
  induction l with
  | nil => cases hmem
  | cons x l ih =>
    obtain ⟨hx, hnd⟩ := List.nodup_cons.mp hnd
    rw [List.map_cons, List.map_cons, List.map_cons, List.sum_cons, List.sum_cons]
    by_cases hid : x.id = id
    · have hrest : (l.map fun t => if t.id = id then f t else t) = l := by
        refine (List.map_congr_left fun y hy => ?_).trans (List.map_id l)
        have hne : y.id ≠ id := fun e => hx (by rw [hid, ← e]; exact List.mem_map_of_mem hy)
        simp [hne]
      rw [if_pos hid, hf, hrest]
      omega
    · have hmem : id ∈ l.map Take.id := (List.mem_cons.mp hmem).resolve_left fun e => hid e.symm
      rw [if_neg hid, ih hnd hmem]
      omega

end Takes

section Marks

variable {s : State} {id : Nat} {t : Take}

theorem length_insertMark (m : Mark) (l : List Mark) : (insertMark m l).length = l.length + 1 := by
  induction l with
  | nil => rfl
  | cons x l ih =>
    unfold insertMark
    split
    · rfl
    · rw [List.length_cons, ih, List.length_cons]

/-- A take with marks placed in its list. -/
def Take.withMarks (ms : List Mark) (t : Take) : Take := { t with marks := ms.foldl (fun l m => insertMark m l) t.marks }

theorem State.freeMarks_addMark (h : s.findTake id = some t) (hnd : (s.takes.map Take.id).Nodup) (m : Mark) :
    (s.addMark id m).freeMarks = s.freeMarks - 1 := by
  obtain ⟨hmem, hid⟩ := State.mem_of_findTake h
  have hsum := sum_map_modTake (g := fun t => t.marks.length) (f := fun t => { t with marks := insertMark m t.marks }) (id := id)
    (fun t => length_insertMark m t.marks) hnd (hid ▸ List.mem_map_of_mem hmem)
  show Config.markRecords - ((s.takes.map fun t => if t.id = id then _ else t).map fun t => t.marks.length).sum = _
  rw [hsum]
  exact Nat.sub_add_eq ..

/-- Marks are placed while records are free; the others are lost (R178). -/
theorem State.restoreMarks_eq (ms : List Mark) (s : State) {t : Take} (h : s.findTake id = some t) (hnd : (s.takes.map Take.id).Nodup) :
    State.restoreMarks id ms s = (s.modTake id (Take.withMarks (ms.take s.freeMarks)), ms.length - s.freeMarks) := by
  induction ms generalizing s t with
  | nil =>
    have hsame : s.modTake id (Take.withMarks []) = s := by
      show { s with takes := s.takes.map fun t => if t.id = id then t else t } = s
      simp
    rw [List.take_nil, hsame]
    simp [State.restoreMarks]
  | cons m ms ih =>
    rw [State.restoreMarks]
    split
    · next hfree =>
      have hfind : (s.addMark id m).findTake id = some { t with marks := insertMark m t.marks } := by
        rw [State.addMark, State.findTake_modTake_same (hf := by exact fun _ => rfl), h]
        rfl
      have hnd' : ((s.addMark id m).takes.map Take.id).Nodup := by
        rw [State.addMark, State.ids_modTake (hf := by exact fun _ => rfl)]
        exact hnd
      obtain ⟨k, hk⟩ : ∃ k, s.freeMarks = k + 1 := ⟨_, (Nat.sub_add_cancel hfree).symm⟩
      rw [ih _ hfind hnd', State.freeMarks_addMark h hnd, hk, State.addMark, State.modTake_modTake (hf := by exact fun _ => rfl)]
      simp only [Nat.add_sub_cancel, List.take_succ_cons, List.length_cons, Nat.add_sub_add_right]
      rfl
    · next hnone =>
      have hzero : s.freeMarks = 0 := Nat.eq_zero_of_not_pos hnone
      rw [ih _ h hnd, hzero]
      simp

theorem State.restoreChainMarks_eq {c : Chain} (h : s.findTake c.take = some t) (hnd : (s.takes.map Take.id).Nodup) :
    s.restoreChainMarks c =
      let ms := (t.withMarks ((c.marks t.length).take s.freeMarks)).marks
      let u := s.modTake t.id fun y => { y with marks := ms, lostBlocks := min (lostOf ms) 4294967295 }
      if s.freeMarks < (c.marks t.length).length then u.raise (.markLost t.id none ((c.marks t.length).length - s.freeMarks)) else u := by
  have hid : t.id = c.take := (State.mem_of_findTake h).2
  rw [← hid] at h
  unfold State.restoreChainMarks
  rw [← hid, h]
  dsimp only
  rw [State.restoreMarks_eq _ _ h hnd]
  have hmods : (s.modTake t.id (Take.withMarks ((c.marks t.length).take s.freeMarks))).modTake t.id
      (fun x => { x with lostBlocks := min (lostOf x.marks) Config.max32 }) = s.modTake t.id fun y =>
        { y with
          marks := (t.withMarks ((c.marks t.length).take s.freeMarks)).marks
          lostBlocks := min (lostOf (t.withMarks ((c.marks t.length).take s.freeMarks)).marks) 4294967295 } :=
    (State.modTake_modTake s t.id (f := Take.withMarks _) (by exact fun _ => rfl)).trans (State.modTake_congr h hnd (by rfl))
  by_cases hlost : s.freeMarks < (c.marks t.length).length
  · rw [if_pos (Nat.sub_pos_of_lt hlost), if_pos hlost, ← hmods]
  · rw [if_neg (by dsimp only; omega), if_neg hlost, ← hmods]

end Marks

section Segments

variable {s : State} {id : Nat} {t : Take}

/-- The empty segment of a take of length 0 is TYPED, its take COMPLETE (R179). -/
theorem State.restoreTakeSegments_empty (h : s.findTake id = some t) (hnd : (s.takes.map Take.id).Nodup) (hlength : t.length = 0)
    (hsegs : t.segments = [⟨0, 0, none, none, 1, 0, none, none, 0⟩]) (hstate : t.state = .closed) : s.restoreTakeSegments id =
      s.modTake id fun y => { y with state := .complete, segments := [⟨0, 0, none, some .typed, 1, 0, none, none, 0⟩] } := by
  unfold State.restoreTakeSegments
  rw [h]
  dsimp only
  rw [if_pos hlength, State.makeTyped, State.checkComplete, State.modSegment, State.modTake_modTake (hf := by exact fun _ => rfl)]
  refine State.modTake_congr h hnd ?_
  simp [Take.modSegment, hsegs, hstate]

theorem State.restoreTakeSegments_eq (h : s.findTake id = some t) (hlength : 0 < t.length) : s.restoreTakeSegments id =
      let q := restoreSegments t.length t.marks s.freeSegments 0 0
      let u := s.modTake id fun y => { y with segments := q.segments, marks := q.marks }
      if q.lacking then u.raise (.segmentsFull none (some id) none none) else u := by
  unfold State.restoreTakeSegments
  rw [h]
  exact if_neg (Nat.ne_of_gt hlength)

theorem State.handOverTake_eq (h : s.findTake id = some t) : s.handOverTake id =
    (t.segments.filter fun g => g.work != some .typed).foldl (fun u g => u.handOver ⟨id, g.index⟩) s := by
  unfold State.handOverTake
  rw [h]

theorem State.restoreTake_eq {c : Chain} {y : ScanRec} {g : Tag} (hy : c.run.head? = some y) (hg : y.tag = some g) : s.restoreTake c =
    let x := s.restoredTake c g
    let u : State := { s with takes := insertTake x s.takes }
    if c.short then u.reportDamage x.id x.length else u := by
  unfold State.restoreTake
  rw [hy, Option.bind_some, hg]

end Segments

section Table

variable {scans : List ScanRec} {chains : List Chain}

theorem restoredUnit_number (u : UnitEntry) : (restoredUnit scans chains u).number = u.number := by
  unfold restoredUnit
  split <;> rfl

theorem restoredUnit_kept {u : UnitEntry} {id c : Nat} {z : ScanRec} {isLast : Bool}
    (h : chainPlace chains u.number = some (id, c, z, isLast)) : restoredUnit scans chains u =
      ⟨u.number, .full, some id, some c, some .chain, z.tag.map Tag.seq, z.pages.length,
        if isLast then some (z.pages.length - 1) else none, false, 0⟩ := by
  unfold restoredUnit
  rw [h]
  rfl

theorem restoredUnit_other {u : UnitEntry} (h : chainPlace chains u.number = none) : restoredUnit scans chains u =
    ⟨u.number, if (scans.any fun z => z.unit == u.number && z.pages.isEmpty && z.cause == some .erased) then .free else .reclaim,
      none, none, none, none, 0, none, false, 0⟩ := by
  unfold restoredUnit
  rw [h]
  rfl

end Table

section Scan

variable {s : State} {x : Rebuild} {b : BankId} {u p : Nat} {w : Window}

/-- What is left after a unit's scan has ended, with its rebuild store `y`. -/
theorem State.scanEnded_eq (hx : s.rebuild = some x) (hw : s.window b = some w) (hnum : s.requestNumber ≤ 4294967295) :
    s.scanEnded b u =
      if u + 1 < w.base + w.size then
        { s with
          rebuild := some { x with scans := x.scans ++ [⟨u + 1, none, [], none⟩] }
          flashOps := s.flashOps ++ [⟨6, s.requestNumber, .spareRead (u + 1) 0⟩]
          requestNumber := s.requestNumber + 1 }
      else if (x.scans.filter fun z => z.cause.isSome).length = s.unitsInside then s.finishRebuild x
      else s := by
  have hbegin : s.beginScan (u + 1) =
      ({ s with rebuild := some { x with scans := x.scans ++ [⟨u + 1, none, [], none⟩] } } : State).requestOp 6 (.spareRead (u + 1) 0) := by
    unfold State.beginScan
    rw [hx]
  rw [State.requestOp_eq (h := by exact hnum)] at hbegin
  unfold State.scanEnded
  rw [hw, hx]
  dsimp only
  rw [hbegin]
  rfl

/-- A page counted in the rebuild store: the running maxima, and the page in its unit's scan record (R174). -/
def Rebuild.withPage (x : Rebuild) (u : Nat) (t : Tag) (y : ScanPage) : Rebuild :=
  ⟨x.scans.map fun z =>
      if z.unit = u then { z with tag := if z.tag.isSome then z.tag else some t, pages := z.pages ++ [y], cause := none } else z,
    some (max (x.maxTake.getD 0) t.take), some (max (x.maxSeq.getD 0) t.seq)⟩

/-- The rebuild store with a unit's scan ended (R174). -/
def Rebuild.endedAs (x : Rebuild) (u : Nat) (c : ScanEnd) : Rebuild :=
  { x with scans := x.scans.map fun z => if z.unit = u then { z with cause := some c } else z }

/-- The page a scan counts, as the model enters it. -/
def ScanRec.withPage (t : Tag) (y : ScanPage) (cause : Option ScanEnd) (z : ScanRec) : ScanRec :=
  { z with tag := z.tag <|> some t, pages := z.pages ++ [y], cause := cause }

theorem ScanRec.tag_withPage (z : ScanRec) (t : Tag) : (z.tag <|> some t) = if z.tag.isSome then z.tag else some t := by
  cases z.tag <;> rfl

theorem Rebuild.modScan_withPage (x : Rebuild) (u : Nat) (t : Tag) (y : ScanPage) :
    ({ x with maxTake := runMax x.maxTake t.take, maxSeq := runMax x.maxSeq t.seq } : Rebuild).modScan u (ScanRec.withPage t y none) =
      x.withPage u t y := by
  unfold Rebuild.modScan Rebuild.withPage ScanRec.withPage
  simp only [ScanRec.tag_withPage]
  rfl

theorem Rebuild.modScan_withPage_full (x : Rebuild) (u : Nat) (t : Tag) (y : ScanPage) :
    ({ x with maxTake := runMax x.maxTake t.take, maxSeq := runMax x.maxSeq t.seq } : Rebuild).modScan u
      (ScanRec.withPage t y (some .full)) = (x.withPage u t y).endedAs u .full := by
  unfold Rebuild.endedAs Rebuild.withPage Rebuild.modScan ScanRec.withPage
  rw [List.map_map]
  congr 1
  refine List.map_congr_left fun z _ => ?_
  by_cases hz : z.unit = u <;> simp [hz, ScanRec.tag_withPage]

theorem State.scanPage_counted {r : Option (SectorResult × List Byte)} {t : Tag} {y : ScanPage} (hx : s.rebuild = some x)
    (hjudge : judge ((x.scans.find? fun z => z.unit == u).bind ScanRec.tag) r = .counted t y) : s.scanPage b u p r =
      if p + 1 = 64 then ({ s with rebuild := some ((x.withPage u t y).endedAs u .full) } : State).scanEnded b u
      else ({ s with rebuild := some (x.withPage u t y) } : State).requestOp 6 (.spareRead u (p + 1)) := by
  rw [← Rebuild.modScan_withPage_full, ← Rebuild.modScan_withPage]
  unfold State.scanPage
  rw [hx]
  dsimp only
  rw [hjudge]
  dsimp only
  by_cases hp : p + 1 = 64
  · simp only [Config.unitPages, hp, if_true]
    rfl
  · simp only [Config.unitPages, hp, if_false]
    rfl

theorem State.scanPage_ends {r : Option (SectorResult × List Byte)} {c : ScanEnd} (hx : s.rebuild = some x)
    (hjudge : judge ((x.scans.find? fun z => z.unit == u).bind ScanRec.tag) r = .ends c) : s.scanPage b u p r =
      ({ s with rebuild := some (x.endedAs u c) } : State).scanEnded b u := by
  unfold State.scanPage
  rw [hx]
  dsimp only
  rw [hjudge]
  rfl

end Scan

end Sys2Proof.Machine
end

section
/-! SPARE_READ_COMPLETE and the rebuild it finishes (R174 to R180). -/

namespace Sys2Proof.Machine

section Scan

variable {s : State} {b : BankId} {cls n u p at_ : Nat} {page : SpareRead} {x : Rebuild} {w : Window}

/-- The state in which a spare read has come, its code word counted. -/
def State.spareCame (s : State) (b : BankId) (r : Option (SectorResult × List Byte)) : State :=
  (s.setBank b .idle).countWords (r.toList.map Prod.fst)

/-- The state after a unit's scan has ended, `x` being the rebuild store (R174, R175). -/
def State.scanGoesOn (s v : State) (u : Nat) (w : Window) (x : Rebuild) : State :=
  if u + 1 < w.base + w.size then
    { v with
      rebuild := some { x with scans := x.scans ++ [⟨u + 1, none, [], none⟩] }
      flashOps := s.flashOps ++ [⟨6, s.requestNumber, .spareRead (u + 1) 0⟩]
      requestNumber := s.requestNumber + 1 }
  else if (x.scans.filter fun z => z.cause.isSome).length = s.unitsInside then ({ v with rebuild := some x } : State).finishRebuild x
  else { v with rebuild := some x }

theorem State.scanEnded_spareCame (r : Option (SectorResult × List Byte)) (hw : s.windows[b] = some w)
    (hnum : s.requestNumber ≤ 4294967295) : ({ s.spareCame b r with rebuild := some x } : State).scanEnded b u =
      s.scanGoesOn (s.spareCame b r) u w x :=
  State.scanEnded_eq (by rfl) (by exact hw) (by exact hnum)

theorem execSpareReadComplete_counted {t : Tag} {y : ScanPage} (hbusy : s.bank b = .busy ⟨cls, n, .spareRead u p⟩ u p at_)
    (hx : s.rebuild = some x) (hw : s.windows[b] = some w) (hnum : s.requestNumber ≤ 4294967295)
    (hjudge : judge ((x.scans.find? fun z => z.unit == u).bind ScanRec.tag) (readSpare (s.flashPage u p) page) = .counted t y) :
    exec (.spareReadComplete b page) s = .next
      (if p + 1 ≠ 64 then
        ({ s.spareCame b (readSpare (s.flashPage u p) page) with
            rebuild := some (x.withPage u t y)
            flashOps := s.flashOps ++ [⟨6, s.requestNumber, .spareRead u (p + 1)⟩]
            requestNumber := s.requestNumber + 1 } : State).issue
      else State.settle s (s.scanGoesOn (s.spareCame b (readSpare (s.flashPage u p) page)) u w ((x.withPage u t y).endedAs u .full))) := by
  have hpage := State.scanPage_counted (s := s.spareCame b (readSpare (s.flashPage u p) page)) (b := b) (p := p) (by exact hx) hjudge
  rw [execSpareReadComplete_eq hbusy rfl]
  refine congrArg Host.Outcome.next ((congrArg (State.settle s) hpage).trans ?_)
  by_cases hp : p + 1 = 64
  · rw [if_pos hp, if_neg (fun h => h hp), State.scanEnded_spareCame _ hw hnum]
  · rw [if_neg hp, if_pos hp, State.requestOp_eq (h := by exact hnum), State.settle_same (by rfl)]
    rfl

theorem execSpareReadComplete_ends {c : ScanEnd} (hbusy : s.bank b = .busy ⟨cls, n, .spareRead u p⟩ u p at_)
    (hx : s.rebuild = some x) (hw : s.windows[b] = some w) (hnum : s.requestNumber ≤ 4294967295)
    (hjudge : judge ((x.scans.find? fun z => z.unit == u).bind ScanRec.tag) (readSpare (s.flashPage u p) page) = .ends c) :
    exec (.spareReadComplete b page) s = .next (State.settle s (s.scanGoesOn (s.spareCame b (readSpare (s.flashPage u p) page)) u w
      (x.endedAs u c))) := by
  have hpage := State.scanPage_ends (s := s.spareCame b (readSpare (s.flashPage u p) page)) (b := b) (p := p) (by exact hx) hjudge
  rw [State.scanEnded_spareCame _ hw hnum] at hpage
  rw [execSpareReadComplete_eq hbusy rfl]
  exact congrArg (fun v => Host.Outcome.next (State.settle s v)) hpage

end Scan

/-- Settles O59: the scan by `execSpareReadComplete_counted` and `execSpareReadComplete_ends`, the choice of chains by
`keptClaim_best` and `keptChain_get`, and the stages by the lemmas about each. -/
theorem scansGoOn : Obligations.ScansGoOn := by
  refine ⟨fun b cls n u p at_ page x w s => ?scan, fun s x => ?stages, fun s c t hfind hnd => ?marks, fun s id t hfind hnd => ?segments,
    fun scans take chain y hkept => ?claim, fun scans take => ?chain, fun s c y t hy ht => ?take, fun bpp ps y hfull hy => ?length,
    fun c length m => c.mem_marks length m, fun length ms free hlength hms => ?follow, fun s x chains => ?table⟩
  case scan =>
    intro result counted judged endsAs andPage goesOn hbusy hx hw hnum
    exact ⟨fun t y hjudge => execSpareReadComplete_counted hbusy hx hw hnum hjudge,
      fun c hjudge => execSpareReadComplete_ends hbusy hx hw hnum hjudge⟩
  case stages =>
    refine ⟨State.readiness_finishRebuild s x, State.rebuild_finishRebuild s x, sortBy_perm .., sortBy_pairwise .., chainTakes_ascending _,
      fun i => mem_chainTakes _ i, rfl⟩
  case marks => exact State.restoreChainMarks_eq hfind hnd
  case segments =>
    exact ⟨fun hlength hsegs hstate => State.restoreTakeSegments_empty hfind hnd hlength hsegs hstate,
      fun hlength => State.restoreTakeSegments_eq hfind hlength, State.handOverTake_eq hfind⟩
  case claim =>
    obtain ⟨⟨hmem, hclaims⟩, hbest⟩ := keptClaim_best hkept
    exact ⟨hmem, hclaims, hbest⟩
  case chain => exact ⟨rfl, keptChain_get scans take, keptChain_short scans take⟩
  case take => exact State.restoreTake_eq hy ht
  case length =>
    refine ⟨pagesLength_full hfull, fun qs => ?_⟩
    rw [pagesLength_full_append hfull, pagesLength, if_pos hy]
  case follow =>
    obtain ⟨-, hseg, hhead, hcuts⟩ := restoreSegments_follows ms hms free 0 0 hlength
    refine ⟨fun i h => ?_, hhead, hcuts⟩
    obtain ⟨hindex, hlast⟩ := hseg i h
    exact ⟨hindex.trans (Nat.zero_add i), hlast⟩
  case table =>
    refine ⟨rfl, ?_, ?_, rfl, rfl, fun y hy => ?_⟩
    · show (match x.maxSeq with | some m => _ | none => _) = _
      cases x.maxSeq <;> rfl
    · show (s.units.map (restoredUnit x.scans chains)).map UnitEntry.number = _
      rw [List.map_map]
      exact List.map_congr_left fun y _ => restoredUnit_number y
    · obtain ⟨z, -, rfl⟩ := List.mem_map.mp hy
      rw [restoredUnit_number]
      exact ⟨fun id c q isLast h => restoredUnit_kept h, fun h => restoredUnit_other h⟩

end Sys2Proof.Machine
end
